-- ==== Sys2Proof/Word.lean ====
section
/-! DEFINITION. The plain words of the CX24: a byte, a sector's bytes, the two bays, and a pair of things kept one for
each bay. -/

namespace Sys2Proof

/-- One byte of the link, of a slot or of a sector. -/
abbrev Byte := BitVec 8

/-- The bytes of one sector (1,024 of them, R1), of a line or of a frame body. -/
abbrev Data := List Byte

/-- One of the two cartridge mechanisms (00_scope.md, section 1.4). -/
inductive Bay where
  | A
  | B
deriving DecidableEq, Repr, Inhabited

/-- The bay that is not this one; for a mirror, the secondary of a primary (R159). -/
def Bay.other : Bay → Bay
  | .A => .B
  | .B => .A

/-- State kept once for each bay. -/
structure Two (α : Type) where
  a : α
  b : α
deriving DecidableEq, Repr, Inhabited

/-- What is kept for one bay. -/
def Two.get {α : Type} (t : Two α) : Bay → α
  | .A => t.a
  | .B => t.b

/-- Change what is kept for one bay. -/
def Two.upd {α : Type} (t : Two α) (x : Bay) (f : α → α) : Two α :=
  match x with
  | .A => { t with a := f t.a }
  | .B => { t with b := f t.b }

end Sys2Proof
end

