-- ==== Sys2Proof/Config.lean ====
section
/-! DEFINITION. What the spec fixes as numbers of the part, and the one free value. -/

namespace Sys2Proof

/-- Highest logical sector of a cartridge (R2). -/
def Config.lastLogical : Nat := 277422

/-- First logical sector beyond the user area; the build cursor of a complete mirror (R158). -/
def Config.userSectors : Nat := 277423

/-- Spares of a cartridge (R3). -/
def Config.spares : Nat := 1088

/-- Most entries of a defect map (R111). -/
def Config.maxEntries : Nat := 512

/-- Slots of Buffer Memory (R37). -/
def Config.slotCount : Nat := 256

/-- Record places of the Operation Table (R49). -/
def Config.places : Nat := 16

/-- Most link records at one time (R49). -/
def Config.maxLink : Nat := 12

/-- Non-SECTOR replies at which the Link Port takes no first byte (R177). -/
def Config.replyHold : Nat := 64

/-- Longest frame body (R178). -/
def Config.maxBody : Nat := 1026

/-- FREE VALUE (log entry 4): the choice taken where the spec fixes no order between things that happen together. Nothing
constrains it; it is applied to `State.choices`, and each choice taken advances that counter. -/
opaque Config.freeChoice : Nat → Nat

end Sys2Proof
end

