-- ==== Sys2Proof/Syntax.lean ====
section
/-! DEFINITION. The commands the block takes: one constructor of Instr for each row of spec/opcode_table.json, and the
plain data their operands carry. -/

namespace Sys2Proof

/-- The condition of a physical sector (R4); `weak` marks a DATA sector whose first attempt fails (log entry 8). -/
inductive Condition where
  | data (bytes : Data) (weak : Bool)
  | blank
  | unreadable
deriving DecidableEq, Repr, Inhabited

/-- A cartridge's surface: sector key (17 × track + sector) and condition, keys strictly rising, no BLANK listed
(log entry 6). -/
abbrev Medium := List (Nat × Condition)

/-- What the medium does of itself to one sector (R4). -/
inductive MediumChange where
  | unreadable
  | weak
deriving DecidableEq, Repr

/-- What a WRITE pass leaves on one sector, as far as the medium decides it (R6). -/
inductive WriteResponse where
  | took
  | differs (bytes : Data)
  | unreadable
deriving DecidableEq, Repr

/-- What the mechanism met on one covered sector of a pass: how many attempts failed first (READ, VERIFY) and what the
write left (WRITE). -/
structure SectorResponse where
  fails : Nat
  wrote : WriteResponse
deriving DecidableEq, Repr

/-- What a power cut left on the sector under the head (R8). -/
inductive UnderHead where
  | kept
  | blank
  | data (bytes : Data)
  | unreadable
deriving DecidableEq, Repr

/-- Where a pass stood when the power was cut (R8): sectors already passed over, what the medium did on each of them, and
the sector under the head. -/
structure Cut where
  passed : Nat
  responses : List SectorResponse
  under : UnderHead
deriving DecidableEq, Repr

/-- Status of a SECTOR frame (R188, Table 13-5). -/
inductive SectorStatus where
  | data
  | blank
  | unreadable
deriving DecidableEq, Repr

/-- Preemption mode (R75, R88). -/
inductive PreemptionMode where
  | nested
  | runToEnd
deriving DecidableEq, Repr

/-- One slice of the slice pattern (R186). -/
inductive Slice where
  | reply
  | report
deriving DecidableEq, Repr

/-- A zone as SET_ZONES gives it and Zone Check holds it (R171, R173). -/
structure Zone where
  first : Nat
  last : Nat
  readMask : BitVec 8
  writeMask : BitVec 8
deriving DecidableEq, Repr

/-- The three marks, in KiB (R129). -/
structure Marks where
  low : Nat
  high : Nat
  prime : Nat
deriving DecidableEq, Repr

/-- A SETUP's settings (R181, R182): outer `none`, absent; inner `none`, a byte that names no value of the range. -/
structure SetupFields where
  readCap : Option Nat
  margin : Option Nat
  pattern : Option (List (Option Slice))
  mode : Two (Option (Option PreemptionMode))
  spinDown : Two (Option Nat)
  weak : Two (Option (Option Bool))
deriving DecidableEq, Repr

/-- A command. `ch` and `tag` are the frame header's channel and tag; a bay of `none` is a byte that names no bay. -/
inductive Instr where
  /-- POWER_ON_RESET (R35): where the pass in flight on each bay was cut. -/
  | powerOnReset (cut : Two Cut)
  /-- RESET (R183). -/
  | reset (ch : Fin 4) (tag : Fin 256)
  /-- LINK_RESET_LINE_ASSERTED (R183). -/
  | linkResetLineAsserted
  /-- LINK_RESET_LINE_RELEASED (R183). -/
  | linkResetLineReleased
  /-- BYTE_ARRIVAL (R177). -/
  | byteArrival (byte : Byte)
  /-- FIRST_BYTE_TAKEN (R177). -/
  | firstByteTaken
  /-- INCOMPLETE_FRAME_TIMEOUT (R177). -/
  | incompleteFrameTimeout
  /-- DISCARD_QUIET_TIMEOUT (R178). -/
  | discardQuietTimeout
  /-- READ (R55). -/
  | read (ch : Fin 4) (tag : Fin 256) (bay : Option Bay) (first count level : Nat)
  /-- WRITE (R40, R55). -/
  | write (ch : Fin 4) (tag : Fin 256) (bay : Option Bay) (first count level : Nat)
  /-- SECTOR from the workstation (R58); a status of `none` names no status. -/
  | sector (ch : Fin 4) (tag : Fin 256) (index : Nat) (status : Option SectorStatus) (data : Data)
  /-- CANCEL (R64). -/
  | cancel (ch : Fin 4) (tag : Fin 256) (target : Fin 256)
  /-- QUERY of scope DEVICE (R180). -/
  | queryDevice (ch : Fin 4) (tag : Fin 256)
  /-- QUERY of scope BAY (R18). -/
  | queryBay (ch : Fin 4) (tag : Fin 256) (bay : Option Bay)
  /-- QUERY of scope OPERATION (R72). -/
  | queryOperation (ch : Fin 4) (tag : Fin 256) (target : Fin 256)
  /-- QUERY of scope STREAM (R126). -/
  | queryStream (ch : Fin 4) (tag : Fin 256)
  /-- QUERY of scope MIRROR (R158). -/
  | queryMirror (ch : Fin 4) (tag : Fin 256)
  /-- SETUP (R182). -/
  | setup (ch : Fin 4) (tag : Fin 256) (fields : SetupFields)
  /-- PREPARE (R29). -/
  | prepare (ch : Fin 4) (tag : Fin 256) (bay : Option Bay) (serial : BitVec 32) (name : Data)
  /-- EJECT, forced flag clear (R31). -/
  | ejectNormal (ch : Fin 4) (tag : Fin 256) (bay : Option Bay) (level : Nat)
  /-- EJECT, forced flag set (R33). -/
  | ejectForced (ch : Fin 4) (tag : Fin 256) (bay : Option Bay) (level : Nat)
  /-- SET_ZONES (R173). -/
  | setZones (ch : Fin 4) (tag : Fin 256) (bay : Option Bay) (level : Nat) (zones : List Zone)
  /-- BIND (R159). -/
  | bind (ch : Fin 4) (tag : Fin 256) (primary : Option Bay)
  /-- UNBIND (R168). -/
  | unbind (ch : Fin 4) (tag : Fin 256)
  /-- OPEN_STREAM (R128): bay, R, L, P and marks. -/
  | openStream (ch : Fin 4) (tag : Fin 256) (bay : Option Bay) (ring line pace : Nat) (marks : Option Marks)
  /-- SET_MARKS (R129). -/
  | setMarks (ch : Fin 4) (tag : Fin 256) (marks : Marks)
  /-- APPEND_BAND (R132). -/
  | appendBand (ch : Fin 4) (tag : Fin 256) (first length : Nat)
  /-- START_STREAM (R136). -/
  | startStream (ch : Fin 4) (tag : Fin 256)
  /-- STOP_STREAM (R144). -/
  | stopStream (ch : Fin 4) (tag : Fin 256)
  /-- FLUSH_STREAM (R145). -/
  | flushStream (ch : Fin 4) (tag : Fin 256)
  /-- CLOSE_STREAM (R146). -/
  | closeStream (ch : Fin 4) (tag : Fin 256)
  /-- CARTRIDGE_INSERTION (R20), with the cartridge's surface. -/
  | cartridgeInsertion (bay : Bay) (medium : Medium)
  /-- SPIN_UP_COMPLETION (R20, R24). -/
  | spinUpCompletion (bay : Bay)
  /-- SPIN_UP_FAILURE (R20, R25). -/
  | spinUpFailure (bay : Bay)
  /-- MOUNT_READ_COMPLETION (R21): attempts that failed first, for sectors 0 to 5 of track 0. -/
  | mountReadCompletion (bay : Bay) (fails : List Nat)
  /-- SPIN_DOWN_TIMER_EXPIRY (R23). -/
  | spinDownTimerExpiry (bay : Bay)
  /-- SPINDLE_STOP (R32). -/
  | spindleStop (bay : Bay)
  /-- STOP_COMPLETION (R19). -/
  | stopCompletion (bay : Bay)
  /-- PASS_COMPLETION (R78): what the mechanism met on each covered sector; a sector with no entry was met sound. -/
  | passCompletion (bay : Bay) (responses : List SectorResponse)
  /-- RECORD_LEAVES_TABLE (R68): the record by its arrival sequence. -/
  | recordLeavesTable (seq : Nat)
  /-- DEFERRED_CREATION (R54). -/
  | deferredCreation
  /-- FRAME_SENT (R184). -/
  | frameSent
  /-- LINE_REQUEST (R139). -/
  | lineRequest
  /-- BAND_ACCEPT (R141). -/
  | bandAccept
  /-- BAND_REPEAT (R142). -/
  | bandRepeat
  /-- MEDIUM_SECTOR_CHANGE (R4): bay, track, sector and the change. -/
  | mediumSectorChange (bay : Bay) (track sector : Nat) (change : MediumChange)
deriving DecidableEq, Repr

end Sys2Proof
end

