-- ==== Sys2Proof/Machine/State.lean ====
section
/-! DEFINITION. The state of the block: every piece of state the spec gives each block of 00_scope.md section 1.3, the queue
of waiting commands, and the state after power-on reset with both bays empty. -/

namespace Sys2Proof.Machine

/-! ### The Bay Mechanism and the label track -/

/-- Kind of an ejection (R18). -/
inductive EjectKind where
  | normal
  | forced
deriving DecidableEq, Repr

/-- The state from which a bay entered EJECTING (R18). -/
inductive Former where
  | ready
  | resting
  | unlabelled
  | damaged
deriving DecidableEq, Repr

/-- The nine bay states (R18). -/
inductive BayMode where
  | empty
  | loading
  | ready
  | unlabelled
  | damaged
  | faulted
  | resting
  | waking
  | ejecting (kind : EjectKind) (former : Former)
deriving DecidableEq, Repr

/-- The spindle's condition (R19). -/
inductive Spindle where
  | stopped
  | starting
  | turning
  | stopping
deriving DecidableEq, Repr

/-- The held label fields (R13). -/
structure Label where
  serial : BitVec 32
  name : Data
  preparations : Nat
deriving DecidableEq, Repr

/-- Whether a flush has been asked for and has not begun (R111, R119); `deferred` is also R54's deferred creation. -/
inductive PendingFlush where
  | none
  | deferred
  | queued
deriving DecidableEq, Repr

/-- A Defect Map in memory (R111): entries are (logical sector, spare index). -/
structure DefectMap where
  entries : List (Nat × Nat)
  cursor : Nat
  flushCount : Nat
  dirty : Bool
  pending : PendingFlush
  flushing : Option Nat
deriving DecidableEq, Repr

/-- A Bay Mechanism with what it and Zone Check hold for the cartridge (02_bays_and_cartridge_handling.md). The presence
sense is `medium.isSome`; `buffer` holds the six sectors of track 0 being read or written (R20). -/
structure Mech where
  mode : BayMode
  inhibit : Bool
  spindle : Spindle
  timer : Option Nat
  locked : Bool
  medium : Option Medium
  label : Option Label
  zones : Option (List Zone)
  map : Option DefectMap
  buffer : List (Option Data)
deriving DecidableEq, Repr

/-! ### The Operation Table -/

/-- Variety of a RELOCATE (R50, R117). -/
inductive Variety where
  | weak
  | repair
deriving DecidableEq, Repr

/-- Kind of a record with its request fields (R50). -/
inductive Kind where
  | read
  | write
  | prepare (serial : BitVec 32) (name : Data)
  | eject (forced : Bool)
  | setZones (zones : List Zone)
  | mirrorCopy
  | buildStep
  | fallbackRead
  | relocate (variety : Variety)
  | mapFlush
deriving DecidableEq, Repr

/-- Kind of a record without its request fields, as a STATUS names it (R72). -/
inductive KindName where
  | read
  | write
  | prepare
  | eject
  | setZones
  | mirrorCopy
  | buildStep
  | fallbackRead
  | relocateWeak
  | relocateRepair
  | mapFlush
deriving DecidableEq, Repr

/-- State of a record (R53). -/
inductive RecState where
  | waiting
  | active
  | suspended
  | ending
deriving DecidableEq, Repr

/-- Per-sector progress (R50): the writing kinds' values, then the reading kinds' values, FAILED being in both. -/
inductive Progress where
  | pending
  | erased
  | written
  | verified
  | relocating
  | done
  | failed
  | unread
  | read
  | awaitingFallback
deriving DecidableEq, Repr

/-- Cause of a failure (R69). -/
inductive Cause where
  | blank
  | unreadable
  | noSpare
deriving DecidableEq, Repr

/-- What a record keeps for one of its sectors (R50): progress, attempt count (0: none carried), slot, whether its data has
arrived, and the cause of its failure. -/
structure Sector where
  progress : Progress
  attempts : Nat
  slot : Option Nat
  arrived : Bool
  cause : Option Cause
deriving DecidableEq, Repr

/-- The try state of a relocation (section 8.2): the record's sector, spares tried, the spare assigned, and the progress and
attempt count on it. -/
structure Try where
  index : Nat
  tried : Nat
  spare : Option Nat
  progress : Progress
  attempts : Nat
deriving DecidableEq, Repr

/-- End cause (R50). -/
inductive EndCause where
  | cancelled
  | abandoned
deriving DecidableEq, Repr

/-- The flags of a result that are set as a record runs (R70); MORE is computed. -/
structure Flags where
  retried : Bool
  relocated : Bool
  fromMirror : Bool
  degraded : Bool
deriving DecidableEq, Repr

/-- An operation record (R50). `link` is its channel and tag; `count` is 0 where the extent is absent; `queued` is R103's
queued count; `started` that its first pass has started (R77); `writePhase` a BUILD_STEP's phase (R91); `failures` every
failure in the order recorded (R69). -/
structure Rec where
  seq : Nat
  kind : Kind
  link : Option (Nat × Nat)
  bay : Bay
  level : Nat
  first : Nat
  count : Nat
  state : RecState
  sectors : List Sector
  round : Nat
  relocations : List Try
  partners : List Nat
  endCause : Option EndCause
  failures : List (Nat × Cause)
  flags : Flags
  queued : Nat
  started : Bool
  writePhase : Bool
  stalled : Bool
deriving DecidableEq, Repr

/-! ### The Bay Scheduler -/

/-- Action of a pass (00_scope.md, section 1.4). -/
inductive Action where
  | read
  | erase
  | write
  | verify
deriving DecidableEq, Repr

/-- Owner of a pass in flight (R75): a record, the feed of the band of this serial, or nobody after a controller reset (R48,
R93). -/
inductive Owner where
  | record (seq : Nat)
  | feed (serial : Nat)
  | discarded
deriving DecidableEq, Repr

/-- A pass in flight (R75, R77): `items` are the owner's sectors it serves, `allowed` the attempts of each (R99), `data`
the bytes a WRITE records or a VERIFY compares (R106, R107), `slots` the slots it uses (R48), `relocation` that it is a
relocation's pass on a spare (R114). -/
structure Pass where
  owner : Owner
  action : Action
  track : Nat
  first : Nat
  items : List Nat
  allowed : List Nat
  data : List Data
  slots : List Nat
  relocation : Bool
deriving DecidableEq, Repr

/-- Outcome of a decision (R90). -/
inductive LastDecision where
  | feed
  | pass
  | notAdmitted
  | nothing
  | cannotStart
deriving DecidableEq, Repr

/-- A Bay Scheduler (R75). `triggered` is the model's own: a trigger of R79 not yet answered (log entry 3). -/
structure Sched where
  head : Nat
  pass : Option Pass
  active : Option Nat
  stack : List Nat
  modeSet : PreemptionMode
  mode : PreemptionMode
  last : LastDecision
  triggered : Bool
deriving DecidableEq, Repr

/-! ### Buffer Memory -/

/-- A holder of a slot (R37): a record, or after a controller reset the passes in flight that use it (R48). -/
inductive Holder where
  | record (seq : Nat)
  | passes (onA onB : Bool)
deriving DecidableEq, Repr

/-- One of the 256 slots (R37). -/
inductive Slot where
  | free
  | ring
  | held (holders : List Holder) (content : Option Data)
deriving DecidableEq, Repr

/-! ### The Stream Engine and the Exposure Port -/

/-- Why a stream is HALTED (R126). -/
inductive HaltCause where
  | stop
  | underrun
  | repeatLimit
  | eject
deriving DecidableEq, Repr

/-- State of a stream that is not CLOSED (R126). -/
inductive StreamPhase where
  | opened
  | priming
  | running
  | halted (cause : HaltCause)
deriving DecidableEq, Repr

/-- Why a band is SPOILED (R131). -/
inductive SpoilCause where
  | underrun
  | repeatLimit
deriving DecidableEq, Repr

/-- State of a band (R131). -/
inductive BandState where
  | queued
  | fetching
  | fetched
  | exposing
  | spoiled (cause : SpoilCause)
deriving DecidableEq, Repr

/-- A band of the band list (R131). `serial` is the model's own: how many bands its stream had appended before it, by which a
feed pass in flight knows its band for good (log entry 35). -/
structure Band where
  number : Nat
  serial : Nat
  first : Nat
  length : Nat
  fetched : Nat
  sent : Nat
  repeats : Nat
  state : BandState
  damaged : Bool
deriving DecidableEq, Repr

/-- A band segment of the ring (R130): the fetched bytes and how many of them have been sent. -/
structure Segment where
  band : Nat
  bytes : Data
  sent : Nat
deriving DecidableEq, Repr

/-- The stream while it is not CLOSED (R126). `appended` is the model's own: the bands appended since OPEN_STREAM (log
entry 35). -/
structure Stream where
  phase : StreamPhase
  bay : Bay
  ring : Nat
  line : Nat
  pace : Nat
  marks : Marks
  segments : List Segment
  reserved : Nat
  bands : List Band
  nextBand : Nat
  appended : Nat
  lowArmed : Bool
deriving DecidableEq, Repr

/-- The stream's counters (R126). -/
structure Tally where
  linesSent : Nat
  bandsAccepted : Nat
  underruns : Nat
  repeats : Nat
  damaged : Nat
deriving DecidableEq, Repr

/-- Why a line sent was a fill line (R138). -/
inductive FillCause where
  | spoiled
  | idle
  | notRunning
deriving DecidableEq, Repr

/-- The Exposure Port (R138); `lastLine` is the line it handed over last, none before the first (log entry 30). -/
structure Port where
  ready : Bool
  line : Nat
  fillSpoiled : BitVec 32
  fillIdle : BitVec 32
  fillNotRunning : BitVec 32
  ignoredAccept : BitVec 32
  ignoredRepeat : BitVec 32
  lastLine : Option Data
deriving DecidableEq, Repr

/-! ### Mirror Control -/

/-- Why a mirror is DEGRADED (R158). -/
inductive DegradeCause where
  | copyFailed
  | buildFailed
  | secondaryInhibited
deriving DecidableEq, Repr

/-- The build step item (R158). -/
inductive StepItem where
  | none
  | deferred
  | present
deriving DecidableEq, Repr

/-- State of a mirror that is not UNBOUND (R158). -/
inductive MirrorPhase where
  | building (step : StepItem)
  | bound
  | degraded (cause : DegradeCause)
deriving DecidableEq, Repr

/-- The mirror (R158); the secondary is the bay other than the primary (R159). -/
inductive Mirror where
  | unbound
  | paired (primary : Bay) (cursor gaps : Nat) (phase : MirrorPhase)
deriving DecidableEq, Repr

/-! ### The Link Port -/

/-- Refusal codes, in the order of Table 13-4. -/
inductive Code where
  | frameError
  | unknownKind
  | badField
  | tableFull
  | tagInUse
  | noSuchTag
  | bayEmpty
  | bayNotReady
  | writeInhibited
  | denied
  | notPrivileged
  | noBuffer
  | inStream
  | overlapWrite
  | streamState
  | rateTooHigh
  | bandShape
  | bandListFull
  | zoneOverlap
  | mirrorState
  | unexpectedData
deriving DecidableEq, Repr

/-- Status of a DONE (R184). -/
inductive DoneStatus where
  | ok
  | cancelled
  | mediaFault
  | abandoned
deriving DecidableEq, Repr

/-- Body of a DONE (R184). -/
structure DoneBody where
  status : DoneStatus
  completed : Nat
  failureCount : Nat
  failures : List (Nat × Cause)
  retried : Bool
  relocated : Bool
  fromMirror : Bool
  degraded : Bool
  more : Bool
deriving DecidableEq, Repr

/-- Outcome a CARTRIDGE_IN carries (R185). -/
inductive MountOutcome where
  | ready
  | unlabelled
  | damaged
  | faulted
deriving DecidableEq, Repr

/-- Mirror state a MIRROR_STATE report carries (R162, R165, R168). -/
inductive MirrorReport where
  | unbound
  | bound
  | degraded (cause : DegradeCause)
deriving DecidableEq, Repr

/-- Report kinds in kind order (R185). -/
inductive ReportKind where
  | cartridgeIn
  | cartridgeOut
  | mediaAlert
  | streamHalted
  | streamLow
  | bandDamaged
  | bandDone
  | streamEnd
  | mirrorState
  | spareLow
deriving DecidableEq, Repr

/-- Body of a report (R185). -/
inductive ReportBody where
  | cartridgeIn (outcome : MountOutcome)
  | cartridgeOut
  | mediaAlert
  | streamHalted (cause : HaltCause) (band : Nat)
  | streamLow (unsent : Nat)
  | bandDamaged (band : Nat)
  | bandDone (band accepted : Nat)
  | streamEnd (band : Nat)
  | mirrorState (state : MirrorReport) (cursor : Nat)
  | spareLow (free entries : Nat)
deriving DecidableEq, Repr

/-- An entry of the pending-report set (R185). -/
structure Report where
  bay : Bay
  body : ReportBody
deriving DecidableEq, Repr

/-- The settings the Link Port holds (R181); the modes stand in the schedulers. -/
structure Settings where
  readCap : Nat
  margin : Nat
  pattern : List Slice
  spinDown : Two Nat
  weak : Two Bool
deriving DecidableEq, Repr

/-- Every setting in effect, as a SETUP's STATUS gives it (R182). -/
structure SettingsStatus where
  settings : Settings
  modes : Two PreemptionMode
deriving DecidableEq, Repr

/-- STATUS of scope DEVICE (R37, R72, R180). -/
structure DeviceStatus where
  free : Nat
  ring : Nat
  held : Nat
  heldTwo : Nat
  holdings : Nat
  readCap : Nat
  records : Nat
  links : Nat
  waiting : Nat
  active : Nat
  suspended : Nat
  ending : Nat
  copies : Nat
  steps : Nat
  fallbacks : Nat
  relocates : Nat
  flushes : Nat
  deferredFlush : Two Bool
  deferredStep : Bool
  settings : SettingsStatus
  cursor : Nat
  replies : Nat
  reports : List (ReportKind × Bay)
  hold : Bool
deriving DecidableEq, Repr

/-- Owner of a pass as a STATUS names it (R75); `discarded` for one left by a controller reset (DESIGN CHOICE, log entry 46). -/
inductive OwnerStatus where
  | feed
  | discarded
  | record (kind : KindName) (link : Option (Nat × Nat))
deriving DecidableEq, Repr

/-- A pass in flight as a STATUS gives it (R75). -/
structure PassStatus where
  owner : OwnerStatus
  action : Action
  track : Nat
  first : Nat
  count : Nat
deriving DecidableEq, Repr

/-- A record as a STATUS of its bay or of a partner names it (R72, R75). -/
structure RecordStatus where
  kind : KindName
  level : Nat
  link : Option (Nat × Nat)
  first : Nat
  state : RecState
deriving DecidableEq, Repr

/-- A Defect Map as a STATUS gives it (R111). -/
structure MapStatus where
  entries : Nat
  cursor : Nat
  freeSpares : Nat
  flushCount : Nat
  dirty : Bool
  pending : PendingFlush
  flushing : Bool
deriving DecidableEq, Repr

/-- STATUS of scope BAY (R18, R75, R111, R171). -/
structure BayStatus where
  mode : BayMode
  inhibit : Bool
  spindle : Spindle
  head : Nat
  modeSet : PreemptionMode
  modeInEffect : PreemptionMode
  spinDown : Nat
  records : Nat
  timerRunning : Bool
  pass : Option PassStatus
  active : Option RecordStatus
  stack : List RecordStatus
  level : Nat
  last : LastDecision
  label : Option Label
  labelFlushCount : Option Nat
  map : Option MapStatus
  zones : Option (List Zone)
deriving DecidableEq, Repr

/-- STATUS of scope OPERATION (R72); the queued count and the round are of the per-sector progress (R50, R103). -/
structure OperationStatus where
  kind : KindName
  bay : Bay
  level : Nat
  first : Nat
  count : Nat
  state : RecState
  eligible : Bool
  held : Bool
  stalled : Bool
  endCause : Option EndCause
  progress : List (Progress × Nat)
  queued : Nat
  round : Nat
  arrived : List Nat
  slots : Nat
  relocations : List (Nat × Nat)
  partners : List RecordStatus
  relocates : List RecordStatus
  result : DoneBody
deriving DecidableEq, Repr

/-- A STATUS of scope STREAM while the stream is not CLOSED (R126, R157). -/
structure OpenStatus where
  phase : StreamPhase
  bay : Bay
  ring : Nat
  line : Nat
  pace : Nat
  marks : Marks
  segments : List (Nat × Nat × Nat)
  unsent : Nat
  retained : Nat
  reserved : Nat
  free : Nat
  bands : List Band
  nextBand : Nat
  lowArmed : Bool
  feedAt : Option (Nat × Nat)
  feedInFlight : Bool
  ready : Bool
  locked : Option Bool
  budget : Option Nat
deriving DecidableEq, Repr

/-- STATUS of scope STREAM (R126). -/
structure StreamStatus where
  opened : Option OpenStatus
  tally : Tally
  fill : List Nat
  ignored : List Nat
deriving DecidableEq, Repr

/-- STATUS of scope MIRROR (R158); `step` is the present step's phase (is it the write phase) and record state. -/
structure MirrorStatus where
  mirror : Mirror
  copies : Nat
  fallbacks : Nat
  step : Option (Bool × RecState)
deriving DecidableEq, Repr

/-- Body of a STATUS, by scope. The STATUS of a SETUP is a sixth form of its own: R182 gives it and R184 lists no scope for it
(DESIGN CHOICE, log entry 42). -/
inductive Status where
  | device (status : DeviceStatus)
  | bay (status : BayStatus)
  | operation (status : OperationStatus)
  | stream (status : StreamStatus)
  | mirror (status : MirrorStatus)
  | setup (status : SettingsStatus)
deriving DecidableEq, Repr

/-- Kind and body of a reply (R184). -/
inductive ReplyBody where
  | grant
  | refuse (code : Code)
  | sector (index : Nat) (status : SectorStatus) (data : Data)
  | done (body : DoneBody)
  | status (body : Status)
deriving DecidableEq, Repr

/-- A reply (R184), with the record that produced it, if one did (R68). -/
structure Reply where
  ch : Nat
  tag : Nat
  body : ReplyBody
  owner : Option Nat
deriving DecidableEq, Repr

/-- A frame in sending (R186). -/
inductive Outbound where
  | reply (frame : Reply)
  | report (frame : Report)
deriving DecidableEq, Repr

/-- The receive assembly (R177). -/
inductive Assembly where
  | idle
  | collecting (bytes : Data)
  | discarding
deriving DecidableEq, Repr

/-- The Link Port (R177, R184 to R187). `waiting` is a byte on the cable whose acknowledge is withheld (log entry 14). -/
structure Link where
  assembly : Assembly
  waiting : Option Byte
  replies : List Reply
  sending : Option Outbound
  reports : List Report
  cursor : Nat
  resetLine : Bool
deriving DecidableEq, Repr

/-! ### The whole block -/

/-- The state of the block. `counter` is the creation counter with its 48 bits (R52); `choices` counts the free choices taken (log entry 4); `pending` is the queue of commands. -/
structure State where
  mech : Two Mech
  sched : Two Sched
  slots : List Slot
  recs : List Rec
  counter : BitVec 48
  stream : Option Stream
  tally : Tally
  port : Port
  mirror : Mirror
  link : Link
  settings : Settings
  choices : Nat
  pending : List Instr
deriving DecidableEq, Repr

/-- The block has no fault: no command ends a run (INVENTORY.md, Faults). There is no constructor. -/
inductive Fault where
deriving DecidableEq, Repr

/-- Why a command has no meaning. -/
inductive Refusal where
  /-- Raised by `exec` alone, for a command not modelled yet; safe, since nothing can be proved of its next state. No arm
  of `exec` raises it. -/
  | notModelled (mnemonic : String)
deriving DecidableEq, Repr

/-- A Bay Mechanism with no cartridge (R35): EMPTY, unlocked, STOPPED. The label buffer's six places are empty (log
entry 9). -/
def Mech.reset : Mech where
  mode := .empty
  inhibit := false
  spindle := .stopped
  timer := none
  locked := false
  medium := none
  label := none
  zones := none
  map := none
  buffer := List.replicate 6 none

/-- A Bay Scheduler at power-on reset (R75). -/
def Sched.reset : Sched where
  head := 0
  pass := none
  active := none
  stack := []
  modeSet := .nested
  mode := .nested
  last := .nothing
  triggered := false

/-- The stream's counters at reset (R126, R148). -/
def Tally.reset : Tally where
  linesSent := 0
  bandsAccepted := 0
  underruns := 0
  repeats := 0
  damaged := 0

/-- The Exposure Port at reset (R138). -/
def Port.reset : Port where
  ready := false
  line := 16
  fillSpoiled := 0
  fillIdle := 0
  fillNotRunning := 0
  ignoredAccept := 0
  ignoredRepeat := 0
  lastLine := none

/-- The default settings (R181). -/
def Settings.reset : Settings where
  readCap := 24
  margin := 8
  pattern := [.report, .reply, .reply, .reply, .reply, .reply, .reply, .reply]
  spinDown := ⟨120, 120⟩
  weak := ⟨true, true⟩

/-- The Link Port at power-on reset (R187), with the reset line released and no byte on the cable (log entries 14, 15). -/
def Link.reset : Link where
  assembly := .idle
  waiting := none
  replies := []
  sending := none
  reports := []
  cursor := 0
  resetLine := false

/-- The block right after power-on reset (R35, R46, R73, R75, R148, R169, R187), both bays empty (log entry 5). -/
def State.reset : State where
  mech := ⟨Mech.reset, Mech.reset⟩
  sched := ⟨Sched.reset, Sched.reset⟩
  slots := List.replicate Config.slotCount .free
  recs := []
  counter := 0
  stream := none
  tally := Tally.reset
  port := Port.reset
  mirror := .unbound
  link := Link.reset
  settings := Settings.reset
  choices := 0
  pending := []

end Sys2Proof.Machine
end

