-- ==== Sys2Proof/Machine/Geometry.lean ====
section
/-! DEFINITION. The cartridge: numbering of logical sectors and spares, seek cost and pass allowance (R1 to R3, R9, R10), and
the surface of a cartridge as a list of conditions (R4 to R8). -/

namespace Sys2Proof.Machine

/-- A physical location (R1). -/
structure Loc where
  track : Nat
  sector : Nat
deriving DecidableEq, Repr

/-- Home location of a logical sector (R2). -/
def homeLoc (n : Nat) : Loc := ⟨1 + n / 17, n % 17⟩

/-- The logical sector whose home is sector `k` of user track `t` (R2). -/
def logicalOf (t k : Nat) : Nat := 17 * (t - 1) + k

/-- Location of a spare (R3). -/
def spareLoc (s : Nat) : Loc := ⟨16320 + s / 17, s % 17⟩

/-- The spare at sector `k` of spare track `t` (R3). -/
def spareOf (t k : Nat) : Nat := 17 * (t - 16320) + k

/-- Seek cost of a track distance, in sector periods (R10). -/
def seekCost (d : Nat) : Nat := if d = 0 then 0 else 6 + (d + 127) / 128

/-- Distance of two tracks (R10). -/
def trackDistance (t u : Nat) : Nat := if t ≤ u then u - t else t - u

/-- Pass allowance of a pass of `n` sectors with `k` further attempts over distance `d` (R9). -/
def passAllowance (d n k : Nat) : Nat := seekCost d + 17 + n + 17 * k

/-- Sector periods a pass takes with rotational latency `w` (R9). -/
def passTime (d w n k : Nat) : Nat := seekCost d + w + n + 17 * k

/-- Key of a location on the surface. -/
def sectorKey (t k : Nat) : Nat := 17 * t + k

/-- Condition of the sector with this key; an unlisted sector is BLANK (R4, log entry 6). -/
def conditionAt : Medium → Nat → Condition
  | [], _ => .blank
  | (k, c) :: m, n => if k = n then c else conditionAt m n

/-- Give the sector with this key a condition, keeping the keys rising and BLANK unlisted (log entry 6). -/
def setCondition : Medium → Nat → Condition → Medium
  | [], n, c => if c = .blank then [] else [(n, c)]
  | (k, d) :: m, n, c =>
    if n < k then (if c = .blank then (k, d) :: m else (n, c) :: (k, d) :: m)
    else if n = k then (if c = .blank then m else (n, c) :: m)
    else (k, d) :: setCondition m n c

/-- The canonical form of a surface: keys strictly rising from `lo`, no BLANK listed. -/
def surfaceFrom (lo : Nat) : Medium → Bool
  | [] => true
  | (k, c) :: m => decide (lo ≤ k) && decide (c ≠ .blank) && surfaceFrom (k + 1) m

/-- The surface is in canonical form. -/
def surfaceWf (m : Medium) : Bool := surfaceFrom 0 m

/-- Pad with zero bytes, or cut, to a length. -/
def padTo (n : Nat) (d : Data) : Data := (d ++ List.replicate (n - d.length) 0).take n

/-- A condition whose data has the 1,024 bytes of a sector (R1, R4, log entry 27). -/
def wholeSector : Condition → Condition
  | .data bytes weak => .data (padTo 1024 bytes) weak
  | c => c

/-- A surface in canonical form with the conditions that an inserted cartridge's list gives, those of keys within the 278,528
sectors (R1, log entry 27). -/
def surfaceOf (m : Medium) : Medium :=
  (m.filter fun p => decide (p.1 < 278528)).foldl (fun acc p => setCondition acc p.1 (wholeSector p.2)) []

/-- The condition an ERASE pass leaves (R5). -/
def afterErase (m : Medium) (keys : List Nat) : Medium := keys.foldl (fun acc k => setCondition acc k .blank) m

/-- The condition a WRITE pass leaves on one sector (R6): what the medium answers, where R6 allows it for the condition
before; any other answer leaves UNREADABLE (log entry 7). -/
def afterWriteOne (before : Condition) (bytes : Data) (response : WriteResponse) : Condition :=
  match response with
  | .took => if before = .blank then .data bytes false else .unreadable
  | .differs other =>
    if before = .blank ∨ padTo 1024 other ≠ bytes then .data (padTo 1024 other) false else .unreadable
  | .unreadable => .unreadable

/-- The conditions a WRITE pass leaves (R6), sector by sector. -/
def afterWrite : Medium → List (Nat × Data × WriteResponse) → Medium
  | m, [] => m
  | m, (k, bytes, r) :: rest => afterWrite (setCondition m k (afterWriteOne (conditionAt m k) bytes r)) rest

/-- What the sector under the head is left as when the power is cut (R8, log entry 33). -/
def afterCutOne (action : Action) (before : Condition) (under : UnderHead) : Condition :=
  match action, under with
  | .erase, .kept => before
  | .erase, _ => .blank
  | .write, .kept => before
  | .write, .blank => .blank
  | .write, .data bytes => .data (padTo 1024 bytes) false
  | .write, .unreadable => .unreadable
  | _, _ => before

/-- What MEDIUM_SECTOR_CHANGE makes of a sector (R4): it acts on a DATA sector alone. -/
def afterChange (before : Condition) (change : MediumChange) : Condition :=
  match before, change with
  | .data _ _, .unreadable => .unreadable
  | .data bytes _, .weak => .data bytes true
  | c, _ => c

/-- What a READ or VERIFY pass learned of one sector (R4, R99); `tries` counts the attempts this pass made on it. -/
inductive Found where
  | data (bytes : Data) (tries : Nat)
  | blank
  | failed (tries : Nat)
deriving DecidableEq, Repr

/-- The attempts of one pass on one sector: `allowed` by R99, `fails` failing first as the mechanism met them, `before`
attempts made by earlier passes. A weak sector fails its first attempt in all (log entry 8). -/
def attemptSector (c : Condition) (allowed fails before : Nat) : Found :=
  match c with
  | .blank => .blank
  | .unreadable => .failed allowed
  | .data bytes weak =>
    let f := if weak ∧ before = 0 then max fails 1 else fails
    if f < allowed then .data bytes (f + 1) else .failed allowed

/-- Outcome of a verified sector (R7). -/
inductive Verdict where
  | matched
  | mismatched
  | blank
  | failed
deriving DecidableEq, Repr

/-- Compare what a VERIFY found with the slot's bytes (R7). -/
def verdictOf (found : Found) (bytes : Data) : Verdict :=
  match found with
  | .data d _ => if d = bytes then .matched else .mismatched
  | .blank => .blank
  | .failed _ => .failed

/-- Attempts a pass made on a sector (R99). -/
def foundTries : Found → Nat
  | .data _ n => n
  | .blank => 1
  | .failed n => n

end Sys2Proof.Machine
end

