-- ==== Sys2Proof/Machine/LabelTrack.lean ====
section
/-! DEFINITION. The label track (R12 to R17): images of its sectors, their check words, and the class of a label track read at
a mount. -/

namespace Sys2Proof.Machine

/-- The `k` bytes of a number, most significant first (00_scope.md, section 1.5). -/
def toBytes : Nat → Nat → Data
  | 0, _ => []
  | k + 1, n => BitVec.ofNat 8 (n / 256 ^ k) :: toBytes k n

/-- The number that bytes spell, most significant first. -/
def ofBytes (d : Data) : Nat := d.foldl (fun acc b => acc * 256 + b.toNat) 0

/-- The number spelled by `k` bytes from position `at0`; bytes beyond the end count as zero. -/
def fieldAt (d : Data) (at0 k : Nat) : Nat :=
  (List.range k).foldl (fun acc i => acc * 256 + (d.getD (at0 + i) 0).toNat) 0

/-- Check word of content bytes (R12). -/
def checkWord (content : Data) : Nat := (content.foldl (fun acc b => acc + b.toNat) 0) % 65536

/-- A label-track sector: content padded to 1,022 bytes, then its check word (R12). -/
def labelSector (content : Data) : Data := padTo 1022 content ++ toBytes 2 (checkWord (padTo 1022 content))

/-- The check of a label-track sector read (R12). -/
def passesCheck (d : Data) : Bool := checkWord (d.take 1022) == fieldAt d 1022 2

/-- The identity text ILFA (R13). -/
def identityText : Data := [0x49#8, 0x4C#8, 0x46#8, 0x41#8]

/-- Image of the label, sector 0 (Table 2-1). -/
def labelImage (l : Label) : Data :=
  labelSector (identityText ++ [0x01#8] ++ toBytes 4 l.serial.toNat ++ padTo 16 l.name ++ toBytes 2 l.preparations)

/-- Ten bytes of a zone record (Table 2-2); the masks' high bits are zero. -/
def zoneBytes (z : Zone) : Data :=
  toBytes 4 z.first ++ toBytes 4 z.last ++ [z.readMask &&& 0x0F#8, z.writeMask &&& 0x0F#8]

/-- Image of the zone table, sector 1 (Table 2-2). -/
def zonesImage (zs : List Zone) : Data := labelSector (toBytes 1 zs.length ++ zs.flatMap zoneBytes)

/-- The map bytes of a map (Table 2-3), with the flush count given. -/
def mapBytes (m : DefectMap) (flushCount : Nat) : Data :=
  padTo 4088 (toBytes 2 m.entries.length ++ toBytes 2 m.cursor ++ toBytes 2 flushCount ++
    m.entries.flatMap fun e => toBytes 4 e.1 ++ toBytes 2 e.2)

/-- The four sectors 2 to 5 that record map bytes (R15). -/
def mapImages (bytes : Data) : List Data :=
  [labelSector (bytes.take 1022), labelSector ((bytes.drop 1022).take 1022),
   labelSector ((bytes.drop 2044).take 1022), labelSector ((bytes.drop 3066).take 1022)]

/-- The empty map of a prepared cartridge (R30). -/
def emptyMap : DefectMap where
  entries := []
  cursor := 0
  flushCount := 0
  dirty := false
  pending := .none
  flushing := none

/-- The six images a PREPARE writes (R28). -/
def prepareImages (l : Label) : List Data := labelImage l :: zonesImage [] :: mapImages (mapBytes emptyMap 0)

/-- Two zones share a logical sector (R171). -/
def zonesOverlap (x y : Zone) : Bool := decide (x.first ≤ y.last) && decide (y.first ≤ x.last)

/-- Some two zones of the list share a logical sector. -/
def anyOverlap : List Zone → Bool
  | [] => false
  | z :: zs => zs.any (zonesOverlap z) || anyOverlap zs

/-- Bounds of a zone (R16, R171). -/
def zoneInBounds (z : Zone) : Bool := decide (z.first ≤ z.last) && decide (z.last ≤ Config.lastLogical)

/-- A zone put in its place in ascending order of first sector. -/
def insertZone (z : Zone) : List Zone → List Zone
  | [] => [z]
  | y :: ys => if z.first ≤ y.first then z :: y :: ys else y :: insertZone z ys

/-- Zones in ascending order of first sector, their masks' high bits disregarded (R171, R173). -/
def sortZones (zs : List Zone) : List Zone :=
  zs.foldl (fun acc z => insertZone ⟨z.first, z.last, z.readMask &&& 0x0F#8, z.writeMask &&& 0x0F#8⟩ acc) []

/-- Zone `z` of a zone-table sector (Table 2-2). -/
def zoneAt (d : Data) (z : Nat) : Zone where
  first := fieldAt d (1 + 10 * z) 4
  last := fieldAt d (5 + 10 * z) 4
  readMask := BitVec.ofNat 8 (fieldAt d (9 + 10 * z) 1) &&& 0x0F#8
  writeMask := BitVec.ofNat 8 (fieldAt d (10 + 10 * z) 1) &&& 0x0F#8

/-- Entries name logical sectors in strictly ascending order, within the user area (R16, R111). -/
def entriesAscend : List (Nat × Nat) → Bool
  | [] => true
  | e :: [] => decide (e.1 ≤ Config.lastLogical)
  | e :: f :: es => decide (e.1 < f.1) && entriesAscend (f :: es)

/-- The spare indexes are distinct. -/
def sparesDistinct : List (Nat × Nat) → Bool
  | [] => true
  | e :: es => es.all (fun f => decide (f.2 ≠ e.2)) && sparesDistinct es

/-- The conditions of R16 on a map's header and entries. -/
def mapSound (m : DefectMap) : Bool :=
  decide (m.entries.length ≤ Config.maxEntries) && decide (m.cursor ≤ Config.spares) && entriesAscend m.entries &&
    m.entries.all (fun e => decide (e.2 < m.cursor)) && sparesDistinct m.entries

/-- Class of a label track read (R16). -/
inductive TrackClass where
  | blank
  | faulty
  | sound (label : Label) (zones : List Zone) (map : DefectMap)
deriving DecidableEq, Repr

/-- The map that map bytes record (Table 2-3), clean and with no flush pending (R21, R111). -/
def mapOfBytes (d : Data) : DefectMap where
  entries := (List.range (fieldAt d 0 2)).map fun i => (fieldAt d (6 + 6 * i) 4, fieldAt d (10 + 6 * i) 2)
  cursor := fieldAt d 2 2
  flushCount := fieldAt d 4 2
  dirty := false
  pending := .none
  flushing := none

/-- The label that sector 0 records (Table 2-1). -/
def labelOfBytes (d : Data) : Label where
  serial := BitVec.ofNat 32 (fieldAt d 5 4)
  name := (d.drop 9).take 16
  preparations := fieldAt d 25 2

/-- Class of six sectors that were all read as DATA (R16). -/
def classOfData (s0 s1 s2 s3 s4 s5 : Data) : TrackClass :=
  let zs := (List.range (fieldAt s1 0 1)).map (zoneAt s1)
  let bytes := s2.take 1022 ++ s3.take 1022 ++ s4.take 1022 ++ s5.take 1022
  if [s0, s1, s2, s3, s4, s5].all passesCheck && decide (s0.take 4 = identityText) && decide (fieldAt s0 4 1 = 1) &&
      decide (fieldAt s1 0 1 ≤ 8) && zs.all zoneInBounds && !anyOverlap zs && decide (fieldAt bytes 0 2 ≤ Config.maxEntries) &&
      mapSound (mapOfBytes bytes) then
    .sound (labelOfBytes s0) (sortZones zs) (mapOfBytes bytes)
  else .faulty

/-- Class of what the mount read found on sectors 0 to 5 (R16). -/
def classOf : List Found → TrackClass
  | [.blank, .blank, .blank, .blank, .blank, .blank] => .blank
  | [.data s0 _, .data s1 _, .data s2 _, .data s3 _, .data s4 _, .data s5 _] => classOfData s0 s1 s2 s3 s4 s5
  | _ => .faulty

end Sys2Proof.Machine
end

