-- ==== Sys2Proof/Machine/Ops.lean ====
section
/-! DEFINITION. The named operations over the state: one modifier for each field of State, the reply queue and the report set
of the Link Port (R184 to R186), the slots of Buffer Memory (R37 to R39), look-up of records, and triggers (R79). -/

namespace Sys2Proof.Machine

/-! ### Modifiers: the only places where a field of State is replaced -/

/-- Change the Bay Mechanism of a bay. -/
def State.mapMech (s : State) (b : Bay) (f : Mech → Mech) : State := { s with mech := s.mech.upd b f }

/-- Change the Bay Scheduler of a bay. -/
def State.mapSched (s : State) (b : Bay) (f : Sched → Sched) : State := { s with sched := s.sched.upd b f }

/-- Replace the slots. -/
def State.withSlots (s : State) (x : List Slot) : State := { s with slots := x }

/-- Replace the records. -/
def State.withRecs (s : State) (x : List Rec) : State := { s with recs := x }

/-- Replace the creation counter. -/
def State.withCounter (s : State) (n : BitVec 48) : State := { s with counter := n }

/-- Replace the stream. -/
def State.withStream (s : State) (x : Option Stream) : State := { s with stream := x }

/-- Change the stream's counters. -/
def State.mapTally (s : State) (f : Tally → Tally) : State := { s with tally := f s.tally }

/-- Change the Exposure Port. -/
def State.mapPort (s : State) (f : Port → Port) : State := { s with port := f s.port }

/-- Replace the mirror. -/
def State.withMirror (s : State) (m : Mirror) : State := { s with mirror := m }

/-- Change the Link Port. -/
def State.mapLink (s : State) (f : Link → Link) : State := { s with link := f s.link }

/-- Replace the settings. -/
def State.withSettings (s : State) (x : Settings) : State := { s with settings := x }

/-- Count one more free choice taken (log entry 4). -/
def State.choose (s : State) : State := { s with choices := s.choices + 1 }

/-- Replace the queue of commands. -/
def State.withPending (s : State) (q : List Instr) : State := { s with pending := q }

/-- The arrival sequence that the next record created takes (R52). -/
def State.nextSeq (s : State) : Nat := s.counter.toNat

/-- The Bay Mechanism of a bay. -/
def State.mechOf (s : State) (b : Bay) : Mech := s.mech.get b

/-- The Bay Scheduler of a bay. -/
def State.schedOf (s : State) (b : Bay) : Sched := s.sched.get b

/-- Change the stream when it is not CLOSED. -/
def State.mapStream (s : State) (f : Stream → Stream) : State := s.withStream (s.stream.map f)

/-- Change the Defect Map of a bay that holds one. -/
def State.mapMap (s : State) (b : Bay) (f : DefectMap → DefectMap) : State :=
  s.mapMech b fun m => { m with map := m.map.map f }

/-! ### Triggers -/

/-- A trigger reaches a bay's scheduler (R79). It is answered once the event has taken its whole effect (log entry 3). -/
def trigger (b : Bay) (s : State) : State := s.mapSched b fun c => { c with triggered := true }

/-- A trigger reaches both schedulers (R39). -/
def triggerBoth (s : State) : State := trigger .B (trigger .A s)

/-! ### Records -/

/-- The record with this arrival sequence. -/
def State.rec? (s : State) (q : Nat) : Option Rec := s.recs.find? fun r => decide (r.seq = q)

/-- Change the record with this arrival sequence. -/
def State.mapRec (s : State) (q : Nat) (f : Rec → Rec) : State :=
  s.withRecs (s.recs.map fun r => if r.seq = q then f r else r)

/-- The link record of this channel and tag (R56). -/
def State.linkRec? (s : State) (ch tag : Nat) : Option Rec := s.recs.find? fun r => decide (r.link = some (ch, tag))

/-- A record of one of the five link kinds (R49). -/
def isLink (r : Rec) : Bool := r.link.isSome

/-- A link READ. -/
def isRead (r : Rec) : Bool := decide (r.kind = .read)

/-- A link WRITE. -/
def isWrite (r : Rec) : Bool := decide (r.kind = .write)

/-- A MIRROR_COPY. -/
def isCopy (r : Rec) : Bool := decide (r.kind = .mirrorCopy)

/-- A BUILD_STEP. -/
def isStep (r : Rec) : Bool := decide (r.kind = .buildStep)

/-- A FALLBACK_READ. -/
def isFallback (r : Rec) : Bool := decide (r.kind = .fallbackRead)

/-- A MAP_FLUSH. -/
def isFlush (r : Rec) : Bool := decide (r.kind = .mapFlush)

/-- A RELOCATE of either variety. -/
def isRelocate (r : Rec) : Bool := decide (r.kind = .relocate .weak) || decide (r.kind = .relocate .repair)

/-- An EJECT record. -/
def isEject (r : Rec) : Bool := decide (r.kind = .eject true) || decide (r.kind = .eject false)

/-- A PREPARE record. -/
def isPrepare (r : Rec) : Bool :=
  match r.kind with
  | .prepare _ _ => true
  | _ => false

/-- A SET_ZONES record. -/
def isSetZones (r : Rec) : Bool :=
  match r.kind with
  | .setZones _ => true
  | _ => false

/-- A label-track writer: PREPARE, SET_ZONES or MAP_FLUSH (R96). -/
def isLabelWriter (r : Rec) : Bool := isPrepare r || isSetZones r || isFlush r

/-- A writer of section 5.4: link WRITE, MIRROR_COPY or RELOCATE. -/
def isWriter (r : Rec) : Bool := isWrite r || isCopy r || isRelocate r

/-- An unfinished record: WAITING, ACTIVE or SUSPENDED (R54). -/
def unfinished (r : Rec) : Bool := decide (r.state ≠ .ending)

/-- The record's extent covers the logical sector. -/
def covers (r : Rec) (n : Nat) : Bool := decide (r.first ≤ n) && decide (n < r.first + r.count)

/-- The extents of `n` sectors from `f` and of the record share a logical sector. -/
def overlapsExtent (r : Rec) (f n : Nat) : Bool := decide (r.first < f + n) && decide (f < r.first + r.count)

/-- The scheduler that a record belongs to: for a BUILD_STEP that of its phase (R91). -/
def schedBay (r : Rec) : Bay := if isStep r && !r.writePhase then r.bay.other else r.bay

/-- The record counts as on the bay; a BUILD_STEP counts on both (R160). -/
def onBay (b : Bay) (r : Rec) : Bool := decide (r.bay = b) || isStep r

/-- Source order of records of one level (R83): RELOCATE, MAPFLUSH, MIRROR, LINK. -/
def sourceRank (r : Rec) : Nat :=
  if isRelocate r then 0 else if isFlush r then 1 else if isLink r then 3 else 2

/-- A PREPARE record is on the bay (R26). -/
def prepareOn (s : State) (b : Bay) : Bool := s.recs.any fun r => isPrepare r && decide (r.bay = b)

/-- Change one sector of a record. -/
def Rec.mapSector (r : Rec) (i : Nat) (f : Sector → Sector) : Rec := { r with sectors := r.sectors.modify i f }

/-- Give a record a flag or several. -/
def Rec.flag (r : Rec) (f : Flags → Flags) : Rec := { r with flags := f r.flags }

/-- Set a flag of a record, and for a MIRROR_COPY of its write too, whose DONE takes it into account (R70). -/
def flagRecord (q : Nat) (f : Flags → Flags) (s : State) : State :=
  match s.rec? q with
  | none => s
  | some r =>
    let s1 := s.mapRec q (Rec.flag · f)
    if isCopy r then r.partners.foldl (fun t p => t.mapRec p (Rec.flag · f)) s1 else s1

/-- Set the RETRIED flag (R70). -/
def setRetried (f : Flags) : Flags := { f with retried := true }

/-- Set the RELOCATED flag (R70). -/
def setRelocated (f : Flags) : Flags := { f with relocated := true }

/-- Set the DEGRADED flag (R70). -/
def setDegraded (f : Flags) : Flags := { f with degraded := true }

/-- Give the write of a copy the DEGRADED flag (R70). -/
def degradeWriteOf (r : Rec) (s : State) : State :=
  if isCopy r then r.partners.foldl (fun t p => t.mapRec p (Rec.flag · setDegraded)) s else s

/-! ### Replies and reports -/

/-- Append a reply to the reply queue (R184). -/
def reply (ch tag : Nat) (body : ReplyBody) (owner : Option Nat) (s : State) : State :=
  s.mapLink fun l => { l with replies := l.replies ++ [⟨ch, tag, body, owner⟩] }

/-- Answer a request with a refusal (R184). -/
def refuse (ch tag : Nat) (c : Code) (s : State) : State := reply ch tag (.refuse c) none s

/-- Body of a DONE with status OK, no failures and no flags. -/
def plainDone (completed : Nat) : DoneBody where
  status := .ok
  completed := completed
  failureCount := 0
  failures := []
  retried := false
  relocated := false
  fromMirror := false
  degraded := false
  more := false

/-- Answer a request at once with DONE OK (R180). -/
def doneNow (ch tag completed : Nat) (s : State) : State := reply ch tag (.done (plainDone completed)) none s

/-- Kind of a report. -/
def ReportBody.kind : ReportBody → ReportKind
  | .cartridgeIn _ => .cartridgeIn
  | .cartridgeOut => .cartridgeOut
  | .mediaAlert => .mediaAlert
  | .streamHalted _ _ => .streamHalted
  | .streamLow _ => .streamLow
  | .bandDamaged _ => .bandDamaged
  | .bandDone _ _ => .bandDone
  | .streamEnd _ => .streamEnd
  | .mirrorState _ _ => .mirrorState
  | .spareLow _ _ => .spareLow

/-- Position of a report kind in kind order (R185). -/
def ReportKind.rank : ReportKind → Nat
  | .cartridgeIn => 0
  | .cartridgeOut => 1
  | .mediaAlert => 2
  | .streamHalted => 3
  | .streamLow => 4
  | .bandDamaged => 5
  | .bandDone => 6
  | .streamEnd => 7
  | .mirrorState => 8
  | .spareLow => 9

/-- Place of a report in the order of R186: kind order, bay A before bay B. -/
def Report.rank (r : Report) : Nat := 2 * r.body.kind.rank + (if r.bay = .A then 0 else 1)

/-- Two reports have one key (R185). -/
def Report.sameKey (r t : Report) : Bool := decide (r.body.kind = t.body.kind) && decide (r.bay = t.bay)

/-- Merge a report into the pending entry of its key: the latest fields, a BAND_DONE adding its accepts (R185). -/
def mergeReport (old new : Report) : Report :=
  match old.body, new.body with
  | .bandDone _ n, .bandDone band k => { new with body := .bandDone band (n + k) }
  | _, _ => new

/-- Put a report into the set (R185). -/
def putReport : List Report → Report → List Report
  | [], r => [r]
  | x :: xs, r => if x.sameKey r then mergeReport x r :: xs else x :: putReport xs r

/-- Raise a report for a bay (R185). -/
def raise (b : Bay) (body : ReportBody) (s : State) : State :=
  s.mapLink fun l => { l with reports := putReport l.reports ⟨b, body⟩ }

/-- The report first in the order of R186. -/
def firstReport : List Report → Option Report
  | [] => none
  | r :: rs =>
    match firstReport rs with
    | none => some r
    | some t => if r.rank ≤ t.rank then some r else some t

/-- The pending report that the Link Port begins to send leaves the set (R185). -/
def sendReport (r : Report) (l : Link) : Link :=
  { l with reports := l.reports.filter (fun x => !x.sameKey r), sending := some (.report r), cursor := (l.cursor + 1) % 8 }

/-- The oldest reply leaves the queue as its sending begins (R184). -/
def sendReply (r : Reply) (rest : List Reply) (l : Link) : Link :=
  { l with replies := rest, sending := some (.reply r), cursor := (l.cursor + 1) % 8 }

/-- Select the next outbound frame by the slice at the cursor (R186); no frame is sent while the reset line is asserted
(R183). -/
def selectFrame (pattern : List Slice) (l : Link) : Link :=
  if l.resetLine ∨ l.sending.isSome then l
  else
    match firstReport l.reports, l.replies with
    | none, [] => l
    | some r, [] => sendReport r l
    | none, p :: ps => sendReply p ps l
    | some r, p :: ps => if pattern.getD l.cursor .reply = .report then sendReport r l else sendReply p ps l

/-- Begin the next frame's sending, if one can begin. -/
def selectNext (s : State) : State := s.mapLink (selectFrame s.settings.pattern)

/-- A frame of the record is in the reply queue or in sending (R68). -/
def framesLeft (s : State) (q : Nat) : Bool :=
  s.link.replies.any (fun p => decide (p.owner = some q)) ||
    (match s.link.sending with
     | some (.reply p) => decide (p.owner = some q)
     | _ => false)

/-- Replies other than SECTOR frames in the queue (R177). -/
def plainReplies (l : Link) : Nat :=
  l.replies.countP fun p => match p.body with
    | .sector _ _ _ => false
    | _ => true

/-- The hold of R177 on a frame's first byte applies. -/
def replyHeld (l : Link) : Bool := decide (l.assembly = .idle) && decide (Config.replyHold ≤ plainReplies l)

/-! ### Slots -/

/-- The slot is free. -/
def Slot.isFree : Slot → Bool
  | .free => true
  | _ => false

/-- The slot is a ring slot. -/
def Slot.isRing : Slot → Bool
  | .ring => true
  | _ => false

/-- The holders of a slot. -/
def Slot.holders : Slot → List Holder
  | .held hs _ => hs
  | _ => []

/-- What a held slot holds. -/
def Slot.content : Slot → Option Data
  | .held _ d => d
  | _ => none

/-- Numbers of the free slots, from number `n` on. -/
def freeIdsFrom : Nat → List Slot → List Nat
  | _, [] => []
  | n, x :: xs => if x.isFree then n :: freeIdsFrom (n + 1) xs else freeIdsFrom (n + 1) xs

/-- Numbers of the free slots, lowest first. -/
def freeIds (s : State) : List Nat := freeIdsFrom 0 s.slots

/-- Size of the free pool (R37). -/
def freeCount (s : State) : Nat := s.slots.countP Slot.isFree

/-- Number of ring slots (R37). -/
def ringCount (s : State) : Nat := s.slots.countP Slot.isRing

/-- Slots a record holds (R37). -/
def slotsOf (s : State) (q : Nat) : Nat := s.slots.countP fun x => decide (Holder.record q ∈ x.holders)

/-- The link-read holdings (R42). -/
def holdings (s : State) : Nat :=
  s.slots.countP fun x => s.recs.any fun r => isRead r && decide (Holder.record r.seq ∈ x.holders)

/-- Replace the slots with these numbers. -/
def putSlots (ids : List Nat) (x : Slot) (s : State) : State :=
  s.withSlots (ids.foldl (fun acc i => acc.set i x) s.slots)

/-- Grant a claim of `k` slots to one holder: the lowest-numbered free slots, and their numbers (R38). The claimant has
found at least `k` free. -/
def claim (h : Holder) (k : Nat) (s : State) : State × List Nat :=
  let ids := (freeIds s).take k
  (putSlots ids (.held [h] none) s, ids)

/-- Write a slot's data. -/
def fillSlot (i : Nat) (d : Option Data) (s : State) : State :=
  s.withSlots (s.slots.modify i fun x => match x with
    | .held hs _ => .held hs d
    | y => y)

/-- The data a slot holds; an empty or free slot gives none of it. -/
def slotData (s : State) (i : Nat) : Option Data := (s.slots.getD i .free).content

/-- A holder gives up a slot, which becomes free when it was the last (R37). -/
def dropFrom (h : Holder) : Slot → Slot
  | .held hs d => if hs.filter (fun x => decide (x ≠ h)) = [] then .free else .held (hs.filter fun x => decide (x ≠ h)) d
  | x => x

/-- Signal a release of slots to both schedulers when the free pool has grown since `before` (R39). -/
def signalRelease (before s : State) : State := if freeCount before < freeCount s then triggerBoth s else s

/-- A holder gives up every slot it holds (R37, R39). -/
def dropAll (h : Holder) (s : State) : State := signalRelease s (s.withSlots (s.slots.map (dropFrom h)))

/-- A holder gives up one slot (R37, R39). -/
def dropOne (h : Holder) (i : Nat) (s : State) : State := signalRelease s (s.withSlots (s.slots.modify i (dropFrom h)))

/-- Add a second holder to slots: a MIRROR_COPY to its write's (R40). -/
def shareSlots (h : Holder) (ids : List Nat) (s : State) : State :=
  s.withSlots (ids.foldl (fun acc i => acc.modify i fun x => match x with
    | .held hs d => .held (hs ++ [h]) d
    | y => y) s.slots)

/-- A pass in flight on a bay gives up its slots after a controller reset (R48). -/
def dropPass (b : Bay) : Slot → Slot
  | .held hs d =>
    let hs' := (hs.map fun h => match h, b with
      | .passes _ y, .A => .passes false y
      | .passes x _, .B => .passes x false
      | h, _ => h).filter fun h => decide (h ≠ .passes false false)
    if hs' = [] then .free else .held hs' d
  | x => x

/-- The ring's slots return to the free pool together (R45). -/
def freeRing (s : State) : State :=
  signalRelease s (s.withSlots (s.slots.map fun x => if x.isRing then .free else x))

/-! ### The mirror, the stream and the bay as other blocks read them -/

/-- The primary of a mirror that is BUILDING or BOUND. -/
def mirrorPrimary (s : State) : Option Bay :=
  match s.mirror with
  | .paired p _ _ (.building _) => some p
  | .paired p _ _ .bound => some p
  | _ => none

/-- The bay is the secondary of a mirror that is BUILDING or BOUND. -/
def isSecondary (s : State) (b : Bay) : Bool := decide (mirrorPrimary s = some b.other)

/-- The build cursor (R158), 0 when the mirror is UNBOUND. -/
def buildCursor (s : State) : Nat :=
  match s.mirror with
  | .paired _ c _ _ => c
  | .unbound => 0

/-- The stream is bound to the bay in a state other than CLOSED. -/
def streamOn (s : State) (b : Bay) : Bool :=
  match s.stream with
  | some t => decide (t.bay = b)
  | none => false

/-- The stream is bound to the bay and RUNNING (R89, R99). -/
def runningOn (s : State) (b : Bay) : Bool :=
  match s.stream with
  | some t => decide (t.bay = b) && decide (t.phase = .running)
  | none => false

/-- The bay state is EJECTING of kind FORCED. -/
def forcedOut (m : BayMode) : Bool :=
  match m with
  | .ejecting .forced _ => true
  | _ => false

/-- The bay state is EJECTING. -/
def isEjecting (m : BayMode) : Bool :=
  match m with
  | .ejecting _ _ => true
  | _ => false

/-- A pass is in flight on the bay. -/
def passInFlight (s : State) (b : Bay) : Bool := (s.schedOf b).pass.isSome

/-- The record owns the pass in flight of its scheduler's bay. -/
def ownPassInFlight (s : State) (r : Rec) : Bool :=
  match (s.schedOf (schedBay r)).pass with
  | some p => decide (p.owner = .record r.seq)
  | none => false

/-- A feed pass is in flight on the bay. A feed pass that a controller reset left running as discarded work (R93) is not one to a
stream opened after the reset, in R126, R133 and R146 alike: the spec does not say, and this is the model's choice (DESIGN CHOICE,
log entry 50). -/
def feedInFlight (s : State) (b : Bay) : Bool :=
  match (s.schedOf b).pass with
  | some p => (match p.owner with
    | .feed _ => true
    | _ => false)
  | none => false

/-- Wake a RESTING bay (R24): WAKING, its spin-up beginning at once or at its stop's completion. -/
def wake (b : Bay) (s : State) : State :=
  s.mapMech b fun m =>
    if m.mode = .resting then
      { m with mode := .waking, spindle := if m.spindle = .stopped then .starting else m.spindle }
    else m

end Sys2Proof.Machine
end

