-- ==== Sys2Proof/Machine/Flags.lean ====
section
/-! DEFINITION. The result of a record: sectors completed, failures, flags and status of its DONE (R69 to R71), and the names
by which a STATUS gives records (R72, R75). -/

namespace Sys2Proof.Machine

/-- Flags of a record at its creation (R57). -/
def noFlags : Flags := ⟨false, false, false, false⟩

/-- Sectors with this progress among the first `n`. -/
def countProgress (p : Progress) (n : Nat) (r : Rec) : Nat := (r.sectors.take n).countP fun x => decide (x.progress = p)

/-- Sectors completed (R69): DATA frames queued for a READ; VERIFIED or DONE sectors for a WRITE or a copy; for PREPARE and
SET_ZONES as R30, R174 and R175 give it; 0 otherwise. A SET_ZONES ended ABANDONED counts 0, and lists no failure, whatever its VERIFY in
flight found: R33 and R176 give neither there, and this is the model's choice (DESIGN CHOICE, log entry 41). A PREPARE that a
forced EJECT ends ABANDONED likewise counts 0 and lists no failure, whatever its VERIFY in flight found: R30 gives the count for
CANCEL alone, and this is the model's choice (DESIGN CHOICE, log entry 49). A READ cancelled in
WAITING without ever having been ACTIVE counts the DATA frames queued for sectors it took by read-through (R69, R98, R104), where
R65 gives 0 for a record never ACTIVE: the model's choice (DESIGN CHOICE, log entry 44). -/
def completedOf (r : Rec) : Nat :=
  match r.kind with
  | .read => countProgress .read r.queued r
  | .prepare _ _ => if r.endCause.isSome then 0 else countProgress .verified 6 r
  | .setZones _ => if r.endCause.isSome then 0 else countProgress .verified 1 r
  | .eject _ => 0
  | .fallbackRead => countProgress .read r.sectors.length r
  | _ => countProgress .verified r.sectors.length r + countProgress .done r.sectors.length r

/-- Status of a DONE (R71). -/
def statusOf (r : Rec) : DoneStatus :=
  match r.endCause with
  | some .cancelled => .cancelled
  | some .abandoned => .abandoned
  | none => if r.failures = [] then .ok else .mediaFault

/-- Body of a record's DONE (R68 to R71). -/
def doneOf (r : Rec) : DoneBody where
  status := statusOf r
  completed := completedOf r
  failureCount := r.failures.length
  failures := r.failures.take 8
  retried := r.flags.retried
  relocated := r.flags.relocated
  fromMirror := r.flags.fromMirror
  degraded := r.flags.degraded
  more := decide (8 < r.failures.length)

/-- Name of a kind. -/
def Kind.name : Kind → KindName
  | .read => .read
  | .write => .write
  | .prepare _ _ => .prepare
  | .eject _ => .eject
  | .setZones _ => .setZones
  | .mirrorCopy => .mirrorCopy
  | .buildStep => .buildStep
  | .fallbackRead => .fallbackRead
  | .relocate .weak => .relocateWeak
  | .relocate .repair => .relocateRepair
  | .mapFlush => .mapFlush

/-- A record as a STATUS names it. -/
def recordStatus (r : Rec) : RecordStatus where
  kind := r.kind.name
  level := r.level
  link := r.link
  first := r.first
  state := r.state

end Sys2Proof.Machine
end

