-- ==== Sys2Proof/Machine/Holds.lean ====
section
/-! DEFINITION. Holds (R59 to R62), read-through sources (R61, R98), translation (R112), eligibility (R53) and the bays that can
start passes (R19). -/

namespace Sys2Proof.Machine

/-- Location of a logical sector by a map: its spare where an entry names it, else its home (R112). -/
def locate (m : Option DefectMap) (n : Nat) : Loc :=
  match m with
  | none => homeLoc n
  | some d =>
    match d.entries.find? (fun e => decide (e.1 = n)) with
    | some e => spareLoc e.2
    | none => homeLoc n

/-- Location of a logical sector on a bay (R112). -/
def translate (s : State) (b : Bay) (n : Nat) : Loc := locate (s.mechOf b).map n

/-- The write's data for sector `i` of a WRITE or MIRROR_COPY has arrived (R50: a copy reads its original's set). -/
def arrivedAt (s : State) (r : Rec) (i : Nat) : Bool :=
  let source := if isCopy r then (r.partners.head?.bind s.rec?) else some r
  match source.bind fun w => w.sectors[i]? with
  | some x => x.arrived
  | none => false

/-- The data an unfinished writer holds for a logical sector it covers (R61): a RELOCATE's one slot holds it from creation. -/
def writerData (s : State) (w : Rec) (n : Nat) : Option Data :=
  if isRelocate w then (w.sectors[0]?.bind Sector.slot).bind (slotData s)
  else if arrivedAt s w (n - w.first) then (w.sectors[n - w.first]?.bind Sector.slot).bind (slotData s)
  else none

/-- The later of two writers. -/
def newerOf (best : Option Rec) (r : Rec) : Option Rec :=
  match best with
  | none => some r
  | some w => if w.seq < r.seq then some r else some w

/-- The newest unfinished writer on the bay that covers the logical sector (R61). -/
def newestWriter (s : State) (b : Bay) (n : Nat) : Option Rec :=
  (s.recs.filter fun r => isWriter r && unfinished r && decide (r.bay = b) && covers r n).foldl newerOf none

/-- The data by which a sector is taken by read-through on the bay, if it is (R61, R98). -/
def throughData (s : State) (b : Bay) (n : Nat) : Option Data := (newestWriter s b n).bind fun w => writerData s w n

/-- The newest unfinished writer over the sector lacks its data, so that a reader is held (R61). -/
def awaitsWriter (s : State) (b : Bay) (n : Nat) : Bool :=
  match newestWriter s b n with
  | some w => (writerData s w n).isNone
  | none => false

/-- A BUILD_STEP that has started its first pass and not ended (R60). -/
def stepRunning (r : Rec) : Bool := isStep r && r.started && unfinished r

/-- A running BUILD_STEP shares a logical sector with the extent; its extent counts on both bays (R60). -/
def stepOver (s : State) (f n : Nat) : Bool := s.recs.any fun o => stepRunning o && overlapsExtent o f n

/-- An unfinished record of the test, on the record's bay, with a lower arrival sequence. -/
def olderOn (s : State) (r : Rec) (p : Rec → Bool) : Bool :=
  s.recs.any fun o => p o && unfinished o && decide (o.bay = r.bay) && decide (o.seq < r.seq)

/-- Some UNREAD sector of a reader waits for a writer's data (R61). -/
def awaitsData (s : State) (r : Rec) : Bool :=
  (List.range r.count).any fun i =>
    (match r.sectors[i]? with
     | some x => decide (x.progress = .unread)
     | none => false) && awaitsWriter s r.bay (r.first + i)

/-- A hold of section 5.4 applies to the record (R59 to R62). A BUILD_STEP is held before its first pass only (log
entry 19). -/
def isHeld (s : State) (r : Rec) : Bool :=
  if isWriter r then
    olderOn s r (fun o => isWriter o && overlapsExtent o r.first r.count) || stepOver s r.first r.count
  else if isStep r then
    !r.started &&
      (s.recs.any (fun o => isWriter o && unfinished o && overlapsExtent o r.first r.count) ||
        s.recs.any (fun o => isStep o && unfinished o && decide (o.first = r.first) && decide (o.seq < r.seq)))
  else if isRead r || isFallback r then awaitsData s r || stepOver s r.first r.count
  else if isSetZones r then olderOn s r isSetZones
  else if isFlush r then olderOn s r isFlush
  else false

/-- The bay can start passes (R19): TURNING, in READY or EJECTING, or for a PREPARE in UNLABELLED or DAMAGED. -/
def canStart (s : State) (b : Bay) : Bool :=
  let m := s.mechOf b
  decide (m.spindle = .turning) &&
    (decide (m.mode = .ready) || isEjecting m.mode ||
      ((decide (m.mode = .unlabelled) || decide (m.mode = .damaged)) && prepareOn s b))

/-- The bay can start this record's passes: in UNLABELLED and DAMAGED a PREPARE's alone (R19). -/
def canStartRec (s : State) (r : Rec) : Bool :=
  canStart s (schedBay r) &&
    (isPrepare r || decide ((s.mechOf (schedBay r)).mode = .ready) || isEjecting (s.mechOf (schedBay r)).mode)

/-- The record is eligible (R53). -/
def eligible (s : State) (r : Rec) : Bool := decide (r.state = .waiting) && !isHeld s r && canStartRec s r

/-- Trigger the bays of waiting records whose hold ended between two states (section 5.4, R79). -/
def signalHoldEnds (before s : State) : State :=
  s.recs.foldl
    (fun t r =>
      if decide (r.state = .waiting) && !isHeld s r && before.recs.any (fun o => decide (o.seq = r.seq) && isHeld before o)
      then trigger (schedBay r) t else t)
    s

end Sys2Proof.Machine
end

