-- ==== Sys2Proof/Machine/Records.lean ====
section
/-! DEFINITION. Creation and ending of records (R52 to R54, R57, R64 to R68), and what the end of records means to the stream
(R147) and to the mirror (R165, R168). -/

namespace Sys2Proof.Machine

/-! ### Creation -/

/-- A sector's entry at the creation of a record. -/
def newSector (p : Progress) : Sector := ⟨p, 0, none, false, none⟩

/-- A record at its creation (R57): WAITING, its result empty, its arrival sequence still to be taken. -/
def newRec (kind : Kind) (link : Option (Nat × Nat)) (b : Bay) (level first count : Nat) (sectors : List Sector)
    (partners : List Nat) : Rec where
  seq := 0
  kind := kind
  link := link
  bay := b
  level := level
  first := first
  count := count
  state := .waiting
  sectors := sectors
  round := 1
  relocations := []
  partners := partners
  endCause := none
  failures := []
  flags := noFlags
  queued := 0
  started := false
  writePhase := false
  stalled := false

/-- Free record places (R49). -/
def freePlaces (s : State) : Nat := Config.places - s.recs.length

/-- Create a record: it takes the counter's value, and the counter of 48 bits rises by one (R52). It wakes a RESTING bay (R24)
and triggers its scheduler (R57, R79). An EJECT record does neither. A BUILD_STEP wakes both bays, the primary too where that came
to rest while the step was DEFERRED (DESIGN CHOICE, log entry 40). -/
def createRec (r : Rec) (s : State) : State :=
  let s1 := (s.withRecs (s.recs ++ [{ r with seq := s.nextSeq }])).withCounter (s.counter + 1)
  if isEject r then s1
  else
    let s2 := wake r.bay s1
    trigger (schedBay r) (if isStep r then wake r.bay.other s2 else s2)

/-! ### The stream as its bay's loss acts on it -/

/-- Put the stream in a state (R126): the ready line is high in RUNNING alone (R138), and the change triggers the stream's
bay (R79). -/
def setPhase (ph : StreamPhase) (s : State) : State :=
  match s.stream with
  | none => s
  | some t =>
    trigger t.bay ((s.withStream (some { t with phase := ph })).mapPort fun p => { p with ready := decide (ph = .running) })

/-- Number of the oldest band of the list, or 0 (R144, R147). -/
def oldestNumber (t : Stream) : Nat :=
  match t.bands with
  | [] => 0
  | x :: _ => x.number

/-- The phase is HALTED. -/
def isHalted : StreamPhase → Bool
  | .halted _ => true
  | _ => false

/-- Loss of the stream's bay (R147): HALTED with cause EJECT and STREAM_HALTED raised, unless the stream is HALTED already. -/
def haltByEject (b : Bay) (s : State) : State :=
  match s.stream with
  | none => s
  | some t =>
    if t.bay = b ∧ isHalted t.phase = false then
      raise b (.streamHalted .eject (oldestNumber t)) (setPhase (.halted .eject) s)
    else s

/-! ### Ending -/

/-- A waiting RUN_TO_END takes effect when the stack is empty, and the change triggers the bay (R88). -/
def checkMode (b : Bay) (s : State) : State :=
  let c := s.schedOf b
  if c.stack = [] ∧ c.mode ≠ c.modeSet then trigger b (s.mapSched b fun c => { c with mode := c.modeSet }) else s

/-- A record that enters ENDING ceases to be the active record or leaves the stack (R78, R86), which triggers the bay
(R79). -/
def leaveScheduler (r : Rec) (s : State) : State :=
  let b := schedBay r
  if (s.schedOf b).active = some r.seq then trigger b (s.mapSched b fun c => { c with active := none })
  else if r.seq ∈ (s.schedOf b).stack then
    checkMode b (trigger b (s.mapSched b fun c => { c with stack := c.stack.filter fun q => decide (q ≠ r.seq) }))
  else s

/-- A read ended early gives up the slot of one sector that is not queued (R41). -/
def dropUnqueued (r : Rec) (s : State) (i : Nat) : State :=
  match r.sectors[i]?.bind Sector.slot with
  | some j => dropOne (.record r.seq) j (s.mapRec r.seq (Rec.mapSector · i fun x => { x with slot := none }))
  | none => s

/-- Slots given up at the entry to ENDING (R40, R41, R43, R44): a read keeps those whose frames are still to be sent. -/
def giveUp (r : Rec) (s : State) : State :=
  if isRead r then
    if r.endCause.isSome then ((List.range r.count).filter fun i => decide (r.queued ≤ i)).foldl (dropUnqueued r) s else s
  else dropAll (.record r.seq) s

/-- A PREPARE cut short after its first pass start, or failed (R30): DAMAGED, with nothing held and the write-inhibit flag
clear. On an EJECTING bay it is the former state that becomes DAMAGED; where the forced EJECT that abandoned the PREPARE was
cancelled while WAITING (R34), so that the bay is no longer EJECTING at the PREPARE's end, the bay itself becomes DAMAGED: R30
gives no state there, and this is the model's choice (DESIGN CHOICE, log entry 36). -/
def prepareDamages (b : Bay) (s : State) : State :=
  s.mapMech b fun m =>
    { m with
      mode := match m.mode with
        | .ejecting k _ => .ejecting k .damaged
        | _ => .damaged
      label := none
      map := none
      zones := none
      inhibit := false }

/-- The map's items when a MAP_FLUSH ends (R120, R123): the flush in progress becomes none; a flush removed before its start
was the pending one. -/
def flushLeaves (r : Rec) (s : State) : State :=
  s.mapMap r.bay fun m =>
    if m.flushing = some r.seq then { m with flushing := none }
    else if r.started then m
    else { m with pending := .none }

/-- What the entry to ENDING means by kind. -/
def endEffect (r : Rec) (s : State) : State :=
  if isPrepare r && r.started && r.endCause.isSome then prepareDamages r.bay s
  else if isFlush r then flushLeaves r s
  else s

/-- A record enters ENDING (R68), but for what a read's end means to its fallbacks. -/
def enterEndingAlone (q : Nat) (s : State) : State :=
  match s.rec? q with
  | none => s
  | some r =>
    if r.state = .ending then s
    else
      let s1 := s.mapRec q fun x => { x with state := .ending, stalled := false }
      signalHoldEnds s (endEffect r (giveUp r (leaveScheduler r s1)))

/-- Set a record's end cause and end it by its state (R65 to R67): at once, or at the completion of its own pass in flight.
A cause once set, or a record in ENDING, is not changed. -/
def endByAlone (c : EndCause) (q : Nat) (s : State) : State :=
  match s.rec? q with
  | none => s
  | some r =>
    if r.state = .ending ∨ r.endCause.isSome then s
    else
      let s1 := s.mapRec q fun x => { x with endCause := some c }
      let s2 := if c = .abandoned then degradeWriteOf r s1 else s1
      if r.state = .active ∧ ownPassInFlight s r then s2 else enterEndingAlone q s2

/-- Numbers of the records that pass a test. -/
def seqsOf (s : State) (p : Rec → Bool) : List Nat := (s.recs.filter p).map Rec.seq

/-- A read's FALLBACK_READ records are cancelled with it (R65, R67, log entry 22). -/
def cancelFallbacks (q : Nat) (s : State) : State :=
  (seqsOf s fun r => isFallback r && decide (q ∈ r.partners)).foldl (fun t x => endByAlone .cancelled x t) s

/-- A record enters ENDING (R68); a read ended by its end cause takes its fallbacks with it. -/
def enterEnding (q : Nat) (s : State) : State :=
  match s.rec? q with
  | none => s
  | some r => if isRead r && r.endCause.isSome then cancelFallbacks q (enterEndingAlone q s) else enterEndingAlone q s

/-- End a record by an end cause (R65 to R67), a read with its fallbacks; a read already in ENDING keeps them (R64, R67). -/
def endBy (c : EndCause) (q : Nat) (s : State) : State :=
  match s.rec? q with
  | none => s
  | some r =>
    if isRead r && r.endCause.isNone && unfinished r then cancelFallbacks q (endByAlone c q s) else endByAlone c q s

/-! ### The mirror -/

/-- Every MIRROR_COPY in WAITING is cancelled and its write carries DEGRADED (R165, R168). -/
def cancelWaitingCopies (s : State) : State :=
  (s.recs.filter fun r => isCopy r && decide (r.state = .waiting)).foldl
    (fun t r => endByAlone .cancelled r.seq (degradeWriteOf r t)) s

/-- A BUILD_STEP is cancelled, at once or at its pass's completion (R168). -/
def cancelSteps (s : State) : State := (seqsOf s isStep).foldl (fun t x => endByAlone .cancelled x t) s

/-- The mirror becomes UNBOUND (R168); a cause other than UNBIND raises MIRROR_STATE. -/
def unbindMirror (report : Bool) (s : State) : State :=
  match s.mirror with
  | .unbound => s
  | .paired p c _ _ =>
    let s1 := cancelSteps (cancelWaitingCopies (s.withMirror .unbound))
    if report then raise p (.mirrorState .unbound c) s1 else s1

/-- The mirror enters DEGRADED from BUILDING or BOUND (R165). -/
def degrade (cause : DegradeCause) (s : State) : State :=
  match s.mirror with
  | .unbound => s
  | .paired _ _ _ (.degraded _) => s
  | .paired p c g _ =>
    raise p (.mirrorState (.degraded cause) c)
      (cancelSteps (cancelWaitingCopies (s.withMirror (.paired p c g (.degraded cause)))))

/-- Abandon every record of a bay that passes the test (R25, R33, R67). -/
def abandonAll (b : Bay) (p : Rec → Bool) (s : State) : State :=
  (seqsOf s fun r => decide (r.bay = b) && p r).foldl (fun t q => endBy .abandoned q t) s

/-- Create an internal record; on a bay EJECTING of kind FORCED any but a MAP_FLUSH ends ABANDONED at once (R33, R54). -/
def createInternal (r : Rec) (s : State) : State :=
  let s1 := createRec r s
  if forcedOut (s.mechOf r.bay).mode && !isFlush r then endBy .abandoned s.nextSeq s1 else s1

end Sys2Proof.Machine
end

