-- ==== Sys2Proof/Machine/Defects.lean ====
section
/-! DEFINITION. The Defect Map: spares and entries (R113 to R116), RELOCATE records (R117), flushes (R119 to R123) and the
warning of exhaustion (R124). -/

namespace Sys2Proof.Machine

/-- Free spares of a map (R111). -/
def freeSpares (m : DefectMap) : Nat := Config.spares - m.cursor

/-- After each spare assignment and each entry recorded: SPARE_LOW below 32 free spares or from 480 entries on (R124). -/
def spareLowTest (b : Bay) (s : State) : State :=
  match (s.mechOf b).map with
  | none => s
  | some m =>
    if freeSpares m < 32 ∨ 480 ≤ m.entries.length then raise b (.spareLow (freeSpares m) m.entries.length) s else s

/-- The map holds an entry for the logical sector. -/
def hasEntry (m : DefectMap) (n : Nat) : Bool := m.entries.any fun e => decide (e.1 = n)

/-- The map would answer NO_SPARE to a request for this sector with this many spares tried (R113). -/
def wouldRefuse (m : DefectMap) (n tried : Nat) : Bool :=
  decide (3 ≤ tried) || decide (Config.spares ≤ m.cursor) || (decide (Config.maxEntries ≤ m.entries.length) && !hasEntry m n)

/-- Entries with one more, or one replaced, in ascending order of logical sector (R115). -/
def putEntry (n spare : Nat) : List (Nat × Nat) → List (Nat × Nat)
  | [] => [(n, spare)]
  | e :: es =>
    if n < e.1 then (n, spare) :: e :: es
    else if n = e.1 then (n, spare) :: es
    else e :: putEntry n spare es

/-- The try of a record's sector. -/
def Rec.try? (r : Rec) (i : Nat) : Option Try := r.relocations.find? fun t => decide (t.index = i)

/-- Change the try of a record's sector. -/
def Rec.mapTry (r : Rec) (i : Nat) (f : Try → Try) : Rec :=
  { r with relocations := r.relocations.map fun t => if t.index = i then f t else t }

/-- Take a sector off the relocation list. -/
def Rec.dropTry (r : Rec) (i : Nat) : Rec := { r with relocations := r.relocations.filter fun t => decide (t.index ≠ i) }

/-- NO_SPARE ends a relocation (R116): the sector is FAILED with that cause and leaves the list. A copy's failed sector
degrades the mirror and gives its write the DEGRADED flag (R164, R70). -/
def noSpare (q i : Nat) (s : State) : State :=
  match s.rec? q with
  | none => s
  | some r =>
    let s1 := s.mapRec q fun x =>
      { ((x.dropTry i).mapSector i fun y => { y with progress := .failed, attempts := 0, cause := some .noSpare }) with
        failures := x.failures ++ [(i, .noSpare)] }
    if isCopy r then degrade .copyFailed (flagRecord q setDegraded s1) else s1

/-- The Defect Map assigns the next spare to a record's relocation, or answers NO_SPARE; it is not asked when the record's
end cause is set (R113). -/
def assignSpare (q i : Nat) (s : State) : State :=
  match s.rec? q with
  | none => s
  | some r =>
    match r.try? i, (s.mechOf r.bay).map with
    | none, _ => s
    | some t, m =>
      if r.endCause.isSome then s
      else
        match m with
        | none => noSpare q i s
        | some m =>
          if wouldRefuse m (r.first + i) t.tried then noSpare q i s
          else
            let s1 := s.mapMap r.bay fun d => { d with cursor := d.cursor + 1, dirty := true }
            let s2 := s1.mapRec q (Rec.mapTry · i fun t =>
              { t with tried := t.tried + 1, spare := some m.cursor, progress := .pending, attempts := 0 })
            spareLowTest r.bay s2

/-- The move of a sector whose try succeeded is recorded, or the relocation ends NO_SPARE on a map that has filled (R115). -/
def recordMove (q i spare : Nat) (s : State) : State :=
  match s.rec? q with
  | none => s
  | some r =>
    match (s.mechOf r.bay).map with
    | none => noSpare q i s
    | some m =>
      if Config.maxEntries ≤ m.entries.length ∧ hasEntry m (r.first + i) = false then noSpare q i s
      else
        let s1 := s.mapMap r.bay fun d => { d with entries := putEntry (r.first + i) spare d.entries, dirty := true }
        let s2 := s1.mapRec q fun x => (x.dropTry i).mapSector i fun y => { y with progress := .done, attempts := 0 }
        spareLowTest r.bay (flagRecord q setRelocated s2)

/-- A sector whose verify failed joins its record's relocation list and a spare is asked for (R107, R113). -/
def startRelocation (q i : Nat) (s : State) : State :=
  assignSpare q i (s.mapRec q fun x =>
    { (x.mapSector i fun y => { y with progress := .relocating, attempts := 0 }) with
      relocations := x.relocations ++ [⟨i, 0, none, .pending, 0⟩] })

/-- An unfinished link WRITE, MIRROR_COPY or BUILD_STEP on the bay covers the sector (R54). A BUILD_STEP is on the secondary,
its bay, from its creation, and covers the sector on the primary too from its first pass (R60, R101). -/
def coveredByWrite (s : State) (b : Bay) (n : Nat) : Bool :=
  s.recs.any fun r =>
    unfinished r && covers r n &&
      (((isWrite r || isCopy r) && decide (r.bay = b)) || (isStep r && (r.started || decide (r.bay = b))))

/-- A RELOCATE is asked for (R117): created with a copy of the data in a slot of its own and its first spare, or skipped in
the cases of R117 in their order. On a bay EJECTING of kind FORCED it ends ABANDONED at its creation, with no spare. -/
def requestRelocate (v : Variety) (b : Bay) (n : Nat) (bytes : Data) (source : Nat) (s : State) : State :=
  let m := s.mechOf b
  let skipped : Bool :=
    m.inhibit ||
    s.recs.any (fun r => isRelocate r && unfinished r && decide (r.bay = b) && decide (r.first = n)) ||
    coveredByWrite s b n ||
    (match m.map with
     | none => true
     | some d => wouldRefuse d n 0) ||
    decide (freePlaces s = 0) || decide (freeCount s = 0)
  if skipped then s
  else
    let q := s.nextSeq
    let c := claim (.record q) 1 s
    let j := c.2.headD 0
    let sector : Sector := ⟨.relocating, 0, some j, true, none⟩
    let r := { newRec (.relocate v) none b 6 n 1 [sector] [source] with relocations := [⟨0, 0, none, .pending, 0⟩] }
    assignSpare q 0 (createInternal r (fillSlot j (some bytes) c.1))

/-! ### Flushes -/

/-- The map needs a flush (R119). -/
def needsFlush (s : State) (b : Bay) : Bool :=
  match (s.mechOf b).map with
  | none => false
  | some m => m.dirty && decide (m.pending = .none) && !(s.mechOf b).inhibit

/-- A MAP_FLUSH has been asked for and waits for a place (R54). -/
def flushDeferred (s : State) (b : Bay) : Bool :=
  match (s.mechOf b).map with
  | none => false
  | some m => decide (m.pending = .deferred)

/-- Create the MAP_FLUSH of a bay; its map's pending flush becomes QUEUED (R119). -/
def createFlush (b : Bay) (s : State) : State :=
  createInternal (newRec .mapFlush none b 3 0 0 (List.replicate 4 (newSector .pending)) [])
    (s.mapMap b fun m => { m with pending := .queued })

/-- Create the deferred MAP_FLUSH of a bay if a place is free (R54). -/
def makeFlush (b : Bay) (s : State) : State := if flushDeferred s b && decide (freePlaces s ≠ 0) then createFlush b s else s

/-- The Defect Map asks for a flush: created when a place is free, else deferred (R119). -/
def askFlush (b : Bay) (s : State) : State :=
  if freePlaces s = 0 then s.mapMap b fun m => { m with pending := .deferred } else createFlush b s

/-- Setting the write-inhibit flag (R122, R123, R165): MEDIA_ALERT is raised, a pending flush is removed or dropped, and on
a secondary the mirror degrades when the flag was clear. -/
def setInhibit (b : Bay) (s : State) : State :=
  let was := (s.mechOf b).inhibit
  let s1 := raise b .mediaAlert (s.mapMech b fun m => { m with inhibit := true })
  let s2 := (seqsOf s1 fun r => isFlush r && decide (r.bay = b) && !r.started && unfinished r).foldl
    (fun t q => endByAlone .cancelled q t) s1
  let s3 := s2.mapMap b fun m => { m with pending := .none }
  if !was && isSecondary s b then degrade .secondaryInhibited s3 else s3

/-! ### Ends of label-track writers -/

/-- Preparation count a PREPARE records (R13): one more than the count held, modulo 65,536; 1 where none is held. -/
def nextPreparations (m : Mech) : Nat :=
  match m.label with
  | some l => (l.preparations + 1) % 65536
  | none => 1

/-- Success of a PREPARE (R30): READY with an empty map and zone table, the flag clear and the new label fields held. -/
def prepareSucceeds (b : Bay) (serial : BitVec 32) (name : Data) (s : State) : State :=
  s.mapMech b fun m =>
    { m with
      mode := .ready
      inhibit := false
      label := some ⟨serial, name, nextPreparations m⟩
      map := some emptyMap
      zones := some [] }

/-- Success of a label-track writer (R30, R120, R174). A flush's success leaves the map as later relocations have left
it. -/
def labelSucceeds (r : Rec) (s : State) : State :=
  match r.kind with
  | .prepare serial name => prepareSucceeds r.bay serial name s
  | .setZones zs => s.mapMech r.bay fun m => { m with zones := some zs }
  | _ => s

/-- The failure-list entries of a failed label-track writer (R30, R175): the track-0 sector numbers and causes. -/
def labelFailures (base : Nat) (r : Rec) : List (Nat × Cause) :=
  ((List.range r.sectors.length).filterMap fun i =>
    match r.sectors[i]? with
    | some x => if x.progress = .failed then some (base + i, x.cause.getD .unreadable) else none
    | none => none)

/-- Round 2 failed (R122): SET_ZONES and MAP_FLUSH inhibit the bay, a flush dirties its map again, a PREPARE leaves the bay
DAMAGED. -/
def labelFails (base : Nat) (r : Rec) (s : State) : State :=
  let s1 := s.mapRec r.seq fun x => { x with failures := x.failures ++ labelFailures base r }
  match r.kind with
  | .prepare _ _ => prepareDamages r.bay s1
  | .mapFlush => setInhibit r.bay (s1.mapMap r.bay fun m => { m with dirty := true })
  | _ => setInhibit r.bay s1

/-- Round 1 failed (R122): every sector returns to PENDING and round 2 begins. -/
def labelRetries (r : Rec) (s : State) : State :=
  s.mapRec r.seq fun x =>
    { x with
      round := 2
      sectors := x.sectors.map fun y => { y with progress := .pending, attempts := 0, cause := none }
      flags := setRetried x.flags }

/-- First sector of track 0 that a label-track writer writes: 0 for PREPARE, 1 for SET_ZONES, 2 for MAP_FLUSH. -/
def labelBase (r : Rec) : Nat := if isPrepare r then 0 else if isSetZones r then 1 else 2

/-- Sectors a label-track writer writes and verifies: 6 for PREPARE, 1 for SET_ZONES, 4 for MAP_FLUSH. -/
def labelWidth (r : Rec) : Nat := if isPrepare r then 6 else if isSetZones r then 1 else 4

/-- The label-track failure rule, applied when every sector written has a final verify outcome (R107, R122). It does not act
on a record whose end cause is set. -/
def labelRoundEnd (q : Nat) (s : State) : State :=
  match s.rec? q with
  | none => s
  | some r =>
    let written := r.sectors.take (labelWidth r)
    if r.endCause.isSome || !isLabelWriter r ||
        !written.all (fun x => decide (x.progress = .verified) || decide (x.progress = .failed)) then s
    else if written.all fun x => decide (x.progress = .verified) then labelSucceeds r s
    else if r.round = 1 then labelRetries r s
    else labelFails (labelBase r) r s

end Sys2Proof.Machine
end

