-- ==== Sys2Proof/Machine/Delivery.lean ====
section
/-! DEFINITION. Delivery of read data (R103), leaving the table (R63, R68, R71), and what Mirror Control and a read do with the
outcomes handed over (R162, R167). -/

namespace Sys2Proof.Machine

/-- Queue the frame of one settled sector of a read (R103); a FAILED one enters the failure list now. -/
def queueOne (r : Rec) (i : Nat) (x : Sector) (s : State) : State :=
  let link := r.link.getD (0, 0)
  if x.progress = .read then
    (reply link.1 link.2 (.sector i .data ((x.slot.bind (slotData s)).getD [])) (some r.seq) s).mapRec r.seq
      fun y => { y with queued := i + 1 }
  else
    let c := x.cause.getD .unreadable
    (reply link.1 link.2 (.sector i (if c = .blank then .blank else .unreadable) []) (some r.seq) s).mapRec r.seq
      fun y => { y with queued := i + 1, failures := y.failures ++ [(i, c)] }

/-- Queue the frames of settled sectors in index order, stopping at the first that is neither READ nor FAILED (R103). -/
def queueFrom (r : Rec) : Nat → List Sector → State → State
  | _, [], s => s
  | i, x :: xs, s =>
    if x.progress = .read ∨ x.progress = .failed then queueFrom r (i + 1) xs (queueOne r i x s) else s

/-- A link READ queues the frames it can (R103). -/
def queueFrames (q : Nat) (s : State) : State :=
  match s.rec? q with
  | none => s
  | some r => if isRead r then queueFrom r r.queued (r.sectors.drop r.queued) s else s

/-- Every partner that the record waits for has entered ENDING, and every fallback of a read has left (R63, R104). -/
def partnersEnded (s : State) (r : Rec) : Bool :=
  if isWrite r || isCopy r then
    s.recs.all fun o => !(decide (o.seq ∈ r.partners) && (isWrite o || isCopy o)) || decide (o.state = .ending)
  else if isRead r then s.recs.all fun o => !(isFallback o && decide (r.seq ∈ o.partners))
  else true

/-- The record leaves the table now (R68). Where a CANCEL finds a WRITE and its copy both WAITING with the GRANT still unsent, the
copy leaves first and the WRITE when its GRANT has been sent: R65 has both leave together, R68 keeps the WRITE for its GRANT and
does not keep the copy, and this is the model's choice (DESIGN CHOICE, log entry 48). -/
def readyToLeave (s : State) (r : Rec) : Bool :=
  decide (r.state = .ending) && !framesLeft s r.seq && partnersEnded s r

/-- The read has ended by its end cause (R66, R67): it is in ENDING. One that is ACTIVE with its pass in flight has not. -/
def hasEnded (r : Rec) : Bool := r.endCause.isSome && decide (r.state = .ending)

/-- A fallback's outcome for one sector of its read (R167). The read acts on it unless it has itself ended, and asks for no
repair once its end cause is set. -/
def fallbackOutcome (f : Rec) (s : State) : State :=
  match f.partners.head?.bind s.rec? with
  | none => s
  | some r =>
    let i := f.first - r.first
    match r.sectors[i]? with
    | none => s
    | some x =>
      if hasEnded r ∨ x.progress ≠ .awaitingFallback then s
      else if f.endCause = none ∧ (f.sectors.all fun y => decide (y.progress = .read)) then
        let s1 := s.mapRec r.seq fun y =>
          { (y.mapSector i fun z => { z with progress := .read }) with flags := { y.flags with fromMirror := true } }
        let s2 :=
          if s.settings.weak.get r.bay && r.endCause.isNone then
            requestRelocate .repair r.bay f.first ((x.slot.bind (slotData s1)).getD []) r.seq s1
          else s1
        queueFrames r.seq s2
      else
        queueFrames r.seq
          (s.mapRec r.seq (Rec.mapSector · i fun z => { z with progress := .failed, cause := some .unreadable }))

/-- Sectors a build step left erased because the primary could not be read (R161). -/
def gapsOf (r : Rec) : Nat := r.sectors.countP fun x => decide (x.cause = some .unreadable)

/-- A build step's outcome (R162): the cursor advances and the next step is asked for, the mirror is BOUND, or it degrades.
A step ended by its end cause hands over nothing. -/
def stepOutcome (r : Rec) (s : State) : State :=
  match s.mirror with
  | .paired p c g (.building .present) =>
    if r.endCause.isSome then s
    else if r.sectors.any fun x => decide (x.progress = .failed) then degrade .buildFailed s
    else if c + 17 < Config.userSectors then s.withMirror (.paired p (c + 17) (g + gapsOf r) (.building .deferred))
    else
      raise p (.mirrorState .bound Config.userSectors) (s.withMirror (.paired p Config.userSectors (g + gapsOf r) .bound))
  | _ => s

/-- The BUILD_STEP asked for can be created: its mirror is BUILDING, no earlier step is in the table, and a place is free
(R54, R160). -/
def stepCreatable (s : State) : Bool :=
  match s.mirror with
  | .paired _ _ _ (.building .deferred) => !s.recs.any isStep && decide (freePlaces s ≠ 0)
  | _ => false

/-- Create the BUILD_STEP of the build cursor (R160). -/
def createStep (s : State) : State :=
  match s.mirror with
  | .paired p c g (.building _) =>
    createInternal (newRec .buildStep none p.other 7 c 17 (List.replicate 17 (newSector .unread)) [])
      (s.withMirror (.paired p c g (.building .present)))
  | _ => s

/-- Create the deferred BUILD_STEP if it can be created (R54, R160). -/
def makeStep (s : State) : State := if stepCreatable s then createStep s else s

/-- The deferred creations that a freed place serves, for as long as places are free (R54): the MAP_FLUSH of bay A, the MAP_FLUSH
of bay B, then the BUILD_STEP. -/
def deferredCreations (s : State) : State := makeStep (makeFlush .B (makeFlush .A s))

/-- A record's place is freed (R68), and no record names it as a partner any longer (R63). -/
def removeRec (q : Nat) (s : State) : State :=
  s.withRecs ((s.recs.filter fun o => decide (o.seq ≠ q)).map fun o =>
    { o with partners := o.partners.filter fun p => decide (p ≠ q) })

/-- A record leaves the table (R68): a link record's DONE is appended, an internal record hands over its outcome (R71), and the
freed place serves the deferred creations at once (R54), before the RELOCATE that a fallback's outcome may ask for. -/
def leaveTable (q : Nat) (s : State) : State :=
  match s.rec? q with
  | none => s
  | some r =>
    let s1 := removeRec q s
    match r.link with
    | some (ch, tag) => deferredCreations (reply ch tag (.done (doneOf r)) none s1)
    | none =>
      if isFallback r then fallbackOutcome r (deferredCreations s1)
      else if isStep r then deferredCreations (stepOutcome r s1)
      else deferredCreations s1

end Sys2Proof.Machine
end

