-- ==== Sys2Proof/Machine/Feed.lean ====
section
/-! DEFINITION. The ring, the band list and the feed (R130, R131, R133 to R135, R137, R143). -/

namespace Sys2Proof.Machine

/-- Sectors of a band (R131). -/
def sectorCount (x : Band) : Nat := (x.length + 1023) / 1024

/-- Lines of a band (R131). -/
def lineCount (line : Nat) (x : Band) : Nat := x.length / line

/-- Band bytes of the band's sector `k` (R131). -/
def bandBytes (x : Band) (k : Nat) : Nat := if k + 1 < sectorCount x then 1024 else x.length - 1024 * (sectorCount x - 1)

/-- The band is SPOILED (R131). -/
def isSpoiled (x : Band) : Bool :=
  match x.state with
  | .spoiled _ => true
  | _ => false

/-- Segment of a band, if the ring has one (R130). -/
def segmentOf (t : Stream) (n : Nat) : Option Segment := t.segments.find? fun g => decide (g.band = n)

/-- Unsent bytes of a segment. -/
def Segment.unsent (g : Segment) : Nat := g.bytes.length - g.sent

/-- Unsent bytes U (R130). -/
def unsent (t : Stream) : Nat := (t.segments.map Segment.unsent).sum

/-- Retained bytes: the sent bytes of the oldest band's segment (R130). -/
def retained (t : Stream) : Nat :=
  match t.bands with
  | [] => 0
  | x :: _ =>
    match segmentOf t x.number with
    | some g => g.sent
    | none => 0

/-- Free space of the ring (R130). -/
def freeSpace (t : Stream) : Nat := t.ring * 1024 - (retained t + unsent t + t.reserved)

/-- Change the oldest band. -/
def mapOldest (f : Band → Band) (t : Stream) : Stream :=
  match t.bands with
  | [] => t
  | x :: xs => { t with bands := f x :: xs }

/-- Release a band's segment (R130). -/
def dropSegment (n : Nat) (t : Stream) : Stream :=
  { t with segments := t.segments.filter fun g => decide (g.band ≠ n) }

/-- Change a band's segment. -/
def mapSegment (n : Nat) (f : Segment → Segment) (t : Stream) : Stream :=
  { t with segments := t.segments.map fun g => if g.band = n then f g else g }

/-- Append bytes to a band's segment, which is made at its first bytes (R130). -/
def appendBytes (n : Nat) (d : Data) : List Segment → List Segment
  | [] => [⟨n, d, 0⟩]
  | g :: gs => if g.band = n then { g with bytes := g.bytes ++ d } :: gs else g :: appendBytes n d gs

/-- The feed band: the first with sectors still to fetch (R133). -/
def feedBand (t : Stream) : Option Band := t.bands.find? fun x => decide (x.fetched < sectorCount x)

/-- The feed's next sector as a logical sector (R133). -/
def feedNext (t : Stream) : Option Nat := (feedBand t).map fun x => x.first + x.fetched

/-- The feed's next sector is held: by an unfinished writer without its data, or by a running BUILD_STEP whose secondary is
the stream's bay (R133). -/
def feedHeld (s : State) (t : Stream) (n : Nat) : Bool :=
  awaitsWriter s t.bay n || s.recs.any fun o => stepRunning o && decide (o.bay = t.bay) && covers o n

/-- The feed is eligible (R133). -/
def feedEligible (s : State) : Bool :=
  match s.stream with
  | none => false
  | some t =>
    (decide (t.phase = .priming) || decide (t.phase = .running)) &&
      (match feedBand t with
       | none => false
       | some x =>
         decide (unsent t < t.marks.high * 1024) && decide (bandBytes x x.fetched ≤ freeSpace t) &&
           !feedInFlight s t.bay && !feedHeld s t (x.first + x.fetched))

/-- Every band of the list is fully fetched (R137). -/
def allFetched (t : Stream) : Bool := t.bands.all fun x => decide (sectorCount x ≤ x.fetched)

/-- The priming test (R137): PRIMING enters RUNNING, the ready line rises and the bay is triggered. -/
def primingTest (s : State) : State :=
  match s.stream with
  | none => s
  | some t =>
    if t.phase = .priming ∧ (t.marks.prime * 1024 ≤ unsent t ∨ allFetched t = true) then setPhase .running s else s

/-- The arming test (R143). -/
def armingTest (s : State) : State :=
  s.mapStream fun t => if t.marks.high * 1024 ≤ unsent t then { t with lowArmed := true } else t

/-- The low report test (R143). -/
def lowTest (s : State) : State :=
  match s.stream with
  | none => s
  | some t =>
    if t.lowArmed ∧ unsent t < t.marks.low * 1024 then
      raise t.bay (.streamLow (unsent t)) (s.withStream (some { t with lowArmed := false }))
    else s

/-- State of a band after a sector of it has been fetched (R131): EXPOSING and SPOILED stay. -/
def fetchedState (x : Band) : BandState :=
  match x.state with
  | .exposing => .exposing
  | .spoiled c => .spoiled c
  | _ => if sectorCount x ≤ x.fetched + 1 then .fetched else .fetching

/-- One sector of a band enters the ring (R134, R135): its band bytes, and one more sector fetched. -/
def enterSector (n : Nat) (d : Data) (damaged : Bool) (t : Stream) : Stream :=
  { t with
    segments := appendBytes n d t.segments
    bands := t.bands.map fun x =>
      if x.number = n then
        { x with fetched := x.fetched + 1, state := fetchedState x, damaged := x.damaged || damaged }
      else x }

/-- Band bytes brought by a feed sector (R135): of the data read, or zeros. -/
def feedBytes (x : Band) (k : Nat) (found : Found) : Data :=
  match found with
  | .data d _ => d.take (bandBytes x k)
  | _ => List.replicate (bandBytes x k) 0

/-- A feed sector gave no data (R135). -/
def feedDamaged : Found → Bool
  | .data _ _ => false
  | _ => true

/-- Enter the sectors of a completed feed pass in order (R135). -/
def enterFeed (x : Band) (b : Bay) : List (Nat × Found) → State → State
  | [], s => s
  | (k, found) :: rest, s =>
    let s1 := s.mapStream (enterSector x.number (feedBytes x k found) (feedDamaged found))
    let s2 :=
      if feedDamaged found then
        raise b (.bandDamaged x.number) (s1.mapTally fun y => { y with damaged := y.damaged + 1 })
      else s1
    enterFeed x b rest s2

/-- The band of a feed pass by its serial, unless the pass is to be discarded: its band has left the list or is SPOILED (R135). -/
def feedTarget (t : Stream) (n : Nat) : Option Band := t.bands.find? fun x => decide (x.serial = n) && !isSpoiled x

/-- A feed pass completes (R135): its sectors enter the ring, or it is discarded; then the priming and arming tests. -/
def completeFeed (n : Nat) (found : List (Nat × Found)) (s : State) : State :=
  match s.stream with
  | none => s
  | some t =>
    let s1 := s.withStream (some { t with reserved := 0 })
    match feedTarget t n with
    | none => s1
    | some x => armingTest (primingTest (enterFeed x t.bay found s1))

/-- Band bytes of a read-through sector are copied from the writer's slot (R134). -/
def feedThroughOne (x : Band) (d : Data) (s : State) : State :=
  armingTest (primingTest (s.mapStream (enterSector x.number (d.take (bandBytes x x.fetched)) false)))

/-- The feed takes by read-through what it can (R134), at most `n` sectors. -/
def feedThrough : Nat → State → State
  | 0, s => s
  | n + 1, s =>
    if feedEligible s then
      match s.stream with
      | none => s
      | some t =>
        match feedBand t with
        | none => s
        | some x =>
          match throughData s t.bay (x.first + x.fetched) with
          | some d => feedThrough n (feedThroughOne x d s)
          | none => s
    else s

/-- Sectors of the band list still to be fetched. -/
def unfetched (t : Stream) : Nat := (t.bands.map fun x => sectorCount x - x.fetched).sum

/-- The run of a feed pass from sector `k` (R134): consecutive positions of one track, not taken by read-through, within the
free space. -/
def feedRun (s : State) (t : Stream) (x : Band) (track : Nat) : Nat → Nat → Nat → Nat → List Nat
  | 0, _, _, _ => []
  | n + 1, k, position, room =>
    let l := translate s t.bay (x.first + k)
    if k < sectorCount x ∧ l.track = track ∧ l.sector = position ∧ bandBytes x k ≤ room ∧
        (throughData s t.bay (x.first + k)).isNone then
      k :: feedRun s t x track n (k + 1) (position + 1) (room - bandBytes x k)
    else []

/-- Start the feed pass that the Stream Engine plans (R134); its sectors' band bytes become the reserved bytes. -/
def startFeed (s : State) : State :=
  match s.stream with
  | none => s
  | some t =>
    match feedBand t with
    | none => s
    | some x =>
      let l := translate s t.bay (x.first + x.fetched)
      let items := feedRun s t x l.track 17 x.fetched l.sector (freeSpace t)
      let pass : Pass :=
        { owner := .feed x.serial
          action := .read
          track := l.track
          first := l.sector
          items := items
          allowed := items.map fun _ => 4
          data := []
          slots := []
          relocation := false }
      (s.withStream (some { t with reserved := (items.map (bandBytes x)).sum })).mapSched t.bay fun c =>
        { c with pass := some pass, last := .feed }

end Sys2Proof.Machine
end

