-- ==== Sys2Proof/Machine/Admission.lean ====
section
/-! DEFINITION. Stream Admission (R149 to R156). It holds no state. -/

namespace Sys2Proof.Machine

/-- Stage 1, the lock (R151). -/
def locked (t : Stream) : Bool := decide (unsent t < t.marks.low * 1024)

/-- Stage 2, the budget B (R152). -/
def budget (u line pace : Nat) : Nat := min 65535 (u * 256 / (line * pace))

/-- The seek back and the feed's next sector (R153). -/
def returnCost (t : Nat) (f : Option Nat) : Nat :=
  match f with
  | some f => seekCost (trackDistance t f) + 18
  | none => 0

/-- Stage 3, the guard G0 (R153). -/
def guardOf (h t : Nat) (f : Option Nat) (margin : Nat) : Nat := seekCost (trackDistance t h) + 17 + returnCost t f + margin

/-- Stage 4, the admitted length: none when the candidate is not admitted (R154). -/
def admittedLength (n b g : Nat) : Option Nat := if g < b then some (min n (b - g)) else none

/-- The feed track f (R150). -/
def feedTrack (s : State) (t : Stream) : Option Nat := (feedNext t).map fun n => (translate s t.bay n).track

/-- The four stages for a pass of `n` sectors on track `t` (R151 to R154). -/
def admitOn (s : State) (x : Stream) (t n : Nat) : Option Nat :=
  if locked x then none
  else
    admittedLength n (budget (unsent x) x.line x.pace)
      (guardOf (s.schedOf x.bay).head t (feedTrack s x) s.settings.margin)

/-- The length with which a planned pass may start on a bay (R89): the planned length where admission does not apply. -/
def admission (s : State) (b : Bay) (t n : Nat) : Option Nat :=
  match s.stream with
  | some x => if x.bay = b ∧ x.phase = .running then admitOn s x t n else some n
  | none => some n

end Sys2Proof.Machine
end

