-- ==== Sys2Proof/Machine/Planning.lean ====
section
/-! DEFINITION. Planning of a record's next pass (R94 to R98, R102, R114) and read-through (R98). -/

namespace Sys2Proof.Machine

/-- A planned pass (R94): action, track, first sector, and the record's sectors it serves in order. `claims` is how many
slots its start claims for each sector (R41); `relocation` marks a relocation's pass (R114). -/
structure Plan where
  action : Action
  track : Nat
  first : Nat
  items : List Nat
  claims : Bool
  relocation : Bool
deriving DecidableEq, Repr

/-- What planning comes to (R94): a pass, a stall, or no pass left. -/
inductive Planned where
  | pass (plan : Plan)
  | stalled
  | finished
deriving DecidableEq, Repr

/-- A sector as planning sees it: its index, its location, the action it needs, and whether it is planned alone since it
carries an attempt count (R96, R97). -/
structure Want where
  index : Nat
  loc : Loc
  need : Option Action
  alone : Bool
deriving DecidableEq, Repr

/-- The location of a record's sector `i` (R95): label-track writers' sectors are on track 0 and not translated; a BUILD_STEP
is translated by the map of its phase's bay (R112). -/
def sectorLoc (s : State) (r : Rec) (i : Nat) : Loc :=
  if isLabelWriter r then ⟨0, labelBase r + i⟩ else translate s (schedBay r) (r.first + i)

/-- The data of a writing record's sector is present (R96). -/
def dataPresent (s : State) (r : Rec) (i : Nat) : Bool :=
  if isWrite r || isCopy r then arrivedAt s r i
  else if isStep r then
    (match r.sectors[i]? with
     | some x => decide (x.cause = none)
     | none => false)
  else if isPrepare r then decide (i < 6)
  else true

/-- The action a writing record's sector is ready for (R96). -/
def writeNeed (s : State) (r : Rec) (i : Nat) (x : Sector) : Option Action :=
  match x.progress with
  | .pending => some .erase
  | .erased => if dataPresent s r i then some .write else none
  | .written => some .verify
  | _ => none

/-- A writing record's sector is finished (R96): VERIFIED, DONE, FAILED, or ERASED where no data is to be written. -/
def writeFinished (r : Rec) (i : Nat) (x : Sector) : Bool :=
  match x.progress with
  | .verified => true
  | .done => true
  | .failed => true
  | .erased => (isPrepare r && decide (6 ≤ i)) || (isStep r && decide (x.cause ≠ none))
  | _ => false

/-- Number the sectors of a record from `i` on. -/
def indexed : Nat → List Sector → List (Nat × Sector)
  | _, [] => []
  | i, x :: xs => (i, x) :: indexed (i + 1) xs

/-- A reading record's sector as planning sees it (R97). -/
def readWant (s : State) (r : Rec) (p : Nat × Sector) : Want where
  index := p.1
  loc := sectorLoc s r p.1
  need := if p.2.progress = .unread ∧ (throughData s (schedBay r) (r.first + p.1)).isNone then some .read else none
  alone := decide (0 < p.2.attempts)

/-- A writing record's sector as planning sees it (R96). -/
def writeWant (s : State) (r : Rec) (p : Nat × Sector) : Want where
  index := p.1
  loc := sectorLoc s r p.1
  need := writeNeed s r p.1 p.2
  alone := decide (0 < p.2.attempts)

/-- The following sectors that join an anchor's pass (R95): the same action, the same track, the next sector number, and no
attempt count. -/
def joinRun (act : Action) (track : Nat) : Nat → List Want → List Nat
  | _, [] => []
  | position, w :: ws =>
    if w.need = some act ∧ w.alone = false ∧ w.loc.track = track ∧ w.loc.sector = position then
      w.index :: joinRun act track (position + 1) ws
    else []

/-- The first ready sector and those after it (R96, R97). -/
def anchorOf : List Want → Option (Want × Action × List Want)
  | [] => none
  | w :: ws =>
    match w.need with
    | some act => some (w, act, ws)
    | none => anchorOf ws

/-- The pass of an anchor and its run, at most `limit` sectors (R95). An anchor that carries an attempt count is a retry pass
of that one sector (R102), and its slot is held already. -/
def planFrom (w : Want) (act : Action) (rest : List Want) (limit : Nat) : Plan where
  action := act
  track := w.loc.track
  first := w.loc.sector
  items := if w.alone then [w.index] else (w.index :: joinRun act w.loc.track (w.loc.sector + 1) rest).take limit
  claims := !w.alone
  relocation := false

/-- The next pass of the relocation at the head of the list (R96, R114). -/
def planRelocation (t : Try) : Planned :=
  match t.spare with
  | none => .stalled
  | some p =>
    .pass
      { action := match t.progress with
          | .pending => .erase
          | .erased => .write
          | _ => .verify
        track := (spareLoc p).track
        first := (spareLoc p).sector
        items := [t.index]
        claims := false
        relocation := true }

/-- A writing record's next pass (R96). -/
def planWrite (s : State) (r : Rec) : Planned :=
  match r.relocations with
  | t :: _ => planRelocation t
  | [] =>
    match anchorOf ((indexed 0 r.sectors).map (writeWant s r)) with
    | some (w, act, rest) => .pass (planFrom w act rest 17)
    | none => if (indexed 0 r.sectors).all fun p => writeFinished r p.1 p.2 then .finished else .stalled

/-- Sectors a link READ's pass may claim (R41, R42). -/
def readLimit (s : State) : Nat := min (freeCount s) (s.settings.readCap - holdings s)

/-- First UNREAD sector of a record (R97). -/
def firstUnread (r : Rec) : Option Nat :=
  ((indexed 0 r.sectors).find? fun p => decide (p.2.progress = .unread)).map Prod.fst

/-- The slot into which a reader's sector `i` is read: its own, or for a FALLBACK_READ its read's (R43). None when the read
has given it up (R41). -/
def readSlot (s : State) (r : Rec) (i : Nat) : Option Nat :=
  if isFallback r then
    match r.partners.head?.bind s.rec? with
    | some p => p.sectors[r.first - p.first]?.bind Sector.slot
    | none => none
  else r.sectors[i]?.bind Sector.slot

/-- A sector becomes READ with the data copied into its slot, as found DATA on its first attempt (R98). -/
def takeThrough (q i : Nat) (slot : Option Nat) (d : Data) (s : State) : State :=
  let s1 := match slot with
    | some j => fillSlot j (some d) s
    | none => s
  queueFrames q (s1.mapRec q (Rec.mapSector · i fun x => { x with progress := .read, attempts := 0 }))

/-- A link READ claims a slot for a sector taken by read-through (R98). -/
def claimThrough (q i : Nat) (d : Data) (s : State) : State :=
  let c := claim (.record q) 1 s
  let s1 := c.1.mapRec q (Rec.mapSector · i fun x => { x with slot := c.2.head? })
  takeThrough q i c.2.head? d s1

/-- The READ pass of a reader whose anchor is `i` (R97). -/
def planReadPass (s : State) (r : Rec) (i : Nat) : Planned :=
  match anchorOf (((indexed 0 r.sectors).drop i).map (readWant s r)) with
  | none => .stalled
  | some (w, act, rest) =>
    if w.alone then .pass (planFrom w act rest 1)
    else if isRead r then
      if readLimit s = 0 then .stalled else .pass (planFrom w act rest (readLimit s))
    else if isStep r then
      if r.started ∨ 17 ≤ freeCount s then .pass { planFrom w act rest 17 with claims := false } else .stalled
    else .pass { planFrom w act rest 17 with claims := false }

/-- A reading record's plan, with the read-throughs it takes on the way (R97, R98), at most `n` of them. A sector that already
holds a slot, since its retry was deferred (R41, R102), is taken by read-through into that slot, with no claim and no test of
the read cap: R41 and R98 do not treat this case, and this is the model's choice (DESIGN CHOICE, log entry 37). -/
def planRead (q : Nat) : Nat → State → State × Planned
  | 0, s => (s, .stalled)
  | n + 1, s =>
    match s.rec? q with
    | none => (s, .stalled)
    | some r =>
      match firstUnread r with
      | none => (s, .finished)
      | some i =>
        match throughData s (schedBay r) (r.first + i) with
        | none => (s, planReadPass s r i)
        | some d =>
          if isRead r then
            if (r.sectors[i]?.bind Sector.slot).isSome then planRead q n (takeThrough q i (readSlot s r i) d s)
            else if readLimit s = 0 then (s, .stalled)
            else planRead q n (claimThrough q i d s)
          else if isStep r && !r.started then (s, planReadPass s r i)
          else planRead q n (takeThrough q i (readSlot s r i) d s)

/-- A record reads in its present phase (R97). -/
def isReading (r : Rec) : Bool := isRead r || isFallback r || (isStep r && !r.writePhase)

/-- A record's next pass as it stands at the decision (R94). -/
def planRec (q : Nat) (s : State) : State × Planned :=
  match s.rec? q with
  | none => (s, .stalled)
  | some r => if isReading r then planRead q (r.count + 1) s else (s, planWrite s r)

/-- The record has no pass left (R53, R96, R97). -/
def noPassLeft (r : Rec) : Bool :=
  if isReading r then r.sectors.all fun x => decide (x.progress ≠ .unread)
  else decide (r.relocations = []) && (indexed 0 r.sectors).all fun p => writeFinished r p.1 p.2

end Sys2Proof.Machine
end

