-- ==== Sys2Proof/Machine/Scheduling.lean ====
section
/-! DEFINITION. The Bay Scheduler: pass start (R77), the decision (R79 to R92), and the current level (R76). -/

namespace Sys2Proof.Machine

/-- Level of a record, 8 where there is none. -/
def levelOf (s : State) (q : Option Nat) : Nat :=
  match q.bind s.rec? with
  | some r => r.level
  | none => 8

/-- The current level C of a bay (R76). -/
def currentLevel (s : State) (b : Bay) : Nat :=
  let c := s.schedOf b
  if c.active.isSome then levelOf s c.active else levelOf s c.stack.head?

/-- One record comes before another, best first (R83). -/
def comesBefore (x y : Rec) : Bool :=
  decide (x.level < y.level) ||
    (decide (x.level = y.level) &&
      (decide (sourceRank x < sourceRank y) || (decide (sourceRank x = sourceRank y) && decide (x.seq < y.seq))))

/-- Put a record in its place, best first. -/
def insertBest (r : Rec) : List Rec → List Rec
  | [] => [r]
  | x :: xs => if comesBefore r x then r :: x :: xs else x :: insertBest r xs

/-- Records best first (R83). -/
def bestFirst (rs : List Rec) : List Rec := rs.foldl (fun acc r => insertBest r acc) []

/-- The eligible waiting records of a bay's scheduler below a level, best first (R81, R84, R85). -/
def candidates (s : State) (b : Bay) (bound : Nat) : List Nat :=
  (bestFirst (s.recs.filter fun r =>
    !isEject r && decide (schedBay r = b) && decide (r.level < bound) && eligible s r)).map Rec.seq

/-! ### Pass start -/

/-- Attempts allowed to a sector of a record's pass (R99). -/
def allowedFor (s : State) (b : Bay) (r : Rec) (relocation : Bool) (i : Nat) : Nat :=
  let made :=
    if relocation then (match r.try? i with
      | some t => t.attempts
      | none => 0)
    else (match r.sectors[i]? with
      | some x => x.attempts
      | none => 0)
  if isPrepare r then 4 else if runningOn s b then 1 else 4 - made

/-- The bytes a WRITE records or a VERIFY compares for a record's sector (R106, R107): the label buffer's for a label-track
writer, else the slot's. -/
def sourceData (s : State) (r : Rec) (i : Nat) : Data :=
  if isLabelWriter r then ((s.mechOf r.bay).buffer.getD (labelBase r + i) none).getD []
  else ((r.sectors[i]?.bind Sector.slot).bind (slotData s)).getD []

/-- The slots a pass uses (R48). -/
def passSlots (s : State) (r : Rec) (p : Plan) : List Nat :=
  match p.action with
  | .read => p.items.filterMap (readSlot s r)
  | .erase => if p.relocation then p.items.filterMap (readSlot s r) else []
  | _ => p.items.filterMap (readSlot s r)

/-- Give the sectors of a record the slots claimed for them, in order (R41, R44). -/
def assignSlots (q : Nat) : List Nat → List Nat → State → State
  | i :: is, j :: js, s => assignSlots q is js (s.mapRec q (Rec.mapSector · i fun x => { x with slot := some j }))
  | _, _, s => s

/-- Write six places of the label buffer from a place on. -/
def putImages (at0 : Nat) (images : List Data) (m : Mech) : Mech :=
  { m with buffer := m.buffer.take at0 ++ images.map some ++ m.buffer.drop (at0 + images.length) }

/-- The first pass start of a flush (R120): the image is taken, the flush count raised, the dirty flag cleared, the pending
flush begun. -/
def takeFlushImage (q : Nat) (b : Bay) (s : State) : State :=
  match (s.mechOf b).map with
  | none => s
  | some d =>
    let n := (d.flushCount + 1) % 65536
    s.mapMech b fun m =>
      { putImages 2 (mapImages (mapBytes d n)) m with
        map := some { d with flushCount := n, dirty := false, pending := .none, flushing := some q } }

/-- What a record's first pass start brings (R28, R44, R77, R120, R174). -/
def firstStart (r : Rec) (s : State) : State :=
  match r.kind with
  | .prepare serial name =>
    s.mapMech r.bay fun m => putImages 0 (prepareImages ⟨serial, name, nextPreparations m⟩) m
  | .setZones zs => s.mapMech r.bay (putImages 1 [zonesImage zs])
  | .mapFlush => takeFlushImage r.seq r.bay s
  | .buildStep =>
    let c := claim (.record r.seq) 17 s
    assignSlots r.seq (List.range 17) c.2 c.1
  | _ => s

/-- The record becomes the bay's active record (R77): an active record it takes the place of is pushed (R84), and the stack
top is popped (R85). -/
def makeActive (b : Bay) (q : Nat) (s : State) : State :=
  let c := s.schedOf b
  let s1 :=
    match c.active with
    | some a =>
      if a = q then s
      else (s.mapRec a fun x => { x with state := .suspended }).mapSched b fun c => { c with stack := a :: c.stack }
    | none => if c.stack.head? = some q then checkMode b (s.mapSched b fun c => { c with stack := c.stack.tail }) else s
  (s1.mapRec q fun x => { x with state := .active, started := true, stalled := false }).mapSched b fun c =>
    { c with active := some q }

/-- Start a planned pass over its first `n` sectors (R77, R89). -/
def startPass (b : Bay) (q : Nat) (p : Plan) (n : Nat) (s : State) : State :=
  match s.rec? q with
  | none => s
  | some r =>
    let items := p.items.take n
    let s1 := if r.started then s else firstStart r s
    let s2 :=
      if p.claims && isRead r then
        let c := claim (.record q) items.length s1
        assignSlots q items c.2 c.1
      else s1
    let s3 := makeActive b q s2
    let r3 := (s3.rec? q).getD r
    let data := if p.action = .write ∨ p.action = .verify then items.map (sourceData s3 r3) else []
    let pass : Pass :=
      { owner := .record q
        action := p.action
        track := p.track
        first := p.first
        items := items
        allowed := items.map (allowedFor s3 b r3 p.relocation)
        data := data
        slots := passSlots s3 r3 { p with items := items }
        relocation := p.relocation }
    s3.mapSched b fun c => { c with pass := some pass, last := .pass }

/-! ### Stalls, and a build step's change of phase -/

/-- A record whose next pass could not be planned at this decision is reported as stalled (R82). -/
def markStalled (q : Nat) (s : State) : State := s.mapRec q fun x => { x with stalled := true }

/-- The active record or the stack top stalls (R82): it returns to WAITING and leaves its place. -/
def stall (b : Bay) (q : Nat) (s : State) : State :=
  checkMode b
    ((s.mapRec q fun x => { x with state := .waiting, stalled := true }).mapSched b fun c =>
      { c with
        active := if c.active = some q then none else c.active
        stack := c.stack.filter fun x => decide (x ≠ q) })

/-- The read phase of a BUILD_STEP ends (R91): it returns to WAITING as a record of the secondary's scheduler, which is
triggered. -/
def toWritePhase (q : Nat) (s : State) : State :=
  match s.rec? q with
  | none => s
  | some r =>
    let b := schedBay r
    let s1 := checkMode b (s.mapSched b fun c =>
      { c with
        active := if c.active = some q then none else c.active
        stack := c.stack.filter fun x => decide (x ≠ q) })
    trigger r.bay (s1.mapRec q fun x =>
      { x with
        state := .waiting
        writePhase := true
        sectors := x.sectors.map fun y => { y with progress := .pending, attempts := 0 } })

/-- What follows when a record has no pass left (R78, R91). -/
def finishRecord (q : Nat) (s : State) : State :=
  match s.rec? q with
  | none => s
  | some r => if isStep r && !r.writePhase then toWritePhase q s else enterEnding q s

/-! ### The decision -/

/-- State of a decision under way: whether a pass was started, and whether a candidate was planned and not admitted. -/
structure Trial where
  state : State
  started : Bool
  refused : Bool

/-- Put one planned candidate to admission and start it if admitted (R89). -/
def tryPlanned (b : Bay) (q : Nat) (p : Plan) (refused : Bool) (s : State) : Trial :=
  match admission s b p.track p.items.length with
  | some n => ⟨startPass b q p n s, true, refused⟩
  | none => ⟨s, false, true⟩

/-- Try waiting candidates in order until one is started (R84, R85, R87). -/
def tryWaiting (b : Bay) : List Nat → Bool → State → Trial
  | [], refused, s => ⟨s, false, refused⟩
  | q :: qs, refused, s =>
    match planRec q s with
    | (s1, .stalled) => tryWaiting b qs refused (markStalled q s1)
    | (s1, .finished) => tryWaiting b qs refused (finishRecord q s1)
    | (s1, .pass p) =>
      let t := tryPlanned b q p refused s1
      if t.started then t else tryWaiting b qs t.refused t.state

/-- The decision where the bay has no active record (R85, R87), trying at most `n` stack tops. -/
def tryStack (b : Bay) : Nat → Bool → State → Trial
  | 0, refused, s => ⟨s, false, refused⟩
  | n + 1, refused, s =>
    match (s.schedOf b).stack with
    | [] => tryWaiting b (candidates s b 8) refused s
    | q :: _ =>
      let t := tryWaiting b (candidates s b (levelOf s (some q))) refused s
      if t.started then t
      else
        match planRec q t.state with
        | (s1, .pass p) => tryPlanned b q p t.refused s1
        | (s1, .stalled) => tryStack b n t.refused (stall b q s1)
        | (s1, .finished) => tryStack b n t.refused (finishRecord q s1)

/-- The decision where the bay has no active record, over its whole stack. -/
def tryIdle (b : Bay) (refused : Bool) (s : State) : Trial := tryStack b ((s.schedOf b).stack.length + 1) refused s

/-- The active record's own next pass (R84, R87), planned at its turn. Planned already under R82, it is planned anew here, and
stalls where a waiting reader reached before its turn took the last slots by read-through; the decision then goes on as with no
active record (R82, R85). The spec is silent on that case: the model's choice (DESIGN CHOICE, log entry 45). -/
def tryActive (b : Bay) (q : Nat) (refused : Bool) (s : State) : Trial :=
  match planRec q s with
  | (s1, .pass p) => tryPlanned b q p refused s1
  | (s1, .stalled) => tryIdle b refused (stall b q s1)
  | (s1, .finished) => tryIdle b refused (finishRecord q s1)

/-- The decision among a bay's records (R82 to R87). The active record is planned before any other candidate. -/
def tryRecords (b : Bay) (s : State) : Trial :=
  match (s.schedOf b).active with
  | none => tryIdle b false s
  | some q =>
    match planRec q s with
    | (s1, .stalled) => tryIdle b false (stall b q s1)
    | (s1, .finished) => tryIdle b false (finishRecord q s1)
    | (s1, .pass _) =>
      if (s1.schedOf b).mode = .nested then
        let t := tryWaiting b (candidates s1 b (levelOf s1 (some q))) false s1
        if t.started then t else tryActive b q t.refused t.state
      else tryActive b q false s1

/-- Record the outcome of a decision that started no pass (R90). -/
def recordOutcome (b : Bay) (t : Trial) : State :=
  if t.started then t.state
  else t.state.mapSched b fun c => { c with last := if t.refused then .notAdmitted else .nothing }

/-- No record of the bay's scheduler is marked stalled as a decision begins (R82). -/
def clearStalled (b : Bay) (s : State) : State :=
  s.withRecs (s.recs.map fun r => if schedBay r = b then { r with stalled := false } else r)

/-- The feed's read-throughs before a decision on the stream's bay (R80, R134). -/
def feedFirst (b : Bay) (s : State) : State :=
  match s.stream with
  | some t => if t.bay = b then feedThrough (unfetched t) s else s
  | none => s

/-- A trigger is answered. -/
def answerTrigger (b : Bay) (s : State) : State := s.mapSched b fun c => { c with triggered := false }

/-- The state against which a decision considers its candidates: the trigger answered, no record marked stalled, and the
feed's read-throughs taken (R80, R82, R134). Where such a read-through takes the stream from PRIMING to RUNNING, this same
decision's record passes are put to admission: R89 and R149 read the stream's state at the decision, R137 says from the first
decision after the entry, and this is the model's choice (DESIGN CHOICE, log entry 47). -/
def considered (b : Bay) (s : State) : State := feedFirst b (clearStalled b (answerTrigger b s))

/-- A decision of a bay's scheduler (R79 to R90), which answers its trigger. A trigger that finds a pass in flight has no
effect. -/
def makeDecision (b : Bay) (s : State) : State :=
  if passInFlight s b then answerTrigger b s
  else if canStart s b = false then (answerTrigger b s).mapSched b fun c => { c with last := .cannotStart }
  else
    let s1 := considered b s
    if streamOn s1 b && feedEligible s1 then startFeed s1 else recordOutcome b (tryRecords b s1)

end Sys2Proof.Machine
end

