-- ==== Sys2Proof/Machine/Settle.lean ====
section
/-! DEFINITION. What follows at once (log entry 3): records leave the table (R68), deferred creations and flushes are made
(R54, R119, R160), an ejection goes on (R32), triggered schedulers decide (R79); then the spin-down timers (R22) and the next
outbound frame (R186). -/

namespace Sys2Proof.Machine

/-! ### Ejection -/

/-- The conditions of R32 for the release of an ejecting bay's cartridge hold. -/
def releaseHolds (s : State) (b : Bay) : Bool :=
  let m := s.mechOf b
  isEjecting m.mode && (s.recs.all fun r => isEject r || !onBay b r) && !passInFlight s b &&
    (m.inhibit || (match m.map with
      | some d => !d.dirty
      | none => true))

/-- Release of the cartridge (R32, R75): the bay is EMPTY, CARTRIDGE_OUT is raised and the EJECT records end; a stream still
bound to the bay loses its bands (R147). -/
def release (b : Bay) (s : State) : State :=
  let s1 := s.mapMech b fun m =>
    { m with mode := .empty, inhibit := false, spindle := .stopped, locked := false, medium := none, label := none,
             zones := none, map := none }
  let s2 := s1.mapSched b fun c => { c with head := 0, active := none, stack := [] }
  let s3 := s2.mapStream fun t => if t.bay = b then { t with bands := [], segments := [] } else t
  (seqsOf s3 fun r => isEject r && decide (r.bay = b)).foldl (fun t q => enterEnding q t) (raise b .cartridgeOut s3)

/-- A spindle stop begins and the bay's EJECT records are ACTIVE until release (R31, R32). -/
def beginStop (b : Bay) (s : State) : State :=
  let s1 := s.mapMech b fun m => { m with spindle := .stopping }
  s1.withRecs (s1.recs.map fun r => if isEject r && decide (r.bay = b) then { r with state := .active } else r)

/-- The next step of an ejection whose conditions hold (R32): the stop begins, or with the spindle STOPPED the release. -/
def ejectStep (b : Bay) (s : State) : Option State :=
  if releaseHolds s b then
    match (s.mechOf b).spindle with
    | .turning => some (beginStop b s)
    | .stopped => some (release b s)
    | _ => none
  else none

/-! ### Deferred creations -/

/-- The first creation that is due (R54, R119, R160): MAP_FLUSH of bay A, MAP_FLUSH of bay B, then the BUILD_STEP. A map that one
pass completion has made dirty asks for its flush after the whole of that completion, so after every RELOCATE that the
completion asks for: the model's choice among the moments R119 leaves open (DESIGN CHOICE, log entry 39). -/
def creationStep (s : State) : Option State :=
  if needsFlush s .A then some (askFlush .A s)
  else if needsFlush s .B then some (askFlush .B s)
  else if flushDeferred s .A && decide (freePlaces s ≠ 0) then some (createFlush .A s)
  else if flushDeferred s .B && decide (freePlaces s ≠ 0) then some (createFlush .B s)
  else if stepCreatable s then some (createStep s)
  else none

/-! ### Leaving and decisions -/

/-- Take the `n`-th of a list, counted around. -/
def pickFrom (n : Nat) (l : List Nat) : Option Nat := if l = [] then none else l[n % l.length]?

/-- The next record to leave the table (R68). Where several are ready in one event, internal records leave before link records,
and in the order of their creation: the spec fixes no order between a FALLBACK_READ, whose outcome lets its read queue frames (R167),
and a link record, whose DONE is queued, and this is the model's choice (DESIGN CHOICE, log entry 51). Among several link records the
order is a free choice (log entry 4). -/
def leaveStep (s : State) : Option State :=
  match seqsOf s fun r => readyToLeave s r && !isLink r with
  | q :: _ => some (leaveTable q s)
  | [] =>
    match seqsOf s fun r => readyToLeave s r && isLink r with
    | [] => none
    | [q] => some (leaveTable q s)
    | qs => (pickFrom (Config.freeChoice s.choices) qs).map fun q => leaveTable q s.choose

/-- The bay's scheduler has a trigger to answer: one of R79 given it, or an eligible feed it can start (R133). -/
def mustDecide (s : State) (b : Bay) : Bool :=
  (s.schedOf b).triggered || (streamOn s b && feedEligible s && !passInFlight s b && canStart s b)

/-- The bay's decision could start something. -/
def mayStart (s : State) (b : Bay) : Bool := !passInFlight s b && canStart s b

/-- The next decision: where both bays decide and both may start a pass, which comes first is a free choice (log entry 4). -/
def decisionStep (s : State) : Option State :=
  if mustDecide s .A && mustDecide s .B && mayStart s .A && mayStart s .B then
    if Config.freeChoice s.choices % 2 = 0 then some (makeDecision .A s.choose) else some (makeDecision .B s.choose)
  else if mustDecide s .A then some (makeDecision .A s)
  else if mustDecide s .B then some (makeDecision .B s)
  else none

/-- The next thing that follows at once, if anything does. -/
def nextStep (s : State) : Option State :=
  match creationStep s with
  | some t => some t
  | none =>
    match leaveStep s with
    | some t => some t
    | none =>
      match ejectStep .A s with
      | some t => some t
      | none =>
        match ejectStep .B s with
        | some t => some t
        | none => decisionStep s

/-- Let everything follow, at most `n` things (log entry 3). -/
def settleFor : Nat → State → State
  | 0, s => s
  | n + 1, s =>
    match nextStep s with
    | some t => settleFor n t
    | none => s

/-- Let everything follow that follows at once; no event of the block is followed by as many as 300 things (log entry 3). -/
def settle (s : State) : State := settleFor 300 s

/-! ### Timers -/

/-- The conditions of R22 under which the bay's spin-down timer runs. A BUILD_STEP keeps both bays' timers from its creation;
while a step is DEFERRED a bay of the BUILDING mirror with no record on it may rest (DESIGN CHOICE, log entry 40). -/
def timerHolds (s : State) (b : Bay) : Bool :=
  let m := s.mechOf b
  decide (m.mode = .ready) && (s.recs.all fun r => !onBay b r) && !passInFlight s b && !streamOn s b &&
    (match m.map with
     | some d => !d.dirty
     | none => true) &&
    decide (s.settings.spinDown.get b ≠ 0)

/-- The timer starts from the full time when its conditions come to hold, and stops when one ceases (R22). -/
def setTimer (b : Bay) (s : State) : State :=
  if timerHolds s b then
    s.mapMech b fun m => { m with timer := if m.timer.isSome then m.timer else some (s.settings.spinDown.get b) }
  else s.mapMech b fun m => { m with timer := none }

/-- The end of a command's step: all that follows at once, the timers, and the next frame's sending. -/
def conclude (s : State) : State := selectNext (setTimer .B (setTimer .A (settle s)))

/-- A request frame is taken unless the reset line is asserted, while which no inbound byte is taken (R183). -/
def onLink (s : State) (t : State) : State := if s.link.resetLine then s else t

end Sys2Proof.Machine
end

