-- ==== Sys2Proof/Machine/PassCompletion.lean ====
section
/-! DEFINITION. Pass completion (R78): what the pass leaves on the medium (R5, R6), what the owner makes of its sectors (R100,
R101, R105 to R107, R114, R135, R161, R166), and PASS_COMPLETION. -/

namespace Sys2Proof.Machine

/-- What the mechanism met on covered sector `j`; a sector with no entry was met sound. -/
def responseAt (rs : List SectorResponse) (j : Nat) : SectorResponse := rs.getD j ⟨0, .took⟩

/-- Key of the pass's covered sector `j`. -/
def passKey (p : Pass) (j : Nat) : Nat := sectorKey p.track (p.first + j)

/-- The surface after the pass (R5, R6); READ and VERIFY leave it as it was (R4). -/
def mediumAfter (p : Pass) (rs : List SectorResponse) (m : Medium) : Medium :=
  match p.action with
  | .erase => afterErase m ((List.range p.items.length).map (passKey p))
  | .write =>
    afterWrite m ((List.range p.items.length).map fun j => (passKey p j, p.data.getD j [], (responseAt rs j).wrote))
  | _ => m

/-- Attempts that earlier passes made on the owner's sector `i` (R102, R114). -/
def attemptsBefore (s : State) (p : Pass) (i : Nat) : Nat :=
  match p.owner with
  | .record q =>
    match s.rec? q with
    | none => 0
    | some r =>
      if p.relocation then (match r.try? i with
        | some t => t.attempts
        | none => 0)
      else (match r.sectors[i]? with
        | some x => x.attempts
        | none => 0)
  | _ => 0

/-- What a READ or VERIFY pass found on covered sector `j`, the owner's sector `i` (R99). -/
def foundAt (s : State) (p : Pass) (rs : List SectorResponse) (m : Medium) (j i : Nat) : Found :=
  attemptSector (conditionAt m (passKey p j)) (p.allowed.getD j 4) (responseAt rs j).fails (attemptsBefore s p i)

/-! ### READ passes of records -/

/-- Change one sector of one record. -/
def mapSectorOf (q i : Nat) (f : Sector → Sector) (s : State) : State := s.mapRec q (Rec.mapSector · i f)

/-- The RETRIED flag where a sector needed more than one attempt in all (R70, R100, R108). -/
def noteTries (q total : Nat) (s : State) : State := if 1 < total then flagRecord q setRetried s else s

/-- A sector's failed read may be fetched from the secondary (R166). -/
def fallbackApplies (s : State) (r : Rec) (n : Nat) : Bool :=
  isRead r && decide (mirrorPrimary s = some r.bay) && decide (n < buildCursor s) && decide (freePlaces s ≠ 0)

/-- Create the FALLBACK_READ of a read's sector, its partner (R166). -/
def createFallback (r : Rec) (i : Nat) (s : State) : State :=
  createInternal (newRec .fallbackRead none r.bay.other r.level (r.first + i) 1 [newSector .unread] [r.seq])
    (s.mapRec r.seq fun x =>
      { (x.mapSector i fun y => { y with progress := .awaitingFallback, attempts := 0 }) with
        partners := x.partners ++ [s.nextSeq] })

/-- A sector has failed 4 attempts in all (R100): AWAITING_FALLBACK with its record created, or FAILED. -/
def readGivesUp (r : Rec) (i : Nat) (s : State) : State :=
  if fallbackApplies s r (r.first + i) then createFallback r i s
  else mapSectorOf r.seq i (fun y => { y with progress := .failed, attempts := 0, cause := some .unreadable }) s

/-- The bytes read go into the sector's slot, and a weak sector of a link READ asks for its relocation (R100, R101). -/
def readDelivers (r : Rec) (i total : Nat) (d : Data) (s : State) : State :=
  let s1 := match readSlot s r i with
    | some j => fillSlot j (some d) s
    | none => s
  let s2 := mapSectorOf r.seq i (fun y => { y with progress := .read, attempts := 0 }) s1
  if isRead r && decide (1 < total) && s.settings.weak.get r.bay then requestRelocate .weak r.bay (r.first + i) d r.seq s2
  else s2

/-- One sector of a record's READ pass (R100). -/
def settleRead (q i : Nat) (found : Found) (s : State) : State :=
  match s.rec? q with
  | none => s
  | some r =>
    let total := (match r.sectors[i]? with
      | some x => x.attempts
      | none => 0) + foundTries found
    let s1 := noteTries q total s
    match found with
    | .data d _ => readDelivers r i total d s1
    | .blank => mapSectorOf q i (fun y => { y with progress := .failed, attempts := 0, cause := some .blank }) s1
    | .failed _ => if 4 ≤ total then readGivesUp r i s1 else mapSectorOf q i (fun y => { y with attempts := total }) s1

/-! ### VERIFY passes of records -/

/-- A sector's verify has failed for good (R107, R161): a label-track writer's sector is FAILED with its cause, a build
step's FAILED, and any other's is handed to relocation. -/
def verifyGivesUp (r : Rec) (i : Nat) (cause : Cause) (s : State) : State :=
  if isLabelWriter r then
    mapSectorOf r.seq i (fun y => { y with progress := .failed, attempts := 0, cause := some cause }) s
  else if isStep r then mapSectorOf r.seq i (fun y => { y with progress := .failed, attempts := 0 }) s
  else startRelocation r.seq i s

/-- One sector of a record's VERIFY pass (R107). -/
def settleVerify (q i : Nat) (found : Found) (bytes : Data) (s : State) : State :=
  match s.rec? q with
  | none => s
  | some r =>
    let total := (match r.sectors[i]? with
      | some x => x.attempts
      | none => 0) + foundTries found
    let s1 := noteTries q total s
    match verdictOf found bytes with
    | .matched => mapSectorOf q i (fun y => { y with progress := .verified, attempts := 0 }) s1
    | .mismatched => verifyGivesUp r i .unreadable s1
    | .blank => verifyGivesUp r i .blank s1
    | .failed =>
      if 4 ≤ total then verifyGivesUp r i .unreadable s1 else mapSectorOf q i (fun y => { y with attempts := total }) s1

/-- A relocation's VERIFY on its spare (R114). -/
def settleTryVerify (q i : Nat) (found : Found) (bytes : Data) (s : State) : State :=
  match s.rec? q with
  | none => s
  | some r =>
    match r.try? i with
    | none => s
    | some t =>
      let total := t.attempts + foundTries found
      let s1 := noteTries q total s
      match verdictOf found bytes with
      | .matched => recordMove q i (t.spare.getD 0) s1
      | .mismatched => assignSpare q i s1
      | .blank => assignSpare q i s1
      | .failed =>
        if 4 ≤ total then assignSpare q i s1 else s1.mapRec q (Rec.mapTry · i fun y => { y with attempts := total })

/-! ### The owner's sectors -/

/-- Progress of a sector whose ERASE or WRITE pass has completed (R105, R106, R114). -/
def advance (q i : Nat) (relocation : Bool) (pr : Progress) (s : State) : State :=
  if relocation then s.mapRec q (Rec.mapTry · i fun y => { y with progress := pr })
  else mapSectorOf q i (fun y => { y with progress := pr }) s

/-- One covered sector of a record's pass: the pass's sector `j` is the record's sector `i`. -/
def settleSector (q : Nat) (p : Pass) (rs : List SectorResponse) (m : Medium) (j i : Nat) (s : State) : State :=
  match p.action with
  | .erase => advance q i p.relocation .erased s
  | .write => advance q i p.relocation .written s
  | .read => settleRead q i (foundAt s p rs m j i) s
  | .verify =>
    if p.relocation then settleTryVerify q i (foundAt s p rs m j i) (p.data.getD j []) s
    else settleVerify q i (foundAt s p rs m j i) (p.data.getD j []) s

/-- The covered sectors of a record's pass in order, from the pass's sector `j` on. -/
def settleSectors (q : Nat) (p : Pass) (rs : List SectorResponse) (m : Medium) : Nat → List Nat → State → State
  | _, [], s => s
  | j, i :: is, s => settleSectors q p rs m (j + 1) is (settleSector q p rs m j i s)

/-- Number the items of a pass from its sector `j` on. -/
def foundFrom (s : State) (p : Pass) (rs : List SectorResponse) (m : Medium) : Nat → List Nat → List (Nat × Found)
  | _, [] => []
  | j, k :: ks => (k, foundAt s p rs m j k) :: foundFrom s p rs m (j + 1) ks

/-- Step 3 of R78: the owner enters ENDING when its end cause is set or it has no pass left; a build step's read phase ends
as R91 gives it. -/
def ownerEnds (q : Nat) (s : State) : State :=
  match s.rec? q with
  | none => s
  | some r => if r.endCause.isSome then enterEnding q s else if noPassLeft r then finishRecord q s else s

/-- The slots that a pass of discarded work kept return to the free pool (R48). -/
def releasePass (b : Bay) (s : State) : State := signalRelease s (s.withSlots (s.slots.map (dropPass b)))

/-- Steps 2 and 3 of R78, by the pass's owner. -/
def handOutcomes (b : Bay) (p : Pass) (rs : List SectorResponse) (m : Medium) (s : State) : State :=
  match p.owner with
  | .record q => ownerEnds q (labelRoundEnd q (queueFrames q (settleSectors q p rs m 0 p.items s)))
  | .feed n => completeFeed n (foundFrom s p rs m 0 p.items) s
  | .discarded => releasePass b s

/-- A pass completes on a bay that has one in flight (R78); the bay's scheduler then decides. -/
def completePass (b : Bay) (rs : List SectorResponse) (s : State) : State :=
  match (s.schedOf b).pass with
  | none => s
  | some p =>
    let s1 := s.mapSched b fun c => { c with pass := none, head := p.track }
    let s2 := s1.mapMech b fun k => { k with medium := k.medium.map (mediumAfter p rs) }
    trigger b (handOutcomes b p rs ((s.mechOf b).medium.getD []) s2)

/-- PASS_COMPLETION (R78). -/
def execPassCompletion (b : Bay) (rs : List SectorResponse) (s : State) : Host.Outcome State Fault Refusal :=
  if passInFlight s b then .next (conclude (completePass b rs s)) else .next s

/-- RECORD_LEAVES_TABLE (R68): the record leaves if it is in ENDING, its frames are sent and its partners have ended. -/
def execRecordLeavesTable (q : Nat) (s : State) : Host.Outcome State Fault Refusal :=
  match s.rec? q with
  | none => .next s
  | some r => if readyToLeave s r then .next (conclude (leaveTable q s)) else .next s

/-- DEFERRED_CREATION (R54): the deferred creation that is first in R54's order, if one can be made. -/
def execDeferredCreation (s : State) : Host.Outcome State Fault Refusal :=
  match creationStep s with
  | none => .next s
  | some t => .next (conclude t)

end Sys2Proof.Machine
end

