-- ==== Sys2Proof/Machine/Resets.lean ====
section
/-! DEFINITION. The resets: POWER_ON_RESET (R8, R35, R46, R73, R148, R169, R187), the controller reset (R36, R47, R48, R74,
R93, R110, R125, R148, R169, R183) and the commands that cause it. -/

namespace Sys2Proof.Machine

/-! ### Power-on -/

/-- The surface left by a pass cut short (R8): the effect on sectors passed over, the sector under the head, and the rest as
it was. -/
def cutMedium (p : Pass) (c : Cut) (m : Medium) : Medium :=
  let m1 := mediumAfter { p with items := p.items.take c.passed } c.responses m
  if c.passed < p.items.length then
    setCondition m1 (passKey p c.passed) (afterCutOne p.action (conditionAt m1 (passKey p c.passed)) c.under)
  else m1

/-- A bay at power-on (R35): a cartridge present is locked in and spun up; without one the bay is EMPTY. -/
def powerMech (m : Mech) (pass : Option Pass) (c : Cut) : Mech :=
  match m.medium with
  | none => Mech.reset
  | some x =>
    { Mech.reset with
      mode := .loading
      spindle := .starting
      locked := true
      medium := some (match pass with
        | some p => cutMedium p c x
        | none => x) }

/-- Power-on reset. The cable's two inputs (the byte waiting and the reset line), the free choices already taken and the
commands waiting are not of the controller and stay (log entries 4, 15). -/
def powerOn (cut : Two Cut) (s : State) : State :=
  { State.reset with
    mech := ⟨powerMech (s.mechOf .A) (s.schedOf .A).pass cut.a, powerMech (s.mechOf .B) (s.schedOf .B).pass cut.b⟩
    link := { Link.reset with waiting := s.link.waiting, resetLine := s.link.resetLine }
    choices := s.choices
    pending := s.pending }

/-- POWER_ON_RESET (R35). -/
def execPowerOnReset (cut : Two Cut) (s : State) : Host.Outcome State Fault Refusal := .next (powerOn cut s)

/-! ### Controller reset -/

/-- A holder of a slot stands for the pass's owner: its record, or a partner whose slot it uses (R40, R43). -/
def holderOf (s : State) (q : Nat) (h : Holder) : Bool :=
  decide (h = .record q) ||
    (match s.rec? q with
     | some r => r.partners.any fun p => decide (h = .record p)
     | none => false)

/-- The holder is the pass in flight on the bay, left by an earlier reset. -/
def passHolder (b : Bay) (h : Holder) : Bool :=
  match h, b with
  | .passes x _, .A => x
  | .passes _ y, .B => y
  | _, _ => false

/-- The pass in flight on the bay uses slot `i` with these holders (R48). -/
def passUses (s : State) (b : Bay) (i : Nat) (hs : List Holder) : Bool :=
  match (s.schedOf b).pass with
  | none => false
  | some p =>
    match p.owner with
    | .record q => decide (i ∈ p.slots) && hs.any (holderOf s q)
    | .discarded => hs.any (passHolder b)
    | .feed _ => false

/-- Ring slots that a feed pass in flight on the bay is filling: one for each sector it covers (log entry 23). -/
def fillingOn (s : State) (b : Bay) : Nat :=
  match (s.schedOf b).pass with
  | none => 0
  | some p =>
    match p.owner with
    | .feed _ => p.items.length
    | _ => 0

/-- What becomes of each slot, from slot `i` on; `n` ring slots are still to be kept for the feed pass (R47, R48). -/
def keepSlots (s : State) : Nat → Nat → List Slot → List Slot
  | _, _, [] => []
  | i, n, .held hs d :: xs =>
    (if passUses s .A i hs || passUses s .B i hs then .held [.passes (passUses s .A i hs) (passUses s .B i hs)] d else .free) ::
      keepSlots s (i + 1) n xs
  | i, n, .ring :: xs =>
    (if n = 0 then .free else .held [.passes (decide (0 < fillingOn s .A)) (decide (0 < fillingOn s .B))] none) ::
      keepSlots s (i + 1) (n - 1) xs
  | i, n, .free :: xs => .free :: keepSlots s (i + 1) n xs

/-- A MAP_FLUSH at the reset (R74, R125): ACTIVE with its pass in flight, else WAITING. -/
def keepFlush (s : State) (r : Rec) : Rec :=
  { r with
    state := match r.state with
      | .ending => .ending
      | _ => if ownPassInFlight s r then .active else .waiting
    stalled := false }

/-- The pass in flight of a bay at the reset (R93): a MAP_FLUSH's keeps its owner, any other is discarded work, a feed pass's
too (DESIGN CHOICE for what a QUERY names, log entry 46). -/
def keepPass (s : State) (p : Pass) : Pass :=
  match p.owner with
  | .record q =>
    match s.rec? q with
    | some r => if isFlush r then p else { p with owner := .discarded }
    | none => { p with owner := .discarded }
  | _ => { p with owner := .discarded }

/-- A bay's scheduler at the reset (R93); it decides at the reset when it has no pass in flight. -/
def resetSched (s : State) (c : Sched) : Sched where
  head := c.head
  pass := c.pass.map (keepPass s)
  active :=
    match c.active.bind s.rec? with
    | some r => if isFlush r && ownPassInFlight s r then some r.seq else none
    | none => none
  stack := []
  modeSet := .nested
  mode := .nested
  last := .nothing
  triggered := true

/-- The Link Port at the reset (R183): a frame in sending is sent to its end. -/
def resetLink (l : Link) : Link :=
  { l with assembly := .idle, replies := [], reports := [], cursor := 0 }

/-- The controller reset (R183), block by block. -/
def controllerReset (s : State) : State where
  mech := ⟨{ s.mech.a with timer := none }, { s.mech.b with timer := none }⟩
  sched := ⟨resetSched s s.sched.a, resetSched s s.sched.b⟩
  slots := keepSlots s 0 (fillingOn s .A + fillingOn s .B) s.slots
  recs := (s.recs.filter isFlush).map (keepFlush s)
  counter := s.counter
  stream := none
  tally := Tally.reset
  port := Port.reset
  mirror := .unbound
  link := resetLink s.link
  settings := Settings.reset
  choices := s.choices
  pending := s.pending

/-- RESET taken (R183): from channel 0 the reset, then its DONE as the first reply. -/
def takeReset (ch tag : Nat) (s : State) : State :=
  if ch = 0 then conclude (doneNow 0 tag 0 (controllerReset s)) else selectNext (refuse ch tag .notPrivileged s)

/-- RESET (R183). -/
def execReset (ch tag : Nat) (s : State) : Host.Outcome State Fault Refusal := .next (onLink s (takeReset ch tag s))

/-- Set the reset line. -/
def setResetLine (x : Bool) (s : State) : State := s.mapLink fun l => { l with resetLine := x }

/-- LINK_RESET_LINE_ASSERTED (R183): the controller reset, with neither receiving nor sending until the release. A line
already asserted causes nothing. -/
def execLinkResetLineAsserted (s : State) : Host.Outcome State Fault Refusal :=
  if s.link.resetLine then .next s else .next (conclude (setResetLine true (controllerReset s)))

/-- LINK_RESET_LINE_RELEASED (R183): receiving and sending resume. -/
def execLinkResetLineReleased (s : State) : Host.Outcome State Fault Refusal :=
  .next (selectNext (setResetLine false s))

end Sys2Proof.Machine
end

