-- ==== Sys2Proof/Machine/Operands.lean ====
section
/-! DEFINITION. Operands of the requests: the bounds of their fields (R55, R128), their clamping (R129, R182), the frame
lengths of those that carry data (R179), the zone check (R172), and the first refusal of a list of checks. -/

namespace Sys2Proof.Machine

/-- The code of the first check that fails (R55, R128, R132, R159). -/
def firstCode : List (Bool × Code) → Option Code
  | [] => none
  | (refused, c) :: rest => if refused then some c else firstCode rest

/-- A number moved to the nearer limit of its range (R129, R182). -/
def clampTo (lo hi n : Nat) : Nat := max lo (min n hi)

/-- Marks clamped one after another, each against the value already clamped (R129). -/
def clampMarks (ring : Nat) (m : Marks) : Marks :=
  let high := clampTo 2 ring m.high
  let low := clampTo 1 (high - 1) m.low
  ⟨low, high, clampTo low high m.prime⟩

/-- The default marks (R129). -/
def defaultMarks (ring : Nat) : Marks := ⟨max 1 (ring / 4), ring - 2, ring - 2⟩

/-- The extent of a READ or WRITE is out of bounds (R55, check 2). -/
def badExtent (first count : Nat) : Bool := decide (count < 1) || decide (32 < count) || decide (Config.lastLogical < first + count - 1)

/-- The level is out of range (R55, check 2). -/
def badLevel (level : Nat) : Bool := decide (7 < level)

/-- A zone list is out of bounds (R55, check 2; R173). -/
def badZones (zs : List Zone) : Bool := decide (8 < zs.length) || !zs.all zoneInBounds

/-- R, L or P of an OPEN_STREAM is out of range (R128, check 2). -/
def badStream (ring line pace : Nat) : Bool :=
  decide (ring < 16) || decide (192 < ring) || decide (line < 16) || decide (8192 < line) || decide (pace < 1) ||
    decide (4096 < pace)

/-- A SECTOR's data suits its status (R179). -/
def sectorSuits (status : Option SectorStatus) (data : Data) : Bool :=
  if status = some .data then decide (data.length = 1024) else decide (data = [])

/-- A volume name has 16 characters (R179). -/
def nameSuits (name : Data) : Bool := decide (name.length = 16)

/-- A slice pattern has 8 slices (R181). -/
def patternSuits (p : Option (List (Option Slice))) : Bool :=
  match p with
  | none => true
  | some l => decide (l.length = 8)

/-! ### The zone check -/

/-- The mask lets the channel through (R173). -/
def maskLets (mask : BitVec 8) (ch : Nat) : Bool := mask.getLsbD ch

/-- The right of a check (R172). -/
inductive Right where
  | read
  | write
deriving DecidableEq, Repr

/-- A zone is touched by the extent (R172). -/
def touched (z : Zone) (first count : Nat) : Bool := decide (z.first < first + count) && decide (first ≤ z.last)

/-- Mask of a zone for a right. -/
def maskFor (z : Zone) (right : Right) : BitVec 8 :=
  match right with
  | .read => z.readMask
  | .write => z.writeMask

/-- Zone Check refuses the extent for the channel (R172). -/
def zoneRefuses (zs : Option (List Zone)) (ch first count : Nat) (right : Right) : Bool :=
  (zs.getD []).any fun z => touched z first count && !maskLets (maskFor z right) ch

end Sys2Proof.Machine
end

