-- ==== Sys2Proof/WellFormed.lean ====
section
/-! DEFINITION. Well-formed commands: every operand fits the field of the frame, or the thing of the mechanism, that carries
it. A well-formed request may still be refused by the block that takes it (R178, R179). -/

namespace Sys2Proof

/-- A level fits its byte (R188). -/
def fitsByte (n : Nat) : Bool := decide (n < 256)

/-- A sector number or band length fits its three bytes (log entry 16). -/
def fitsThree (n : Nat) : Bool := decide (n < 16777216)

/-- A number of two bytes (R182). -/
def fitsTwo (n : Nat) : Bool := decide (n < 65536)

/-- Marks fit their three bytes (R129). -/
def marksFit (m : Marks) : Bool := fitsByte m.low && fitsByte m.high && fitsByte m.prime

/-- A zone list fits a SET_ZONES body (R173, R178, log entry 16). -/
def zonesFit (zs : List Zone) : Bool := decide (zs.length ≤ 127) && zs.all fun z => fitsThree z.first && fitsThree z.last

/-- A SETUP's numbers fit their two bytes and its pattern has 8 slices (R181, R182). -/
def setupFits (f : SetupFields) : Bool :=
  fitsTwo (f.readCap.getD 0) && fitsTwo (f.margin.getD 0) && fitsTwo (f.spinDown.a.getD 0) && fitsTwo (f.spinDown.b.getD 0) &&
    Machine.patternSuits f.pattern

/-- What the medium did is data of 1,024 bytes, if it is data (R1). -/
def responseFits (r : SectorResponse) : Bool :=
  match r.wrote with
  | .differs bytes => decide (bytes.length = 1024)
  | _ => true

/-- A cut of a pass of at most 17 sectors (R8, R94). -/
def cutFits (c : Cut) : Bool :=
  decide (c.passed ≤ 17) && c.responses.all responseFits &&
    (match c.under with
     | .data bytes => decide (bytes.length = 1024)
     | _ => true)

/-- A condition whose data has 1,024 bytes (R1). -/
def conditionFits : Condition → Bool
  | .data bytes _ => decide (bytes.length = 1024)
  | _ => true

/-- A surface in canonical form, on the sectors that exist (R1, log entry 6). -/
def mediumFits (m : Medium) : Bool := Machine.surfaceWf m && m.all fun p => decide (p.1 < 278528) && conditionFits p.2

/-- A command is well formed. -/
def Instr.wellFormed (i : Instr) : Bool :=
  match i with
  | .powerOnReset cut => cutFits cut.a && cutFits cut.b
  | .reset _ _ => true
  | .linkResetLineAsserted => true
  | .linkResetLineReleased => true
  | .byteArrival _ => true
  | .firstByteTaken => true
  | .incompleteFrameTimeout => true
  | .discardQuietTimeout => true
  | .read _ _ _ first count level => fitsThree first && fitsByte count && fitsByte level
  | .write _ _ _ first count level => fitsThree first && fitsByte count && fitsByte level
  | .sector _ _ index status data => fitsByte index && Machine.sectorSuits status data
  | .cancel _ _ _ => true
  | .queryDevice _ _ => true
  | .queryBay _ _ _ => true
  | .queryOperation _ _ _ => true
  | .queryStream _ _ => true
  | .queryMirror _ _ => true
  | .setup _ _ fields => setupFits fields
  | .prepare _ _ _ _ name => Machine.nameSuits name
  | .ejectNormal _ _ _ level => fitsByte level
  | .ejectForced _ _ _ level => fitsByte level
  | .setZones _ _ _ level zones => fitsByte level && zonesFit zones
  | .bind _ _ _ => true
  | .unbind _ _ => true
  | .openStream _ _ _ ring line pace marks =>
    fitsByte ring && fitsTwo line && fitsTwo pace && (match marks with
      | some m => marksFit m
      | none => true)
  | .setMarks _ _ marks => marksFit marks
  | .appendBand _ _ first length => fitsThree first && fitsThree length
  | .startStream _ _ => true
  | .stopStream _ _ => true
  | .flushStream _ _ => true
  | .closeStream _ _ => true
  | .cartridgeInsertion _ medium => mediumFits medium
  | .spinUpCompletion _ => true
  | .spinUpFailure _ => true
  | .mountReadCompletion _ fails => decide (fails.length ≤ 6)
  | .spinDownTimerExpiry _ => true
  | .spindleStop _ => true
  | .stopCompletion _ => true
  | .passCompletion _ responses => decide (responses.length ≤ 17) && responses.all responseFits
  | .recordLeavesTable _ => true
  | .deferredCreation => true
  | .frameSent => true
  | .lineRequest => true
  | .bandAccept => true
  | .bandRepeat => true
  | .mediumSectorChange _ track place _ => decide (track < 16384) && decide (place < 17)

end Sys2Proof
end

