-- ==== Sys2Proof/Decode.lean ====
section
/-! DEFINITION. The command a word of spec/opcode_table.json spells. No row of the table gives bits: the block's commands are
frames and events, not words, so no word spells one. The bytes of frames are read by Machine/Wire.lean. -/

namespace Sys2Proof

/-- The command that a word of `nbits` bits spells: none, since every row of the table has an empty list of fields. -/
def decodeTableWord (_nbits _w : Nat) : Option Instr := none

end Sys2Proof
end

