-- ==== Sys2Proof/Machine/TableRequests.lean ====
section
/-! DEFINITION. The five link requests (R26, R29, R31, R33, R55 to R57, R163, R173), SECTOR (R58) and CANCEL (R34, R64 to R67,
R176). -/

namespace Sys2Proof.Machine

/-- A link request as the Operation Table checks it; `bay` is none where the frame names no bay. -/
structure Ask where
  kind : Kind
  ch : Nat
  tag : Nat
  bay : Option Bay
  level : Nat
  first : Nat
  count : Nat

/-- PREPARE and SET_ZONES are taken from channel 0 alone (R170). -/
def needsPrivilege : Kind → Bool
  | .prepare _ _ => true
  | .setZones _ => true
  | _ => false

/-- The request is a PREPARE. -/
def asksPrepare : Kind → Bool
  | .prepare _ _ => true
  | _ => false

/-- Check 2 of R55, as each kind has the field. -/
def badFields (a : Ask) : Bool :=
  a.bay.isNone ||
    (match a.kind with
     | .read => badLevel a.level || badExtent a.first a.count
     | .write => badLevel a.level || badExtent a.first a.count
     | .eject _ => badLevel a.level
     | .setZones zs => badLevel a.level || badZones zs
     | _ => false)

/-- Check 3 of R55. -/
def zonesClash : Kind → Bool
  | .setZones zs => anyOverlap zs
  | _ => false

/-- Table 3-1: the states in which the bay takes the request (R26). -/
def stateTakes (m : BayMode) (k : Kind) : Bool :=
  let usual := decide (m = .ready) || decide (m = .resting)
  let turning := decide (m = .unlabelled) || decide (m = .damaged)
  match k with
  | .read => usual
  | .write => usual
  | .setZones _ => usual
  | .prepare _ _ => usual || turning
  | .eject forced =>
    usual || turning || decide (m = .faulted) ||
      (forced && (match m with
        | .ejecting .normal _ => true
        | _ => false))
  | _ => false

/-- Check 5 of R55: Table 3-1, a PREPARE on the bay, and PREPARE's own condition (R29). -/
def bayRefuses (s : State) (b : Bay) (k : Kind) : Bool :=
  !stateTakes (s.mechOf b).mode k || (prepareOn s b && !decide (k = .eject true)) ||
    (asksPrepare k && (s.recs.any (fun r => decide (r.bay = b)) || flushDeferred s b))

/-- Check 6 of R55 applies. -/
def inhibitBars : Kind → Bool
  | .write => true
  | .setZones _ => true
  | _ => false

/-- Check 8 of R55. -/
def zoneBars (s : State) (b : Bay) (a : Ask) : Bool :=
  match a.kind with
  | .read => zoneRefuses (s.mechOf b).zones a.ch a.first a.count .read
  | .write => zoneRefuses (s.mechOf b).zones a.ch a.first a.count .write
  | _ => false

/-- Check 9 of R55, for a PREPARE in every bay state (DEDUCED over R29, log entry 18). -/
def streamBars (s : State) (b : Bay) (k : Kind) : Bool := (asksPrepare k || decide (k = .eject false)) && streamOn s b

/-- Check 10 of R55, for a PREPARE in every bay state (log entry 18); a mirror that is not UNBOUND names both bays. -/
def mirrorBars (s : State) (b : Bay) (k : Kind) : Bool :=
  (decide (k = .write) && isSecondary s b) || (asksPrepare k && decide (s.mirror ≠ .unbound))

/-- A band of the list shares a logical sector with the extent. -/
def bandOver (t : Stream) (first count : Nat) : Bool :=
  t.bands.any fun x => decide (x.first < first + count) && decide (first < x.first + sectorCount x)

/-- Check 11 of R55: only a WRITE to the stream's bay is compared with the band list (R132). -/
def bandBars (s : State) (b : Bay) (a : Ask) : Bool :=
  decide (a.kind = .write) &&
    (match s.stream with
     | some t => decide (t.bay = b) && bandOver t a.first a.count
     | none => false)

/-- Link records of the table (R49). -/
def linkCount (s : State) : Nat := s.recs.countP isLink

/-- Check 12 of R55. -/
def tableFull (s : State) (b : Bay) (k : Kind) : Bool :=
  decide (freePlaces s = 0) || decide (Config.maxLink ≤ linkCount s) ||
    (decide (k = .write) && decide (mirrorPrimary s = some b) && decide (freePlaces s < 2))

/-- Checks 4 to 13 of R55, in order. -/
def bayChecks (s : State) (a : Ask) (b : Bay) : List (Bool × Code) :=
  [(decide ((s.mechOf b).mode = .empty), .bayEmpty),
   (bayRefuses s b a.kind, .bayNotReady),
   (inhibitBars a.kind && (s.mechOf b).inhibit, .writeInhibited),
   ((s.linkRec? a.ch a.tag).isSome, .tagInUse),
   (zoneBars s b a, .denied),
   (streamBars s b a.kind, .streamState),
   (mirrorBars s b a.kind, .mirrorState),
   (bandBars s b a, .inStream),
   (tableFull s b a.kind, .tableFull),
   (decide (a.kind = .write) && decide (freeCount s < a.count), .noBuffer)]

/-- Checks 1 to 3 of R55, in order. -/
def fieldChecks (a : Ask) : List (Bool × Code) :=
  [(needsPrivilege a.kind && decide (a.ch ≠ 0), .notPrivileged), (badFields a, .badField),
   (zonesClash a.kind, .zoneOverlap)]

/-- The code with which the table refuses a request, if it does (R55). -/
def requestCode (s : State) (a : Ask) : Option Code :=
  firstCode (fieldChecks a ++ (match a.bay with
    | some b => bayChecks s a b
    | none => []))

/-- Put a request to the checks, and accept it or refuse it (R55). A refused request changes nothing but the reply queue. -/
def takeAsk (a : Ask) (accept : Bay → State → State) (s : State) : State :=
  match requestCode s a, a.bay with
  | none, some b => conclude (accept b s)
  | some c, _ => selectNext (refuse a.ch a.tag c s)
  | none, none => s

/-! ### READ, WRITE, PREPARE and SET_ZONES -/

/-- The link record of an accepted request (R57). -/
def askRec (a : Ask) (b : Bay) (sectors : List Sector) (partners : List Nat) : Rec :=
  newRec a.kind (some (a.ch, a.tag)) b a.level a.first a.count sectors partners

/-- The READ as the table checks it. -/
def readAsk (ch tag : Nat) (bay : Option Bay) (first count level : Nat) : Ask := ⟨.read, ch, tag, bay, level, first, count⟩

/-- Accept a READ (R57). -/
def acceptRead (a : Ask) (b : Bay) (s : State) : State := createRec (askRec a b (List.replicate a.count (newSector .unread)) []) s

/-- A READ is taken or refused (R55). -/
def takeRead (ch tag : Nat) (bay : Option Bay) (first count level : Nat) (s : State) : State :=
  takeAsk (readAsk ch tag bay first count level) (acceptRead (readAsk ch tag bay first count level)) s

/-- READ (R55, R57). -/
def execRead (ch : Fin 4) (tag : Fin 256) (bay : Option Bay) (first count level : Nat) (s : State) :
    Host.Outcome State Fault Refusal :=
  .next (onLink s (takeRead ch tag bay first count level s))

/-- The WRITE as the table checks it. -/
def writeAsk (ch tag : Nat) (bay : Option Bay) (first count level : Nat) : Ask := ⟨.write, ch, tag, bay, level, first, count⟩

/-- The sectors of a write over its slots (R40, R57). -/
def writeSectors (ids : List Nat) : List Sector := ids.map fun j => { newSector .pending with slot := some j }

/-- Create the MIRROR_COPY of write `w` on the other bay (R40, R57, R163). -/
def createCopy (a : Ask) (b : Bay) (w : Nat) (ids : List Nat) (s : State) : State :=
  let c := s.nextSeq
  createInternal (newRec .mirrorCopy none b.other a.level a.first a.count (writeSectors ids) [w])
    (shareSlots (.record c) ids (s.mapRec w fun x => { x with partners := [c] }))

/-- Accept a WRITE (R40, R57): its slots, its record, its GRANT, and to the primary of a mirror its MIRROR_COPY. -/
def acceptWrite (a : Ask) (b : Bay) (s : State) : State :=
  let w := s.nextSeq
  let c := claim (.record w) a.count s
  let s1 := createRec (askRec a b (writeSectors c.2) []) c.1
  let s2 := if mirrorPrimary s = some b then createCopy a b w c.2 s1 else s1
  reply a.ch a.tag .grant (some w) s2

/-- A WRITE is taken or refused (R55). -/
def takeWrite (ch tag : Nat) (bay : Option Bay) (first count level : Nat) (s : State) : State :=
  takeAsk (writeAsk ch tag bay first count level) (acceptWrite (writeAsk ch tag bay first count level)) s

/-- WRITE (R40, R55, R57). -/
def execWrite (ch : Fin 4) (tag : Fin 256) (bay : Option Bay) (first count level : Nat) (s : State) :
    Host.Outcome State Fault Refusal :=
  .next (onLink s (takeWrite ch tag bay first count level s))

/-- The PREPARE as the table checks it; its level is 0 (R51). -/
def prepareAsk (ch tag : Nat) (bay : Option Bay) (serial : BitVec 32) (name : Data) : Ask :=
  ⟨.prepare serial name, ch, tag, bay, 0, 0, 0⟩

/-- Accept a PREPARE (R28, R57): its 17 sectors of track 0. -/
def acceptPrepare (a : Ask) (b : Bay) (s : State) : State := createRec (askRec a b (List.replicate 17 (newSector .pending)) []) s

/-- A PREPARE is taken or refused (R29, R55); one without 16 characters of name is no frame of its kind (R179). -/
def takePrepare (ch tag : Nat) (bay : Option Bay) (serial : BitVec 32) (name : Data) (s : State) : State :=
  if nameSuits name then takeAsk (prepareAsk ch tag bay serial name) (acceptPrepare (prepareAsk ch tag bay serial name)) s
  else selectNext (refuse ch tag .frameError s)

/-- PREPARE (R28, R29). -/
def execPrepare (ch : Fin 4) (tag : Fin 256) (bay : Option Bay) (serial : BitVec 32) (name : Data) (s : State) :
    Host.Outcome State Fault Refusal :=
  .next (onLink s (takePrepare ch tag bay serial name s))

/-- The SET_ZONES as the table checks it, its zones as the request gives them. -/
def setZonesAsk (ch tag : Nat) (bay : Option Bay) (level : Nat) (zones : List Zone) : Ask :=
  ⟨.setZones zones, ch, tag, bay, level, 0, 0⟩

/-- Accept a SET_ZONES (R173): its zones kept sorted, its one sector of track 0. -/
def acceptSetZones (a : Ask) (zones : List Zone) (b : Bay) (s : State) : State :=
  createRec { askRec a b [newSector .pending] [] with kind := .setZones (sortZones zones) } s

/-- A SET_ZONES is taken or refused (R55, R173). -/
def takeSetZones (ch tag : Nat) (bay : Option Bay) (level : Nat) (zones : List Zone) (s : State) : State :=
  takeAsk (setZonesAsk ch tag bay level zones) (acceptSetZones (setZonesAsk ch tag bay level zones) zones) s

/-- SET_ZONES (R173). -/
def execSetZones (ch : Fin 4) (tag : Fin 256) (bay : Option Bay) (level : Nat) (zones : List Zone) (s : State) :
    Host.Outcome State Fault Refusal :=
  .next (onLink s (takeSetZones ch tag bay level zones s))

/-! ### EJECT -/

/-- The EJECT as the table checks it. -/
def ejectAsk (forced : Bool) (ch tag : Nat) (bay : Option Bay) (level : Nat) : Ask :=
  ⟨.eject forced, ch, tag, bay, level, 0, 0⟩

/-- State from which a bay enters EJECTING (R18, R31); the FAULTED bay releases at once and needs none. -/
def formerOf (m : BayMode) : Former :=
  match m with
  | .resting => .resting
  | .unlabelled => .unlabelled
  | .damaged => .damaged
  | .ejecting _ f => f
  | _ => .ready

/-- The bay releases at the EJECT's acceptance (R31): FAULTED, or RESTING with its spindle STOPPED. -/
def releasesAtOnce (m : Mech) : Bool :=
  decide (m.mode = .faulted) || (decide (m.mode = .resting) && decide (m.spindle = .stopped))

/-- Create an EJECT record and put its bay in EJECTING, or release it at once (R31). The record is ACTIVE where the spindle
is not TURNING (log entry 21). -/
def beginEject (a : Ask) (kind : EjectKind) (b : Bay) (s : State) : State :=
  let m := s.mechOf b
  let r := { askRec a b [] [] with state := if m.spindle = .turning then .waiting else .active }
  let s1 := createRec r s
  if releasesAtOnce m then release b s1 else s1.mapMech b fun x => { x with mode := .ejecting kind (formerOf x.mode) }

/-- What a forced EJECT ends on its bay (R33): every record but MAP_FLUSH and EJECT. -/
def forcedEnds (r : Rec) : Bool := !isFlush r && !isEject r

/-- Accept a normal EJECT (R31, R168). -/
def acceptNormal (a : Ask) (b : Bay) (s : State) : State := beginEject a .normal b (unbindMirror true s)

/-- Accept a forced EJECT (R33, R147, R168): the stream halts and the mirror is unbound before the records are abandoned. -/
def acceptForced (a : Ask) (b : Bay) (s : State) : State :=
  beginEject a .forced b (abandonAll b forcedEnds (unbindMirror true (haltByEject b s)))

/-- A normal EJECT is taken or refused (R31, R55). -/
def takeEjectNormal (ch tag : Nat) (bay : Option Bay) (level : Nat) (s : State) : State :=
  takeAsk (ejectAsk false ch tag bay level) (acceptNormal (ejectAsk false ch tag bay level)) s

/-- A forced EJECT is taken or refused (R33, R55). -/
def takeEjectForced (ch tag : Nat) (bay : Option Bay) (level : Nat) (s : State) : State :=
  takeAsk (ejectAsk true ch tag bay level) (acceptForced (ejectAsk true ch tag bay level)) s

/-- EJECT, normal (R31). -/
def execEjectNormal (ch : Fin 4) (tag : Fin 256) (bay : Option Bay) (level : Nat) (s : State) :
    Host.Outcome State Fault Refusal :=
  .next (onLink s (takeEjectNormal ch tag bay level s))

/-- EJECT, forced (R33). -/
def execEjectForced (ch : Fin 4) (tag : Fin 256) (bay : Option Bay) (level : Nat) (s : State) :
    Host.Outcome State Fault Refusal :=
  .next (onLink s (takeEjectForced ch tag bay level s))

/-! ### SECTOR -/

/-- The code with which the table refuses a SECTOR frame, if it does (R58). -/
def sectorCode (s : State) (ch tag index : Nat) (status : Option SectorStatus) : Option Code :=
  match s.linkRec? ch tag with
  | none => some .noSuchTag
  | some r =>
    firstCode
      [(!isWrite r || decide (r.state = .ending), .unexpectedData), (decide (status ≠ some .data), .badField),
       (decide (r.count ≤ index) ||
          (match r.sectors[index]? with
           | some x => x.arrived
           | none => true), .unexpectedData)]

/-- Trigger the bay of each copy of a write. -/
def triggerCopies (r : Rec) (s : State) : State :=
  (s.recs.filter fun o => isCopy o && decide (o.seq ∈ r.partners)).foldl (fun t o => trigger o.bay t) s

/-- The data of a write's sector is taken (R58): into its slot, its index into the data-arrived set. -/
def acceptSector (r : Rec) (index : Nat) (data : Data) (s : State) : State :=
  let s1 := match r.sectors[index]?.bind Sector.slot with
    | some j => fillSlot j (some data) s
    | none => s
  let s2 := s1.mapRec r.seq (Rec.mapSector · index fun x => { x with arrived := true })
  signalHoldEnds s (triggerCopies r (trigger r.bay s2))

/-- A SECTOR frame is taken or refused (R58); one whose data does not suit its status is no frame of its kind (R179). -/
def takeSector (ch tag index : Nat) (status : Option SectorStatus) (data : Data) (s : State) : State :=
  if sectorSuits status data then
    match sectorCode s ch tag index status, s.linkRec? ch tag with
    | none, some r => conclude (acceptSector r index data s)
    | some c, _ => selectNext (refuse ch tag c s)
    | none, none => s
  else selectNext (refuse ch tag .frameError s)

/-- SECTOR from the workstation (R58). -/
def execSector (ch : Fin 4) (tag : Fin 256) (index : Nat) (status : Option SectorStatus) (data : Data) (s : State) :
    Host.Outcome State Fault Refusal :=
  .next (onLink s (takeSector ch tag index status data s))

/-! ### CANCEL -/

/-- The state to which a bay returns when its last WAITING EJECT is cancelled (R34). -/
def Former.mode : Former → BayMode
  | .ready => .ready
  | .resting => .resting
  | .unlabelled => .unlabelled
  | .damaged => .damaged

/-- EJECT records that stay on the bay when record `q` goes. -/
def otherEjects (s : State) (b : Bay) (q : Nat) : List Rec :=
  s.recs.filter fun o => isEject o && decide (o.bay = b) && decide (o.seq ≠ q) && unfinished o

/-- A bay's state after a WAITING EJECT of it is cancelled (R34). -/
def afterEjectCancel (others : List Rec) (m : BayMode) : BayMode :=
  match m with
  | .ejecting _ f =>
    if others = [] then f.mode
    else .ejecting (if others.any fun o => decide (o.kind = .eject true) then .forced else .normal) f
  | x => x

/-- CANCEL of an EJECT (R34): removed while WAITING; when ACTIVE the ejection goes on and its DONE will carry CANCELLED. -/
def cancelEject (r : Rec) (s : State) : State :=
  if r.state = .waiting then
    (endBy .cancelled r.seq s).mapMech r.bay fun m => { m with mode := afterEjectCancel (otherEjects s r.bay r.seq) m.mode }
  else s.mapRec r.seq fun x => { x with endCause := some .cancelled }

/-- CANCEL of a WRITE and of its copy with it (R65, R67). -/
def cancelWrite (r : Rec) (s : State) : State :=
  (seqsOf s fun o => isCopy o && decide (o.seq ∈ r.partners)).foldl (fun t q => endBy .cancelled q t)
    (endBy .cancelled r.seq s)

/-- CANCEL of a record by kind (R64); one whose end cause is set, or in ENDING, is not changed. -/
def cancelRec (r : Rec) (s : State) : State :=
  if r.endCause.isSome ∨ r.state = .ending then s
  else if isEject r then cancelEject r s
  else if isSetZones r && r.started then s
  else if isWrite r then cancelWrite r s
  else endBy .cancelled r.seq s

/-- A CANCEL is answered, and acts on its target (R64). -/
def takeCancel (ch tag target : Nat) (s : State) : State :=
  match s.linkRec? ch target with
  | none => selectNext (refuse ch tag .noSuchTag s)
  | some r => conclude (cancelRec r (doneNow ch tag 0 s))

/-- CANCEL (R64 to R67). -/
def execCancel (ch : Fin 4) (tag target : Fin 256) (s : State) : Host.Outcome State Fault Refusal :=
  .next (onLink s (takeCancel ch tag target s))

end Sys2Proof.Machine
end

