-- ==== Sys2Proof/Machine/Queries.lean ====
section
/-! DEFINITION. QUERY in its five scopes (R18, R37, R72, R75, R90, R111, R126, R157, R158, R171, R180) and SETUP (R181,
R182). -/

namespace Sys2Proof.Machine

/-- Append a STATUS and let the Link Port send it (R180). -/
def answerStatus (ch tag : Nat) (x : Status) (s : State) : State := selectNext (reply ch tag (.status x) none s)

/-! ### Scope DEVICE -/

/-- The settings in effect with each bay's mode set (R182). -/
def settingsStatus (s : State) : SettingsStatus := ⟨s.settings, ⟨(s.schedOf .A).modeSet, (s.schedOf .B).modeSet⟩⟩

/-- A slot with two holders (R37). -/
def hasTwo (x : Slot) : Bool := decide (x.holders.length = 2)

/-- Records in a state. -/
def countState (x : RecState) (s : State) : Nat := s.recs.countP fun r => decide (r.state = x)

/-- The BUILD_STEP's creation is deferred (R54, R160). -/
def stepDeferred (s : State) : Bool :=
  match s.mirror with
  | .paired _ _ _ (.building .deferred) => true
  | _ => false

/-- The STATUS of scope DEVICE (R37, R72, R180). -/
def deviceStatus (s : State) : DeviceStatus where
  free := freeCount s
  ring := ringCount s
  held := s.slots.length - freeCount s - ringCount s
  heldTwo := s.slots.countP hasTwo
  holdings := holdings s
  readCap := s.settings.readCap
  records := s.recs.length
  links := linkCount s
  waiting := countState .waiting s
  active := countState .active s
  suspended := countState .suspended s
  ending := countState .ending s
  copies := s.recs.countP isCopy
  steps := s.recs.countP isStep
  fallbacks := s.recs.countP isFallback
  relocates := s.recs.countP isRelocate
  flushes := s.recs.countP isFlush
  deferredFlush := ⟨flushDeferred s .A, flushDeferred s .B⟩
  deferredStep := stepDeferred s
  settings := settingsStatus s
  cursor := s.link.cursor
  replies := s.link.replies.length
  reports := s.link.reports.map fun r => (r.body.kind, r.bay)
  hold := replyHeld s.link

/-- QUERY of scope DEVICE taken. -/
def takeQueryDevice (ch tag : Nat) (s : State) : State := answerStatus ch tag (.device (deviceStatus s)) s

/-- QUERY of scope DEVICE (R180). -/
def execQueryDevice (ch : Fin 4) (tag : Fin 256) (s : State) : Host.Outcome State Fault Refusal :=
  .next (onLink s (takeQueryDevice ch tag s))

/-! ### Scope BAY -/

/-- The owner of a pass as a STATUS names it (R75). A pass left by a controller reset without its record, or of the closed
stream's feed, is named as discarded: R75 knows a record or the feed alone, and the third value is the model's choice (DESIGN
CHOICE, log entry 46). -/
def ownerStatus (s : State) (o : Owner) : OwnerStatus :=
  match o with
  | .feed _ => .feed
  | .discarded => .discarded
  | .record q =>
    match s.rec? q with
    | some r => .record r.kind.name r.link
    | none => .discarded

/-- A pass in flight as a STATUS gives it (R75). -/
def passStatus (s : State) (p : Pass) : PassStatus := ⟨ownerStatus s p.owner, p.action, p.track, p.first, p.items.length⟩

/-- The records with these arrival sequences, as a STATUS names them. -/
def namedRecords (s : State) (qs : List Nat) : List RecordStatus := (qs.filterMap s.rec?).map recordStatus

/-- A map as a STATUS gives it (R111). -/
def mapStatus (m : DefectMap) : MapStatus where
  entries := m.entries.length
  cursor := m.cursor
  freeSpares := freeSpares m
  flushCount := m.flushCount
  dirty := m.dirty
  pending := m.pending
  flushing := m.flushing.isSome

/-- The held label fields are reported: in READY, RESTING and WAKING alone (R13, R18). -/
def labelShown (m : BayMode) : Bool := decide (m = .ready) || decide (m = .resting) || decide (m = .waking)

/-- The STATUS of scope BAY (R18, R75, R111, R171). -/
def bayStatus (s : State) (b : Bay) : BayStatus :=
  let m := s.mechOf b
  let c := s.schedOf b
  { mode := m.mode
    inhibit := m.inhibit
    spindle := m.spindle
    head := c.head
    modeSet := c.modeSet
    modeInEffect := c.mode
    spinDown := s.settings.spinDown.get b
    records := s.recs.countP fun r => decide (r.bay = b)
    timerRunning := m.timer.isSome
    pass := c.pass.map (passStatus s)
    active := (c.active.bind s.rec?).map recordStatus
    stack := namedRecords s c.stack
    level := currentLevel s b
    last := c.last
    label := if labelShown m.mode then m.label else none
    labelFlushCount := if labelShown m.mode then m.map.map DefectMap.flushCount else none
    map := m.map.map mapStatus
    zones := m.zones }

/-- QUERY of scope BAY taken: in every bay state, refused only where it names no bay (R26, R180). -/
def takeQueryBay (ch tag : Nat) (bay : Option Bay) (s : State) : State :=
  match bay with
  | some b => answerStatus ch tag (.bay (bayStatus s b)) s
  | none => selectNext (refuse ch tag .badField s)

/-- QUERY of scope BAY (R18). -/
def execQueryBay (ch : Fin 4) (tag : Fin 256) (bay : Option Bay) (s : State) : Host.Outcome State Fault Refusal :=
  .next (onLink s (takeQueryBay ch tag bay s))

/-! ### Scope OPERATION -/

/-- The STATUS of scope OPERATION (R72). -/
def operationStatus (s : State) (r : Rec) : OperationStatus where
  kind := r.kind.name
  bay := r.bay
  level := r.level
  first := r.first
  count := r.count
  state := r.state
  eligible := eligible s r
  held := decide (r.state = .waiting) && isHeld s r
  stalled := r.stalled
  endCause := r.endCause
  progress := r.sectors.map fun x => (x.progress, x.attempts)
  queued := r.queued
  round := r.round
  arrived := ((indexed 0 r.sectors).filter fun p => p.2.arrived).map Prod.fst
  slots := slotsOf s r.seq
  relocations := r.relocations.map fun t => (r.first + t.index, t.tried)
  partners := namedRecords s r.partners
  relocates := (s.recs.filter fun o => isRelocate o && decide (r.seq ∈ o.partners)).map recordStatus
  result := doneOf r

/-- QUERY of scope OPERATION taken (R72). -/
def takeQueryOperation (ch tag target : Nat) (s : State) : State :=
  match s.linkRec? ch target with
  | some r => answerStatus ch tag (.operation (operationStatus s r)) s
  | none => selectNext (refuse ch tag .noSuchTag s)

/-- QUERY of scope OPERATION (R72). -/
def execQueryOperation (ch : Fin 4) (tag target : Fin 256) (s : State) : Host.Outcome State Fault Refusal :=
  .next (onLink s (takeQueryOperation ch tag target s))

/-! ### Scope STREAM -/

/-- The STATUS items of a stream that is not CLOSED (R126, R157). -/
def openStatus (s : State) (t : Stream) : OpenStatus where
  phase := t.phase
  bay := t.bay
  ring := t.ring
  line := t.line
  pace := t.pace
  marks := t.marks
  segments := t.segments.map fun g => (g.band, g.bytes.length, g.sent)
  unsent := unsent t
  retained := retained t
  reserved := t.reserved
  free := freeSpace t
  bands := t.bands
  nextBand := t.nextBand
  lowArmed := t.lowArmed
  feedAt := (feedBand t).map fun x => (x.number, x.fetched)
  feedInFlight := feedInFlight s t.bay
  ready := s.port.ready
  locked := if t.phase = .running then some (locked t) else none
  budget := if t.phase = .running then some (budget (unsent t) t.line t.pace) else none

/-- The STATUS of scope STREAM (R126): in CLOSED the counters alone. -/
def streamStatus (s : State) : StreamStatus where
  opened := s.stream.map (openStatus s)
  tally := s.tally
  fill := [s.port.fillSpoiled.toNat, s.port.fillIdle.toNat, s.port.fillNotRunning.toNat]
  ignored := [s.port.ignoredAccept.toNat, s.port.ignoredRepeat.toNat]

/-- QUERY of scope STREAM taken. -/
def takeQueryStream (ch tag : Nat) (s : State) : State := answerStatus ch tag (.stream (streamStatus s)) s

/-- QUERY of scope STREAM (R126). -/
def execQueryStream (ch : Fin 4) (tag : Fin 256) (s : State) : Host.Outcome State Fault Refusal :=
  .next (onLink s (takeQueryStream ch tag s))

/-! ### Scope MIRROR -/

/-- The build step item is PRESENT (R160): an earlier pairing's step is not the present one. -/
def stepPresent (s : State) : Bool :=
  match s.mirror with
  | .paired _ _ _ (.building .present) => true
  | _ => false

/-- The STATUS of scope MIRROR (R158). -/
def mirrorStatus (s : State) : MirrorStatus where
  mirror := s.mirror
  copies := s.recs.countP isCopy
  fallbacks := s.recs.countP isFallback
  step := if stepPresent s then (s.recs.find? isStep).map fun r => (r.writePhase, r.state) else none

/-- QUERY of scope MIRROR taken. -/
def takeQueryMirror (ch tag : Nat) (s : State) : State := answerStatus ch tag (.mirror (mirrorStatus s)) s

/-- QUERY of scope MIRROR (R158). -/
def execQueryMirror (ch : Fin 4) (tag : Fin 256) (s : State) : Host.Outcome State Fault Refusal :=
  .next (onLink s (takeQueryMirror ch tag s))

/-! ### SETUP -/

/-- A present value that names no value of its range (R182). -/
def namesNone {α : Type} (x : Option (Option α)) : Bool :=
  match x with
  | some none => true
  | _ => false

/-- A SETUP that cannot be clamped (R182). -/
def badSetup (f : SetupFields) : Bool :=
  namesNone f.mode.a || namesNone f.mode.b || namesNone f.weak.a || namesNone f.weak.b || (f.pattern.getD []).any Option.isNone

/-- A bay's setting after a SETUP. -/
def setOr {α : Type} (old : α) (x : Option (Option α)) : α := (x.getD none).getD old

/-- The settings after a SETUP that is not refused (R182). -/
def newSettings (f : SetupFields) (o : Settings) : Settings where
  readCap := (f.readCap.map (clampTo 1 64)).getD o.readCap
  margin := (f.margin.map (clampTo 0 255)).getD o.margin
  pattern := (f.pattern.map fun p => p.map fun x => x.getD .reply).getD o.pattern
  spinDown :=
    ⟨(f.spinDown.a.map (clampTo 0 255)).getD o.spinDown.a, (f.spinDown.b.map (clampTo 0 255)).getD o.spinDown.b⟩
  weak := ⟨setOr o.weak.a f.weak.a, setOr o.weak.b f.weak.b⟩

/-- A mode is set for a bay (R88): NESTED takes effect at once, RUN_TO_END when the stack is empty; a change of the mode set
or of the mode in effect triggers the bay (R79). -/
def setMode (b : Bay) (x : Option (Option PreemptionMode)) (s : State) : State :=
  let c := s.schedOf b
  let m := setOr c.modeSet x
  if m = c.modeSet then s
  else
    trigger b (s.mapSched b fun c =>
      { c with modeSet := m, mode := if m = .nested ∨ c.stack = [] then m else c.mode })

/-- A running timer starts again when its bay's time changes (R22); with the new time 0 it stops as its conditions end. -/
def retime (b : Bay) (o : Settings) (s : State) : State :=
  if o.spinDown.get b = s.settings.spinDown.get b then s else s.mapMech b fun m => { m with timer := none }

/-- A raised read cap triggers both bays (R39). -/
def capTriggers (o : Settings) (s : State) : State := if o.readCap < s.settings.readCap then triggerBoth s else s

/-- A changed margin triggers the stream's bay (R79, R156). -/
def marginTriggers (o : Settings) (s : State) : State :=
  match s.stream with
  | some t => if o.margin = s.settings.margin then s else trigger t.bay s
  | none => s

/-- The effect of a SETUP that is not refused (R182). -/
def acceptSetup (f : SetupFields) (s : State) : State :=
  let s1 := setMode .B f.mode.b (setMode .A f.mode.a (s.withSettings (newSettings f s.settings)))
  marginTriggers s.settings (capTriggers s.settings (retime .B s.settings (retime .A s.settings s1)))

/-- A SETUP is taken or refused (R182); a pattern that has not 8 slices is no frame of its kind (R179). -/
def takeSetup (ch tag : Nat) (f : SetupFields) (s : State) : State :=
  if patternSuits f.pattern = false then selectNext (refuse ch tag .frameError s)
  else if badSetup f then selectNext (refuse ch tag .badField s)
  else
    let s1 := acceptSetup f s
    conclude (reply ch tag (.status (.setup (settingsStatus s1))) none s1)

/-- SETUP (R182). -/
def execSetup (ch : Fin 4) (tag : Fin 256) (f : SetupFields) (s : State) : Host.Outcome State Fault Refusal :=
  .next (onLink s (takeSetup ch tag f s))

end Sys2Proof.Machine
end

