-- ==== Sys2Proof/Machine/MirrorRequests.lean ====
section
/-! DEFINITION. BIND (R159) and UNBIND (R168). -/

namespace Sys2Proof.Machine

/-- The mirror is BUILDING or BOUND. -/
def mirrorLive (s : State) : Bool := (mirrorPrimary s).isSome

/-- The bay is READY or RESTING. -/
def isUsual (m : BayMode) : Bool := decide (m = .ready) || decide (m = .resting)

/-- Checks 2 to 7 of R159, in order, for the primary named. -/
def bindChecks (s : State) (p : Bay) : List (Bool × Code) :=
  [(mirrorLive s, .mirrorState),
   (!isUsual (s.mechOf p).mode || !isUsual (s.mechOf p.other).mode, .mirrorState),
   (prepareOn s p || prepareOn s p.other, .bayNotReady),
   ((s.mechOf p).inhibit || (s.mechOf p.other).inhibit, .writeInhibited),
   (streamOn s p.other, .mirrorState),
   (s.recs.any fun r =>
      decide (r.bay = p.other) && (isWrite r || (isCopy r && unfinished r)), .mirrorState)]

/-- The mirror enters BUILDING (R159): RESTING bays are woken, and the first BUILD_STEP is asked for. -/
def acceptBind (p : Bay) (s : State) : State :=
  wake p.other (wake p (s.withMirror (.paired p 0 0 (.building .deferred))))

/-- A BIND is taken or refused (R159). -/
def takeBind (ch tag : Nat) (primary : Option Bay) (s : State) : State :=
  match primary with
  | none => selectNext (refuse ch tag .badField s)
  | some p =>
    match firstCode (bindChecks s p) with
    | some c => selectNext (refuse ch tag c s)
    | none => conclude (doneNow ch tag 0 (acceptBind p s))

/-- BIND (R159). -/
def execBind (ch : Fin 4) (tag : Fin 256) (primary : Option Bay) (s : State) : Host.Outcome State Fault Refusal :=
  .next (onLink s (takeBind ch tag primary s))

/-- An UNBIND is answered, and dissolves the mirror without a report (R168). -/
def takeUnbind (ch tag : Nat) (s : State) : State := conclude (doneNow ch tag 0 (unbindMirror false s))

/-- UNBIND (R168). -/
def execUnbind (ch : Fin 4) (tag : Fin 256) (s : State) : Host.Outcome State Fault Refusal :=
  .next (onLink s (takeUnbind ch tag s))

end Sys2Proof.Machine
end

