-- ==== Sys2Proof/Machine/StreamRequests.lean ====
section
/-! DEFINITION. The seven stream requests (R127 to R129, R132, R136, R144 to R146). -/

namespace Sys2Proof.Machine

/-! ### OPEN_STREAM -/

/-- Checks 3 to 7 of R128 for the bay named, in order. -/
def openChecks (s : State) (b : Bay) (ring line pace : Nat) : List (Bool × Code) :=
  [(decide (196608 < line * pace), .rateTooHigh),
   (decide ((s.mechOf b).mode = .empty), .bayEmpty),
   (!isUsual (s.mechOf b).mode || prepareOn s b, .bayNotReady),
   (isSecondary s b, .mirrorState),
   (decide (freeCount s < ring), .noBuffer)]

/-- The code with which an OPEN_STREAM is refused, if it is (R128). -/
def openCode (s : State) (bay : Option Bay) (ring line pace : Nat) : Option Code :=
  firstCode
    ([(s.stream.isSome, .streamState), (bay.isNone || badStream ring line pace, .badField)] ++
      (match bay with
       | some b => openChecks s b ring line pace
       | none => []))

/-- The stream as it is opened (R128). -/
def newStream (b : Bay) (ring line pace : Nat) (marks : Option Marks) : Stream where
  phase := .opened
  bay := b
  ring := ring
  line := line
  pace := pace
  marks := match marks with
    | some m => clampMarks ring m
    | none => defaultMarks ring
  segments := []
  reserved := 0
  bands := []
  nextBand := 1
  appended := 0
  lowArmed := true

/-- The ring claim: the slots leave the free pool and become ring slots (R38, R45). -/
def claimRing (ring : Nat) (s : State) : State := putSlots ((freeIds s).take ring) .ring s

/-- The Exposure Port at an OPEN_STREAM (R138). -/
def openPort (line : Nat) (p : Port) : Port := { Port.reset with line := line, lastLine := p.lastLine }

/-- The effect of an OPEN_STREAM that passes its checks (R128). -/
def acceptOpen (b : Bay) (ring line pace : Nat) (marks : Option Marks) (s : State) : State :=
  trigger b (wake b ((((claimRing ring s).withStream (some (newStream b ring line pace marks))).mapTally
    fun _ => Tally.reset).mapPort (openPort line)))

/-- Append the STATUS of scope STREAM as it stands, then let everything follow (R127, log entry 24). -/
def answerStream (ch tag : Nat) (s : State) : State :=
  conclude (reply ch tag (.status (.stream (streamStatus s))) none s)

/-- An OPEN_STREAM is taken or refused (R128). -/
def takeOpenStream (ch tag : Nat) (bay : Option Bay) (ring line pace : Nat) (marks : Option Marks) (s : State) : State :=
  match openCode s bay ring line pace, bay with
  | none, some b => answerStream ch tag (acceptOpen b ring line pace marks s)
  | some c, _ => selectNext (refuse ch tag c s)
  | none, none => s

/-- OPEN_STREAM (R128). -/
def execOpenStream (ch : Fin 4) (tag : Fin 256) (bay : Option Bay) (ring line pace : Nat) (marks : Option Marks)
    (s : State) : Host.Outcome State Fault Refusal :=
  .next (onLink s (takeOpenStream ch tag bay ring line pace marks s))

/-! ### SET_MARKS -/

/-- The effect of a SET_MARKS (R129): the clamped marks, then the priming and arming tests, and the bay's trigger. -/
def acceptMarks (t : Stream) (marks : Marks) (s : State) : State :=
  trigger t.bay (armingTest (primingTest (s.withStream (some { t with marks := clampMarks t.ring marks }))))

/-- A SET_MARKS is taken, or refused in CLOSED (R129, Table 9-1). -/
def takeSetMarks (ch tag : Nat) (marks : Marks) (s : State) : State :=
  match s.stream with
  | none => selectNext (refuse ch tag .streamState s)
  | some t => answerStream ch tag (acceptMarks t marks s)

/-- SET_MARKS (R129). -/
def execSetMarks (ch : Fin 4) (tag : Fin 256) (marks : Marks) (s : State) : Host.Outcome State Fault Refusal :=
  .next (onLink s (takeSetMarks ch tag marks s))

/-! ### APPEND_BAND -/

/-- A band as it is appended (R132). -/
def newBand (n serial first length : Nat) : Band where
  number := n
  serial := serial
  first := first
  length := length
  fetched := 0
  sent := 0
  repeats := 0
  state := .queued
  damaged := false

/-- The bay takes bands and starts (R132, R136): READY or WAKING. -/
def bayServes (m : BayMode) : Bool := decide (m = .ready) || decide (m = .waking)

/-- Checks 2 to 7 of R132, in order, for a band of the stream. -/
def bandChecks (s : State) (t : Stream) (ch first length : Nat) : List (Bool × Code) :=
  let n := sectorCount (newBand 0 0 first length)
  [(decide (length = 0) || decide (length % t.line ≠ 0) || decide ((t.ring - 1) * 1024 < length), .bandShape),
   (decide (Config.lastLogical < first) || decide (Config.lastLogical < first + n - 1), .badField),
   (!bayServes (s.mechOf t.bay).mode, .bayNotReady),
   (zoneRefuses (s.mechOf t.bay).zones ch first n .read, .denied),
   (s.recs.any fun r =>
      (isWrite r || isCopy r) && unfinished r && decide (r.bay = t.bay) && overlapsExtent r first n, .overlapWrite),
   (decide (32 ≤ t.bands.length), .bandListFull)]

/-- The band number after `n` (R131). -/
def nextNumber (n : Nat) : Nat := if n = 65535 then 1 else n + 1

/-- The stream with a band appended (R132). -/
def appendBand (first length : Nat) (t : Stream) : Stream :=
  { t with
    bands := t.bands ++ [newBand t.nextBand t.appended first length]
    nextBand := nextNumber t.nextBand
    appended := t.appended + 1 }

/-- An APPEND_BAND is taken or refused (R132); its DONE gives the band number (R127). -/
def takeAppendBand (ch tag first length : Nat) (s : State) : State :=
  match s.stream with
  | none => selectNext (refuse ch tag .streamState s)
  | some t =>
    match firstCode (bandChecks s t ch first length) with
    | some c => selectNext (refuse ch tag c s)
    | none => conclude (doneNow ch tag t.nextBand (s.withStream (some (appendBand first length t))))

/-- APPEND_BAND (R132). -/
def execAppendBand (ch : Fin 4) (tag : Fin 256) (first length : Nat) (s : State) : Host.Outcome State Fault Refusal :=
  .next (onLink s (takeAppendBand ch tag first length s))

/-! ### START_STREAM and STOP_STREAM -/

/-- The stream is OPEN or HALTED: START, FLUSH and CLOSE are taken (Table 9-1). -/
def isAtRest : StreamPhase → Bool
  | .opened => true
  | .halted _ => true
  | _ => false

/-- Rewind the oldest band (R136, R142): its retained bytes become unsent and its lines sent 0. -/
def rewindOldest (t : Stream) : Stream :=
  match t.bands with
  | [] => t
  | x :: _ => mapOldest (fun y => { y with sent := 0 }) (mapSegment x.number (fun g => { g with sent := 0 }) t)

/-- A START_STREAM's treatment of the oldest band of a HALTED stream (R136). -/
def treatOldest (t : Stream) : Stream :=
  match t.bands with
  | [] => t
  | x :: _ =>
    match x.state with
    | .exposing => rewindOldest t
    | .spoiled _ => mapOldest (fun y => { y with sent := 0 }) t
    | _ => t

/-- The oldest band of a HALTED stream is rewound by START_STREAM, which raises U (R136). -/
def rewinds (t : Stream) : Bool :=
  isHalted t.phase &&
    (match t.bands with
     | [] => false
     | x :: _ => decide (x.state = .exposing))

/-- The effect of a START_STREAM (R136): PRIMING, then the priming test and, for a rewind, the arming test. -/
def acceptStart (t : Stream) (s : State) : State :=
  let s1 := s.withStream (some (if isHalted t.phase then treatOldest t else t))
  let s2 := primingTest (setPhase .priming s1)
  if rewinds t then armingTest s2 else s2

/-- A START_STREAM is taken or refused (R136). -/
def takeStartStream (ch tag : Nat) (s : State) : State :=
  match s.stream with
  | none => selectNext (refuse ch tag .streamState s)
  | some t =>
    match firstCode
      [(!isAtRest t.phase, .streamState), (t.bands.isEmpty, .streamState), (!bayServes (s.mechOf t.bay).mode, .bayNotReady)] with
    | some c => selectNext (refuse ch tag c s)
    | none => conclude (doneNow ch tag 0 (acceptStart t s))

/-- START_STREAM (R136). -/
def execStartStream (ch : Fin 4) (tag : Fin 256) (s : State) : Host.Outcome State Fault Refusal :=
  .next (onLink s (takeStartStream ch tag s))

/-- The effect of a STOP_STREAM (R144). -/
def acceptStop (t : Stream) (s : State) : State :=
  raise t.bay (.streamHalted .stop (oldestNumber t)) (setPhase (.halted .stop) s)

/-- A STOP_STREAM is taken in PRIMING and RUNNING, and refused elsewhere (R144, Table 9-1). -/
def takeStopStream (ch tag : Nat) (s : State) : State :=
  match s.stream with
  | none => selectNext (refuse ch tag .streamState s)
  | some t =>
    if isAtRest t.phase then selectNext (refuse ch tag .streamState s)
    else conclude (doneNow ch tag 0 (acceptStop t s))

/-- STOP_STREAM (R144). -/
def execStopStream (ch : Fin 4) (tag : Fin 256) (s : State) : Host.Outcome State Fault Refusal :=
  .next (onLink s (takeStopStream ch tag s))

/-! ### FLUSH_STREAM and CLOSE_STREAM -/

/-- The stream flushed (R145), but for its state. -/
def flushed (t : Stream) : Stream := { t with bands := [], segments := [], lowArmed := true }

/-- The effect of a FLUSH_STREAM (R145): none in OPEN with an empty list (log entry 34). -/
def acceptFlush (t : Stream) (s : State) : State :=
  if t.phase = .opened then (if t.bands = [] then s else s.withStream (some (flushed t)))
  else setPhase .opened (s.withStream (some (flushed t)))

/-- A FLUSH_STREAM is taken in OPEN and HALTED (R145, Table 9-1). -/
def takeFlushStream (ch tag : Nat) (s : State) : State :=
  match s.stream with
  | none => selectNext (refuse ch tag .streamState s)
  | some t =>
    if isAtRest t.phase then conclude (doneNow ch tag 0 (acceptFlush t s)) else selectNext (refuse ch tag .streamState s)

/-- FLUSH_STREAM (R145). -/
def execFlushStream (ch : Fin 4) (tag : Fin 256) (s : State) : Host.Outcome State Fault Refusal :=
  .next (onLink s (takeFlushStream ch tag s))

/-- The effect of a CLOSE_STREAM (R45, R146). -/
def acceptClose (t : Stream) (s : State) : State := trigger t.bay (freeRing (s.withStream none))

/-- A CLOSE_STREAM is taken in OPEN and HALTED with no feed pass in flight (R146). -/
def takeCloseStream (ch tag : Nat) (s : State) : State :=
  match s.stream with
  | none => selectNext (refuse ch tag .streamState s)
  | some t =>
    if isAtRest t.phase && !feedInFlight s t.bay then conclude (doneNow ch tag 0 (acceptClose t s))
    else selectNext (refuse ch tag .streamState s)

/-- CLOSE_STREAM (R146). -/
def execCloseStream (ch : Fin 4) (tag : Fin 256) (s : State) : Host.Outcome State Fault Refusal :=
  .next (onLink s (takeCloseStream ch tag s))

end Sys2Proof.Machine
end

