-- ==== Sys2Proof/Machine/Exposure.lean ====
section
/-! DEFINITION. The Exposure Port's events (R138 to R143): LINE_REQUEST, BAND_ACCEPT and BAND_REPEAT. -/

namespace Sys2Proof.Machine

/-- A line of zero bytes (R138). -/
def fillLine (n : Nat) : Data := List.replicate n 0

/-- Count a fill line of a cause (R138). -/
def countFill (c : FillCause) (p : Port) : Port :=
  match c with
  | .spoiled => { p with fillSpoiled := p.fillSpoiled + 1 }
  | .idle => { p with fillIdle := p.fillIdle + 1 }
  | .notRunning => { p with fillNotRunning := p.fillNotRunning + 1 }

/-- Send a fill line of `n` bytes (R138, R139). -/
def sendFill (c : FillCause) (n : Nat) (s : State) : State :=
  s.mapPort fun p => { countFill c p with lastLine := some (fillLine n) }

/-- The stream that is RUNNING, if one is. -/
def runningStream (s : State) : Option Stream := s.stream.filter fun t => decide (t.phase = .running)

/-- The band has sent all its lines (R139, R141). -/
def allSent (t : Stream) (x : Band) : Bool := decide (lineCount t.line x ≤ x.sent)

/-- The next L bytes of a band's segment, when it holds as many unsent (R139). -/
def nextLine (t : Stream) (x : Band) : Option Data :=
  match segmentOf t x.number with
  | some g => if t.line ≤ g.unsent then some ((g.bytes.drop g.sent).take t.line) else none
  | none => none

/-- A data line leaves the ring (R139): its bytes pass from unsent to retained, and the band is EXPOSING. -/
def lineLeaves (x : Band) (t : Stream) : Stream :=
  mapOldest (fun y => { y with sent := y.sent + 1, state := .exposing })
    (mapSegment x.number (fun g => { g with sent := g.sent + t.line }) t)

/-- Data line (R139, R143). -/
def dataLine (t : Stream) (x : Band) (d : Data) (s : State) : State :=
  lowTest (((s.withStream (some (lineLeaves x t))).mapTally fun y => { y with linesSent := y.linesSent + 1 }).mapPort
    fun p => { p with lastLine := some d })

/-- Spoil the oldest band (R140, R142): its segment is released and its remaining sectors are skipped. -/
def spoilOldest (c : SpoilCause) (sent : Nat) (x : Band) (t : Stream) : Stream :=
  mapOldest (fun y => { y with state := .spoiled c, sent := sent, fetched := sectorCount y }) (dropSegment x.number t)

/-- Underrun (R140, R143). -/
def underrun (t : Stream) (x : Band) (s : State) : State :=
  lowTest (sendFill .spoiled t.line
    ((s.withStream (some (spoilOldest .underrun (x.sent + 1) x t))).mapTally fun y => { y with underruns := y.underruns + 1 }))

/-- Spoiled fill (R139). -/
def spoiledFill (t : Stream) (s : State) : State :=
  sendFill .spoiled t.line (s.withStream (some (mapOldest (fun y => { y with sent := y.sent + 1 }) t)))

/-- The line with which a RUNNING stream answers, by its oldest band (R139). -/
def answerLine (t : Stream) (s : State) : State :=
  match t.bands with
  | [] => sendFill .idle t.line s
  | x :: _ =>
    if allSent t x then sendFill .idle t.line s
    else if isSpoiled x then spoiledFill t s
    else
      match nextLine t x with
      | some d => dataLine t x d s
      | none => underrun t x s

/-- LINE_REQUEST (R138 to R140). -/
def execLineRequest (s : State) : Host.Outcome State Fault Refusal :=
  match runningStream s with
  | none => .next (sendFill .notRunning s.port.line s)
  | some t => .next (conclude (answerLine t s))

/-- Count an ignored BAND_ACCEPT (R138). -/
def ignoreAccept (s : State) : State := s.mapPort fun p => { p with ignoredAccept := p.ignoredAccept + 1 }

/-- Count an ignored BAND_REPEAT (R138). -/
def ignoreRepeat (s : State) : State := s.mapPort fun p => { p with ignoredRepeat := p.ignoredRepeat + 1 }

/-- Halt cause of a spoiled band's accept (R141). -/
def SpoilCause.halt : SpoilCause → HaltCause
  | .underrun => .underrun
  | .repeatLimit => .repeatLimit

/-- The stream after its oldest band is accepted (R141). -/
def withoutOldest (x : Band) (t : Stream) : Stream := { dropSegment x.number t with bands := t.bands.tail }

/-- What follows an accept, by the band and the list after it (R141). -/
def afterAccept (t : Stream) (x : Band) (s : State) : State :=
  match x.state with
  | .spoiled c => raise t.bay (.streamHalted c.halt x.number) (setPhase (.halted c.halt) s)
  | _ => if t.bands.tail = [] then raise t.bay (.streamEnd x.number) (setPhase .opened s) else s

/-- The oldest band is accepted (R141). -/
def acceptBand (t : Stream) (x : Band) (s : State) : State :=
  afterAccept t x
    (raise t.bay (.bandDone x.number 1)
      ((s.withStream (some (withoutOldest x t))).mapTally fun y => { y with bandsAccepted := y.bandsAccepted + 1 }))

/-- BAND_ACCEPT (R141). -/
def execBandAccept (s : State) : Host.Outcome State Fault Refusal :=
  match runningStream s with
  | none => .next (ignoreAccept s)
  | some t =>
    match t.bands with
    | [] => .next (ignoreAccept s)
    | x :: _ => if allSent t x then .next (conclude (acceptBand t x s)) else .next (ignoreAccept s)

/-- A repeat is taken (R142): the band is rewound, the arming test is made, and the bay is triggered (R79). -/
def takeRepeat (t : Stream) (s : State) : State :=
  trigger t.bay (armingTest ((s.withStream (some (mapOldest (fun y => { y with repeats := y.repeats + 1 })
    (rewindOldest t)))).mapTally fun y => { y with repeats := y.repeats + 1 }))

/-- A repeat beyond the limit spoils the band (R142, R143). -/
def limitRepeat (t : Stream) (x : Band) (s : State) : State :=
  lowTest (s.withStream (some (spoilOldest .repeatLimit 0 x t)))

/-- BAND_REPEAT (R142). -/
def execBandRepeat (s : State) : Host.Outcome State Fault Refusal :=
  match runningStream s with
  | none => .next (ignoreRepeat s)
  | some t =>
    match t.bands with
    | [] => .next (ignoreRepeat s)
    | x :: _ =>
      if x.state = .exposing then .next (conclude (if x.repeats < 2 then takeRepeat t s else limitRepeat t x s))
      else .next (ignoreRepeat s)

end Sys2Proof.Machine
end

