-- ==== Sys2Proof/Machine/Mechanism.lean ====
section
/-! DEFINITION. The events of the Bay Mechanisms (R19 to R25, R32) and of the medium (R4). -/

namespace Sys2Proof.Machine

/-- A cartridge is taken into an EMPTY bay (R20). -/
def insertCartridge (b : Bay) (medium : Medium) (s : State) : State :=
  (s.mapMech b fun m =>
    { m with mode := .loading, spindle := .starting, locked := true, medium := some (surfaceOf medium) }).mapSched b
      fun c => { c with head := 0 }

/-- CARTRIDGE_INSERTION (R20). -/
def execCartridgeInsertion (b : Bay) (medium : Medium) (s : State) : Host.Outcome State Fault Refusal :=
  if (s.mechOf b).mode = .empty then .next (conclude (insertCartridge b medium s)) else .next s

/-- The head rests on track 0 at a spin-up completion (R11). -/
def headHome (b : Bay) (s : State) : State := s.mapSched b fun c => { c with head := 0 }

/-- A spin-up completes (R20, R24): a LOADING bay begins its mount read, a WAKING bay is READY and triggered. A spin-up
completion in LOADING is no trigger (R20 names none, and R79's row cites R21 and R24): the model's reading (DESIGN CHOICE, log
entry 38). -/
def spinUpDone (b : Bay) (s : State) : State :=
  let s1 := headHome b (s.mapMech b fun m => { m with spindle := .turning })
  if (s.mechOf b).mode = .waking then trigger b (s1.mapMech b fun m => { m with mode := .ready }) else s1

/-- SPIN_UP_COMPLETION (R20, R24). -/
def execSpinUpCompletion (b : Bay) (s : State) : Host.Outcome State Fault Refusal :=
  if (s.mechOf b).spindle = .starting then .next (conclude (spinUpDone b s)) else .next s

/-- A bay becomes FAULTED (R20, R25): nothing is held and the write-inhibit flag is clear. -/
def faultBay (b : Bay) (s : State) : State :=
  s.mapMech b fun m =>
    { m with mode := .faulted, spindle := .stopped, inhibit := false, label := none, map := none, zones := none }

/-- A spin-up fails in WAKING (R25): the stream halts, the mirror is unbound, then every record of the bay is abandoned. -/
def wakeFails (b : Bay) (s : State) : State :=
  raise b (.cartridgeIn .faulted) (abandonAll b (fun _ => true) (unbindMirror true (haltByEject b (faultBay b s))))

/-- A spin-up fails (R20, R25). -/
def spinUpFails (b : Bay) (s : State) : State :=
  if (s.mechOf b).mode = .waking then wakeFails b s else raise b (.cartridgeIn .faulted) (faultBay b s)

/-- SPIN_UP_FAILURE (R20, R25). -/
def execSpinUpFailure (b : Bay) (s : State) : Host.Outcome State Fault Refusal :=
  if (s.mechOf b).spindle = .starting then .next (conclude (spinUpFails b s)) else .next s

/-- What the mount read found on sectors 0 to 5 of track 0, with up to 4 attempts on each (R20). -/
def mountFound (m : Medium) (fails : List Nat) : List Found :=
  (List.range 6).map fun i => attemptSector (conditionAt m (sectorKey 0 i)) 4 (fails.getD i 0) 0

/-- The label buffer's place for a sector found (R20). -/
def bufferOf (f : Found) : Option Data :=
  match f with
  | .data d _ => some d
  | _ => none

/-- The move of R21 by the class of the label track. -/
def mountMech (c : TrackClass) (m : Mech) : Mech :=
  match c with
  | .blank => { m with mode := .unlabelled, inhibit := false }
  | .faulty => { m with mode := .damaged, inhibit := false }
  | .sound label zones map =>
    { m with mode := .ready, inhibit := false, label := some label, zones := some zones, map := some map }

/-- Outcome reported (R21). -/
def mountOutcome (c : TrackClass) : MountOutcome :=
  match c with
  | .blank => .unlabelled
  | .faulty => .damaged
  | .sound _ _ _ => .ready

/-- The mount read completes (R21); entry to READY triggers the bay (R79). -/
def mountDone (b : Bay) (found : List Found) (s : State) : State :=
  let c := classOf found
  let s1 := raise b (.cartridgeIn (mountOutcome c))
    (s.mapMech b fun m => mountMech c { m with buffer := found.map bufferOf })
  if mountOutcome c = .ready then trigger b s1 else s1

/-- A mount read is under way: LOADING at speed (R20). -/
def mounting (m : Mech) : Bool := decide (m.mode = .loading) && decide (m.spindle = .turning)

/-- MOUNT_READ_COMPLETION (R21). -/
def execMountReadCompletion (b : Bay) (fails : List Nat) (s : State) : Host.Outcome State Fault Refusal :=
  if mounting (s.mechOf b) then .next (conclude (mountDone b (mountFound ((s.mechOf b).medium.getD []) fails) s))
  else .next s

/-- The bay comes to rest and a spindle stop begins (R23). -/
def rest (b : Bay) (s : State) : State :=
  s.mapMech b fun m => { m with mode := .resting, spindle := .stopping, timer := none }

/-- SPIN_DOWN_TIMER_EXPIRY (R23), for a timer that runs. -/
def execSpinDownTimerExpiry (b : Bay) (s : State) : Host.Outcome State Fault Refusal :=
  if (s.mechOf b).timer.isSome && decide ((s.mechOf b).mode = .ready) then .next (conclude (rest b s)) else .next s

/-- SPINDLE_STOP (R32): the stop begins on an ejecting bay whose conditions hold. -/
def execSpindleStop (b : Bay) (s : State) : Host.Outcome State Fault Refusal :=
  if releaseHolds s b && decide ((s.mechOf b).spindle = .turning) then .next (conclude (beginStop b s)) else .next s

/-- A spindle stop completes (R19, R24): a WAKING bay's spin-up begins. -/
def stopDone (b : Bay) (s : State) : State :=
  s.mapMech b fun m => { m with spindle := if m.mode = .waking then .starting else .stopped }

/-- STOP_COMPLETION (R19); an EJECTING bay then releases its cartridge (R32). -/
def execStopCompletion (b : Bay) (s : State) : Host.Outcome State Fault Refusal :=
  if (s.mechOf b).spindle = .stopping then .next (conclude (stopDone b s)) else .next s

/-- A sector of the surface moves by itself (R4). -/
def changeMedium (b : Bay) (key : Nat) (change : MediumChange) (s : State) : State :=
  s.mapMech b fun m => { m with medium := m.medium.map fun x => setCondition x key (afterChange (conditionAt x key) change) }

/-- MEDIUM_SECTOR_CHANGE (R4), on a sector of the cartridge, also with a pass of the bay in flight: a pass meets the medium as
it stands at its completion, and its predecessor completed in the step that started it, so a change that comes while it is in
flight stands for one between the two (DEDUCED, log entry 43). -/
def execMediumSectorChange (b : Bay) (track sector : Nat) (change : MediumChange) (s : State) :
    Host.Outcome State Fault Refusal :=
  if track < 16384 ∧ sector < 17 then
    .next (changeMedium b (sectorKey track sector) change s)
  else .next s

end Sys2Proof.Machine
end

