-- ==== Sys2Proof/Machine/Wire.lean ====
section
/-! DEFINITION. Inbound frame layouts (R178, R179, R188): the request that a well-formed frame spells. Field widths that R188
leaves to be reckoned are in log entry 16. -/

namespace Sys2Proof.Machine

/-- What a frame of a request kind comes to: a request, or a refusal by its body alone. -/
inductive Parsed where
  | request (i : Instr)
  | refused (c : Code)
deriving DecidableEq, Repr

/-- The body when its length suits the kind, else FRAME_ERROR (R178, check 4). -/
def sized (n : Nat) (body : Data) (i : Instr) : Parsed := if body.length = n then .request i else .refused .frameError

/-- The bay that a byte names (R188). -/
def bayOf (n : Nat) : Option Bay :=
  match n with
  | 0 => some .A
  | 1 => some .B
  | _ => none

/-- The sector status that a byte names (Table 13-5). -/
def sectorStatusOf (n : Nat) : Option SectorStatus :=
  match n with
  | 0 => some .data
  | 1 => some .blank
  | 2 => some .unreadable
  | _ => none

/-- The preemption mode that a byte names (R181, R188). -/
def modeOf (n : Nat) : Option PreemptionMode :=
  match n with
  | 0 => some .nested
  | 1 => some .runToEnd
  | _ => none

/-- The relocation value that a byte names: ON, OFF (R181, R188). -/
def weakOf (n : Nat) : Option Bool :=
  match n with
  | 0 => some true
  | 1 => some false
  | _ => none

/-- The slice that a byte names: REPLY, REPORT (R181, R188). -/
def sliceOf (n : Nat) : Option Slice :=
  match n with
  | 0 => some .reply
  | 1 => some .report
  | _ => none

/-- A QUERY's body by its scope (R179, R180): an unknown scope is BAD_FIELD. -/
def parseQuery (ch : Fin 4) (tag : Fin 256) (body : Data) : Parsed :=
  match body with
  | [] => .refused .frameError
  | scope :: rest =>
    match scope.toNat with
    | 0 => sized 0 rest (.queryDevice ch tag)
    | 1 => sized 1 rest (.queryBay ch tag (bayOf (fieldAt rest 0 1)))
    | 2 => sized 1 rest (.queryOperation ch tag (Fin.ofNat 256 (fieldAt rest 0 1)))
    | 3 => sized 0 rest (.queryStream ch tag)
    | 4 => sized 0 rest (.queryMirror ch tag)
    | _ => .refused .badField

/-- An EJECT's body (R179); a forced flag that is neither 00h nor 01h is BAD_FIELD (log entry 16). -/
def parseEject (ch : Fin 4) (tag : Fin 256) (body : Data) : Parsed :=
  match fieldAt body 1 1 with
  | 0 => sized 3 body (.ejectNormal ch tag (bayOf (fieldAt body 0 1)) (fieldAt body 2 1))
  | 1 => sized 3 body (.ejectForced ch tag (bayOf (fieldAt body 0 1)) (fieldAt body 2 1))
  | _ => if body.length = 3 then .refused .badField else .refused .frameError

/-- Zone `z` of a SET_ZONES body: eight bytes, from byte 3 on (log entry 16). -/
def bodyZone (body : Data) (z : Nat) : Zone where
  first := fieldAt body (3 + 8 * z) 3
  last := fieldAt body (6 + 8 * z) 3
  readMask := BitVec.ofNat 8 (fieldAt body (9 + 8 * z) 1)
  writeMask := BitVec.ofNat 8 (fieldAt body (10 + 8 * z) 1)

/-- A SET_ZONES body has room for exactly the zone count it gives (R179). -/
def parseSetZones (ch : Fin 4) (tag : Fin 256) (body : Data) : Parsed :=
  let n := fieldAt body 2 1
  sized (3 + 8 * n) body
    (.setZones ch tag (bayOf (fieldAt body 0 1)) (fieldAt body 1 1) ((List.range n).map (bodyZone body)))

/-- Marks in three bytes, from a byte on: low, high and prime (R179). -/
def marksAt (body : Data) (at0 : Nat) : Marks := ⟨fieldAt body at0 1, fieldAt body (at0 + 1) 1, fieldAt body (at0 + 2) 1⟩

/-- An OPEN_STREAM's body, whose length its presence marker implies (R179). -/
def parseOpen (ch : Fin 4) (tag : Fin 256) (body : Data) : Parsed :=
  let i (m : Option Marks) : Instr :=
    .openStream ch tag (bayOf (fieldAt body 0 1)) (fieldAt body 1 1) (fieldAt body 2 2) (fieldAt body 4 2) m
  match fieldAt body 6 1 with
  | 0 => sized 7 body (i none)
  | 1 => sized 10 body (i (some (marksAt body 7)))
  | _ => .refused .frameError

/-- Take one presence marker and, where present, `k` bytes; none when the body runs out or the marker names neither (R188,
log entry 16). -/
def takeField (k : Nat) (d : Data) : Option (Option Data × Data) :=
  match d with
  | [] => none
  | m :: rest =>
    match m.toNat with
    | 0 => some (none, rest)
    | 1 => if k ≤ rest.length then some (some (rest.take k), rest.drop k) else none
    | _ => none

/-- Take a field for each width in order; the body must end with the last. -/
def takeFields : List Nat → Data → Option (List (Option Data))
  | [], d => if d = [] then some [] else none
  | k :: ks, d =>
    match takeField k d with
    | none => none
    | some (x, rest) => (takeFields ks rest).map fun xs => x :: xs

/-- The SETUP that nine fields spell (R181, R182). -/
def setupOf (xs : List (Option Data)) : SetupFields where
  readCap := (xs.getD 0 none).map ofBytes
  margin := (xs.getD 1 none).map ofBytes
  pattern := (xs.getD 2 none).map fun d => d.map fun x => sliceOf x.toNat
  mode := ⟨(xs.getD 3 none).map fun d => modeOf (ofBytes d), (xs.getD 4 none).map fun d => modeOf (ofBytes d)⟩
  spinDown := ⟨(xs.getD 5 none).map ofBytes, (xs.getD 6 none).map ofBytes⟩
  weak := ⟨(xs.getD 7 none).map fun d => weakOf (ofBytes d), (xs.getD 8 none).map fun d => weakOf (ofBytes d)⟩

/-- A SETUP's body: the settings in the order of R181, each per-bay row for bay A and then bay B (log entry 16). -/
def parseSetup (ch : Fin 4) (tag : Fin 256) (body : Data) : Parsed :=
  match takeFields [2, 2, 8, 1, 1, 2, 2, 1, 1] body with
  | some xs => .request (.setup ch tag (setupOf xs))
  | none => .refused .frameError

/-- A SECTOR's body (Table 13-5): 1,026 bytes with status DATA and 2 otherwise. -/
def parseSector (ch : Fin 4) (tag : Fin 256) (body : Data) : Parsed :=
  sized (if fieldAt body 1 1 = 0 then 1026 else 2) body
    (.sector ch tag (fieldAt body 0 1) (sectorStatusOf (fieldAt body 1 1)) (body.drop 2))

/-- What a frame of this kind value and body comes to (R178, R179, Table 13-3). -/
def parseFrame (kind : Nat) (ch : Fin 4) (tag : Fin 256) (body : Data) : Parsed :=
  let bay := bayOf (fieldAt body 0 1)
  match kind with
  | 0x01 => sized 6 body (.read ch tag bay (fieldAt body 1 3) (fieldAt body 4 1) (fieldAt body 5 1))
  | 0x02 => sized 6 body (.write ch tag bay (fieldAt body 1 3) (fieldAt body 4 1) (fieldAt body 5 1))
  | 0x03 => parseSector ch tag body
  | 0x04 => sized 1 body (.cancel ch tag (Fin.ofNat 256 (fieldAt body 0 1)))
  | 0x05 => parseQuery ch tag body
  | 0x06 => parseSetup ch tag body
  | 0x07 => sized 21 body (.prepare ch tag bay (BitVec.ofNat 32 (fieldAt body 1 4)) (body.drop 5))
  | 0x08 => parseEject ch tag body
  | 0x09 => parseSetZones ch tag body
  | 0x0A => sized 1 body (.bind ch tag bay)
  | 0x0B => sized 0 body (.unbind ch tag)
  | 0x10 => parseOpen ch tag body
  | 0x11 => sized 3 body (.setMarks ch tag (marksAt body 0))
  | 0x12 => sized 6 body (.appendBand ch tag (fieldAt body 0 3) (fieldAt body 3 3))
  | 0x13 => sized 0 body (.startStream ch tag)
  | 0x14 => sized 0 body (.stopStream ch tag)
  | 0x15 => sized 0 body (.flushStream ch tag)
  | 0x16 => sized 0 body (.closeStream ch tag)
  | 0x1F => sized 0 body (.reset ch tag)
  | _ => .refused .unknownKind

end Sys2Proof.Machine
end

