-- ==== Sys2Proof/Machine/Outbound.lean ====
section
/-! DEFINITION. Outbound frame layouts (R184, R185, R188): the bytes of a reply and of a report. Where R188 leaves an order or a
width to be reckoned, log entry 17 gives it. -/

namespace Sys2Proof.Machine

/-- A frame with its header (Table 13-2). -/
def frameOf (kind : Byte) (ch tag : Nat) (body : Data) : Data :=
  toBytes 2 body.length ++ [kind] ++ toBytes 1 ch ++ toBytes 1 tag ++ body

/-- Position of a refusal code in Table 13-4. -/
def Code.position : Code → Nat
  | .frameError => 0
  | .unknownKind => 1
  | .badField => 2
  | .tableFull => 3
  | .tagInUse => 4
  | .noSuchTag => 5
  | .bayEmpty => 6
  | .bayNotReady => 7
  | .writeInhibited => 8
  | .denied => 9
  | .notPrivileged => 10
  | .noBuffer => 11
  | .inStream => 12
  | .overlapWrite => 13
  | .streamState => 14
  | .rateTooHigh => 15
  | .bandShape => 16
  | .bandListFull => 17
  | .zoneOverlap => 18
  | .mirrorState => 19
  | .unexpectedData => 20

/-- Position of a sector status (Table 13-5). -/
def sectorPosition : SectorStatus → Nat
  | .data => 0
  | .blank => 1
  | .unreadable => 2

/-- Position of a DONE status (R184). -/
def DoneStatus.position : DoneStatus → Nat
  | .ok => 0
  | .cancelled => 1
  | .mediaFault => 2
  | .abandoned => 3

/-- Position of a cause of failure (R184). -/
def Cause.position : Cause → Nat
  | .blank => 0
  | .unreadable => 1
  | .noSpare => 2

/-- The flags byte of a DONE (R188). -/
def flagsByte (d : DoneBody) : Nat :=
  d.retried.toNat + 2 * d.relocated.toNat + 4 * d.fromMirror.toNat + 8 * d.degraded.toNat + 16 * d.more.toNat

/-- Body of a DONE: status, sectors completed in two bytes, failure count, failure list, flags (R184, log entry 17). -/
def doneBytes (d : DoneBody) : Data :=
  toBytes 1 d.status.position ++ toBytes 2 d.completed ++ toBytes 1 d.failureCount ++
    (d.failures.flatMap fun f => toBytes 1 f.1 ++ toBytes 1 f.2.position) ++ toBytes 1 (flagsByte d)

/-- Position of a bay. -/
def bayPosition : Bay → Nat
  | .A => 0
  | .B => 1

/-- Position of a mount outcome (R185). -/
def MountOutcome.position : MountOutcome → Nat
  | .ready => 0
  | .unlabelled => 1
  | .damaged => 2
  | .faulted => 3

/-- Position of a halt cause (R126). -/
def HaltCause.position : HaltCause → Nat
  | .stop => 0
  | .underrun => 1
  | .repeatLimit => 2
  | .eject => 3

/-- Position of a degrade cause (R158). -/
def DegradeCause.position : DegradeCause → Nat
  | .copyFailed => 0
  | .buildFailed => 1
  | .secondaryInhibited => 2

/-- The mirror state of a report and, when DEGRADED, its cause, with the build cursor between (R158, R185). -/
def mirrorBytes (m : MirrorReport) (cursor : Nat) : Data :=
  match m with
  | .unbound => toBytes 1 0 ++ toBytes 3 cursor
  | .bound => toBytes 1 2 ++ toBytes 3 cursor
  | .degraded c => toBytes 1 3 ++ toBytes 3 cursor ++ toBytes 1 c.position

/-- Fields of a report (R185, log entry 17). -/
def reportFields : ReportBody → Data
  | .cartridgeIn o => toBytes 1 o.position
  | .cartridgeOut => []
  | .mediaAlert => toBytes 1 0
  | .streamHalted c band => toBytes 1 c.position ++ toBytes 2 band
  | .streamLow u => toBytes 3 u
  | .bandDamaged band => toBytes 2 band
  | .bandDone band accepted => toBytes 2 band ++ toBytes 2 accepted
  | .streamEnd band => toBytes 2 band
  | .mirrorState m cursor => mirrorBytes m cursor
  | .spareLow free entries => toBytes 2 free ++ toBytes 2 entries

/-- Bytes of a report frame: channel 0 and tag 0 (R185). -/
def reportBytes (r : Report) : Data :=
  frameOf 0x85#8 0 0 (toBytes 1 r.body.kind.rank ++ toBytes 1 (bayPosition r.bay) ++ reportFields r.body)

/-! ### The fields of a STATUS

Each scope sends the items of the rules that give it, rule by rule in number order and each rule's items in its own order;
an item that two rules name is sent at both places (log entry 17). -/

/-- A flag or a presence marker: 00h or 01h (R188). -/
def flagByte (x : Bool) : Data := toBytes 1 x.toNat

/-- An item that may be absent: its presence marker and, where present, the item (R188). -/
def maybeBytes {α : Type} (f : α → Data) : Option α → Data
  | none => flagByte false
  | some x => flagByte true ++ f x

/-- A list: its length in one byte, then its members (log entry 17). -/
def listBytes {α : Type} (f : α → Data) (xs : List α) : Data := toBytes 1 xs.length ++ xs.flatMap f

/-- Values for bay A and then bay B. -/
def twoBytes {α : Type} (f : α → Data) (x : Two α) : Data := f x.a ++ f x.b

/-- Position of a preemption mode (R181). -/
def modePosition (x : PreemptionMode) : Nat := [PreemptionMode.nested, .runToEnd].idxOf x

/-- Position of a slice (R181). -/
def slicePosition (x : Slice) : Nat := [Slice.reply, .report].idxOf x

/-- Position of a relocation value: ON, OFF (R181). -/
def weakPosition (x : Bool) : Nat := [true, false].idxOf x

/-- Every setting of R181 in its order, the per-bay ones for bay A and then bay B. -/
def settingsBytes (x : SettingsStatus) : Data :=
  toBytes 1 x.settings.readCap ++ toBytes 1 x.settings.margin ++
    x.settings.pattern.flatMap (fun y => toBytes 1 (slicePosition y)) ++
    twoBytes (fun y => toBytes 1 (modePosition y)) x.modes ++ twoBytes (toBytes 1) x.settings.spinDown ++
    twoBytes (fun y => toBytes 1 (weakPosition y)) x.settings.weak

/-- Fields of scope DEVICE: R37, R72 and R180's items of the Link Port. -/
def deviceBytes (x : DeviceStatus) : Data :=
  toBytes 2 x.free ++ toBytes 1 x.ring ++ toBytes 2 x.held ++ toBytes 2 x.heldTwo ++ toBytes 1 x.holdings ++
    toBytes 1 x.readCap ++
    [x.records, x.links, x.waiting, x.active, x.suspended, x.ending, x.copies, x.steps, x.fallbacks, x.relocates,
      x.flushes].flatMap (toBytes 1) ++
    twoBytes flagByte x.deferredFlush ++ flagByte x.deferredStep ++ settingsBytes x.settings ++ toBytes 1 x.cursor ++
    toBytes 2 x.replies ++ listBytes (fun y => toBytes 1 y.1.rank ++ toBytes 1 (bayPosition y.2)) x.reports ++ flagByte x.hold

/-- Position of a record's kind (R50); a RELOCATE's variety, WEAK or REPAIR, follows its kind. -/
def kindBytes : KindName → Data
  | .relocateWeak => [8#8, 0#8]
  | .relocateRepair => [8#8, 1#8]
  | .mapFlush => [9#8]
  | x =>
    toBytes 1 ([KindName.read, .write, .prepare, .eject, .setZones, .mirrorCopy, .buildStep, .fallbackRead].idxOf x)

/-- The channel and tag of a link record, absent for an internal one (R50). -/
def linkBytes (x : Option (Nat × Nat)) : Data := maybeBytes (fun y => toBytes 1 y.1 ++ toBytes 1 y.2) x

/-- Position of a record's state (R53). -/
def RecState.position (x : RecState) : Nat := [RecState.waiting, .active, .suspended, .ending].idxOf x

/-- A record as a STATUS names it: kind, level, channel and tag, first logical sector, state. -/
def recordBytes (x : RecordStatus) : Data :=
  kindBytes x.kind ++ toBytes 1 x.level ++ linkBytes x.link ++ toBytes 3 x.first ++ toBytes 1 x.state.position

/-- Position of a bay state (R18). -/
def modeBytes : BayMode → Data
  | .ejecting kind _ => [8#8] ++ toBytes 1 ([EjectKind.normal, .forced].idxOf kind)
  | x =>
    toBytes 1 ([BayMode.empty, .loading, .ready, .unlabelled, .damaged, .faulted, .resting, .waking].idxOf x)

/-- Position of a spindle condition (R19). -/
def Spindle.position (x : Spindle) : Nat := [Spindle.stopped, .starting, .turning, .stopping].idxOf x

/-- The owner of a pass: record, feed (R75), or neither after a controller reset (log entry 46). -/
def ownerBytes : OwnerStatus → Data
  | .record kind link => [0#8] ++ kindBytes kind ++ linkBytes link
  | .feed => [1#8]
  | .discarded => [2#8]

/-- Position of a pass's action (R75). -/
def Action.position (x : Action) : Nat := [Action.read, .erase, .write, .verify].idxOf x

/-- A pass in flight (R75). -/
def passBytes (x : PassStatus) : Data :=
  ownerBytes x.owner ++ toBytes 1 x.action.position ++ toBytes 2 x.track ++ toBytes 1 x.first ++ toBytes 1 x.count

/-- Position of a last decision (R75). -/
def LastDecision.position (x : LastDecision) : Nat :=
  [LastDecision.feed, .pass, .notAdmitted, .nothing, .cannotStart].idxOf x

/-- The held label fields (R13). -/
def heldBytes (x : Label) : Data := toBytes 4 x.serial.toNat ++ x.name ++ toBytes 2 x.preparations

/-- Position of a pending flush (R111). -/
def PendingFlush.position (x : PendingFlush) : Nat := [PendingFlush.none, .deferred, .queued].idxOf x

/-- A Defect Map (R111). -/
def mapStatusBytes (x : MapStatus) : Data :=
  toBytes 2 x.entries ++ toBytes 2 x.cursor ++ toBytes 2 x.freeSpares ++ toBytes 2 x.flushCount ++ flagByte x.dirty ++
    toBytes 1 x.pending.position ++ flagByte x.flushing

/-- A zone: its bounds and its two masks (R171). -/
def zoneStatusBytes (x : Zone) : Data :=
  toBytes 3 x.first ++ toBytes 3 x.last ++ toBytes 1 x.readMask.toNat ++ toBytes 1 x.writeMask.toNat

/-- Fields of scope BAY: R18 with R13 and R15, then R75, R111 and R171. -/
def bayBytes (x : BayStatus) : Data :=
  modeBytes x.mode ++ flagByte x.inhibit ++ toBytes 1 x.spindle.position ++ toBytes 2 x.head ++
    toBytes 1 (modePosition x.modeInEffect) ++ toBytes 1 x.spinDown ++ toBytes 1 x.records ++ flagByte x.timerRunning ++
    maybeBytes heldBytes x.label ++ maybeBytes (toBytes 2) x.labelFlushCount ++
    (toBytes 2 x.head ++ maybeBytes passBytes x.pass ++ maybeBytes recordBytes x.active ++ listBytes recordBytes x.stack ++
      toBytes 1 x.level ++ toBytes 1 (modePosition x.modeSet) ++ toBytes 1 (modePosition x.modeInEffect) ++
      toBytes 1 x.last.position) ++
    maybeBytes mapStatusBytes x.map ++ maybeBytes (listBytes zoneStatusBytes) x.zones

/-- Position of an end cause among none, CANCELLED and ABANDONED (R50). -/
def endPosition (x : Option EndCause) : Nat := [none, some EndCause.cancelled, some .abandoned].idxOf x

/-- Position of a sector's progress in the list of its record's kind (R50); READ is the one reading kind with a tag. -/
def progressPosition (kind : KindName) (x : Progress) : Nat :=
  if kind = .read then [Progress.unread, .read, .failed, .awaitingFallback].idxOf x
  else [Progress.pending, .erased, .written, .verified, .relocating, .done, .failed].idxOf x

/-- Fields of scope OPERATION (R72); the queued count and the round go with the per-sector progress (R50, R103). The attempt count
of each sector, the queued count, the round, the data-arrived set and the relocation list, which R50 has absent for some kinds or
sectors, are sent for every kind with no presence marker, 0, 0, 1 and empty where they hold nothing: the model's choice (DESIGN
CHOICE, log entry 52). -/
def operationBytes (x : OperationStatus) : Data :=
  kindBytes x.kind ++ toBytes 1 (bayPosition x.bay) ++ toBytes 1 x.level ++
    maybeBytes (fun y => toBytes 3 y.1 ++ toBytes 1 y.2) (if x.count = 0 then none else some (x.first, x.count)) ++
    toBytes 1 x.state.position ++ flagByte x.eligible ++ flagByte x.held ++ flagByte x.stalled ++
    toBytes 1 (endPosition x.endCause) ++
    listBytes (fun y => toBytes 1 (progressPosition x.kind y.1) ++ toBytes 1 y.2) x.progress ++ toBytes 1 x.queued ++
    toBytes 1 x.round ++ listBytes (toBytes 1) x.arrived ++ toBytes 1 x.slots ++
    listBytes (fun y => toBytes 3 y.1 ++ toBytes 1 y.2) x.relocations ++ listBytes recordBytes x.partners ++
    listBytes recordBytes x.relocates ++ doneBytes x.result

/-- Position of a stream's state (R126). -/
def phasePosition : Option StreamPhase → Nat
  | none => 0
  | some .opened => 1
  | some .priming => 2
  | some .running => 3
  | some (.halted _) => 4

/-- Marks: low, high, prime (R129). -/
def marksBytes (x : Marks) : Data := toBytes 1 x.low ++ toBytes 1 x.high ++ toBytes 1 x.prime

/-- Position of a spoil cause (R131). -/
def SpoilCause.position (x : SpoilCause) : Nat := [SpoilCause.underrun, .repeatLimit].idxOf x

/-- State of a band, with its DAMAGED flag and, when SPOILED, its cause (R131). -/
def bandStateBytes (x : BandState) (damaged : Bool) : Data :=
  match x with
  | .spoiled cause => [4#8] ++ flagByte damaged ++ toBytes 1 cause.position
  | x => toBytes 1 ([BandState.queued, .fetching, .fetched, .exposing].idxOf x) ++ flagByte damaged

/-- A band of the list with its fields (R131), `line` being the stream's line length. -/
def bandStatusBytes (line : Nat) (x : Band) : Data :=
  toBytes 2 x.number ++ toBytes 3 x.first ++ toBytes 3 x.length ++ toBytes 1 (sectorCount x) ++
    toBytes 2 (x.length / line) ++ toBytes 1 x.fetched ++ toBytes 2 x.sent ++ toBytes 1 x.repeats ++
    bandStateBytes x.state x.damaged

/-- The halt cause, present in HALTED (R126). -/
def haltBytes : StreamPhase → Data
  | .halted cause => toBytes 1 cause.position
  | _ => []

/-- The items of a stream that is not CLOSED, in the order of R126's table, the ring's byte counts with its segments. -/
def openBytes (x : OpenStatus) : Data :=
  toBytes 1 (bayPosition x.bay) ++ toBytes 1 x.ring ++ toBytes 2 x.line ++ toBytes 2 x.pace ++ marksBytes x.marks ++
    listBytes (fun y => toBytes 2 y.1 ++ toBytes 3 y.2.1 ++ toBytes 3 y.2.2) x.segments ++ toBytes 3 x.unsent ++
    toBytes 3 x.retained ++ toBytes 2 x.reserved ++ toBytes 3 x.free ++ listBytes (bandStatusBytes x.line) x.bands ++
    toBytes 2 x.nextBand ++ haltBytes x.phase ++ toBytes 1 ([true, false].idxOf x.lowArmed)

/-- The stream's counters (R126), four bytes each, as the ranges of R138's have; the spec bounds them by nothing. -/
def tallyBytes (x : Tally) : Data :=
  [x.linesSent, x.bandsAccepted, x.underruns, x.repeats, x.damaged].flatMap (toBytes 4)

/-- The items of R126's last paragraph for a stream that is not CLOSED. -/
def feedStatusBytes (x : OpenStatus) : Data :=
  maybeBytes (fun y => toBytes 2 y.1 ++ toBytes 1 y.2) x.feedAt ++ flagByte x.feedInFlight ++ flagByte x.ready

/-- Fields of scope STREAM: R126 with R138's counters, then R157's lock, open or closed, and budget. -/
def streamBytes (x : StreamStatus) : Data :=
  toBytes 1 (phasePosition (x.opened.map OpenStatus.phase)) ++ (x.opened.map openBytes).getD [] ++ tallyBytes x.tally ++
    (x.opened.map feedStatusBytes).getD [] ++ (x.fill ++ x.ignored).flatMap (toBytes 4) ++
    maybeBytes flagByte (x.opened.bind OpenStatus.locked) ++ maybeBytes (toBytes 2) (x.opened.bind OpenStatus.budget)

/-- Position of a build step item (R158). -/
def StepItem.position (x : StepItem) : Nat := [StepItem.none, .deferred, .present].idxOf x

/-- The mirror's state and every item present in it (R158). -/
def pairBytes : Mirror → Data
  | .unbound => [0#8]
  | .paired primary cursor gaps phase =>
    let pair := toBytes 1 (bayPosition primary) ++ toBytes 1 (bayPosition primary.other) ++ toBytes 3 cursor ++ toBytes 3 gaps
    match phase with
    | .building step => [1#8] ++ pair ++ toBytes 1 step.position
    | .bound => [2#8] ++ pair
    | .degraded cause => [3#8] ++ pair ++ toBytes 1 cause.position

/-- Fields of scope MIRROR (R158); a step's phase is read or write. -/
def mirrorStatusBytes (x : MirrorStatus) : Data :=
  pairBytes x.mirror ++ toBytes 1 x.copies ++ toBytes 1 x.fallbacks ++
    maybeBytes (fun y => flagByte y.1 ++ toBytes 1 y.2.position) x.step

/-- The scope byte of a STATUS: its position among DEVICE, BAY, OPERATION, STREAM and MIRROR (R180, R188). A SETUP's is the next
position, the model's choice (DESIGN CHOICE, log entry 42). -/
def Status.position : Status → Nat
  | .device _ => 0
  | .bay _ => 1
  | .operation _ => 2
  | .stream _ => 3
  | .mirror _ => 4
  | .setup _ => 5

/-- The fields of a STATUS, by its scope (R184, R188). -/
def statusFields : Status → Data
  | .device x => deviceBytes x
  | .bay x => bayBytes x
  | .operation x => operationBytes x
  | .stream x => streamBytes x
  | .mirror x => mirrorStatusBytes x
  | .setup x => settingsBytes x

/-! ### Reply frames -/

/-- Kind value of a reply frame (Table 13-3). -/
def ReplyBody.kindValue : ReplyBody → Byte
  | .grant => 0x81#8
  | .refuse _ => 0x82#8
  | .sector _ _ _ => 0x03#8
  | .done _ => 0x83#8
  | .status _ => 0x84#8

/-- Body of a reply frame (R184, R188). -/
def replyFields : ReplyBody → Data
  | .grant => []
  | .refuse c => toBytes 1 c.position
  | .sector i st d => toBytes 1 i ++ toBytes 1 (sectorPosition st) ++ d
  | .done d => doneBytes d
  | .status x => toBytes 1 x.position ++ statusFields x

/-- Bytes of a reply frame: its header, with the channel and tag of the request it answers, and its body (R184, R188). -/
def replyBytes (p : Reply) : Data := frameOf p.body.kindValue p.ch p.tag (replyFields p.body)

end Sys2Proof.Machine
end

