-- ==== Sys2Proof/Machine/LinkPort.lean ====
section
/-! DEFINITION. The Link Port's bytes (R177, R178) and the sending of frames (R184, R186): BYTE_ARRIVAL, FIRST_BYTE_TAKEN, the
two timeouts and FRAME_SENT. -/

namespace Sys2Proof.Machine

/-- Hand a well-formed frame to the block that takes it (Table 13-1). -/
def handOn (i : Instr) (s : State) : State :=
  match i with
  | .reset ch tag => takeReset ch tag s
  | .read ch tag bay first count level => takeRead ch tag bay first count level s
  | .write ch tag bay first count level => takeWrite ch tag bay first count level s
  | .sector ch tag index status data => takeSector ch tag index status data s
  | .cancel ch tag target => takeCancel ch tag target s
  | .queryDevice ch tag => takeQueryDevice ch tag s
  | .queryBay ch tag bay => takeQueryBay ch tag bay s
  | .queryOperation ch tag target => takeQueryOperation ch tag target s
  | .queryStream ch tag => takeQueryStream ch tag s
  | .queryMirror ch tag => takeQueryMirror ch tag s
  | .setup ch tag f => takeSetup ch tag f s
  | .prepare ch tag bay serial name => takePrepare ch tag bay serial name s
  | .ejectNormal ch tag bay level => takeEjectNormal ch tag bay level s
  | .ejectForced ch tag bay level => takeEjectForced ch tag bay level s
  | .setZones ch tag bay level zones => takeSetZones ch tag bay level zones s
  | .bind ch tag primary => takeBind ch tag primary s
  | .unbind ch tag => takeUnbind ch tag s
  | .openStream ch tag bay ring line pace marks => takeOpenStream ch tag bay ring line pace marks s
  | .setMarks ch tag marks => takeSetMarks ch tag marks s
  | .appendBand ch tag first length => takeAppendBand ch tag first length s
  | .startStream ch tag => takeStartStream ch tag s
  | .stopStream ch tag => takeStopStream ch tag s
  | .flushStream ch tag => takeFlushStream ch tag s
  | .closeStream ch tag => takeCloseStream ch tag s
  | _ => s

/-- Leave the receive assembly in a state. -/
def setAssembly (x : Assembly) (s : State) : State := s.mapLink fun l => { l with assembly := x }

/-- Body length that the header declares (Table 13-2). -/
def declared (bytes : Data) : Nat := fieldAt bytes 0 2

/-- Check a complete frame and hand it on (R178, checks 2 to 4). -/
def checkFrame (bytes : Data) (s : State) : State :=
  let ch := fieldAt bytes 3 1
  let tag := fieldAt bytes 4 1
  if 3 < ch then selectNext (refuse ch tag .frameError s)
  else
    match parseFrame (fieldAt bytes 2 1) (Fin.ofNat 4 ch) (Fin.ofNat 256 tag) (bytes.drop 5) with
    | .request i => handOn i s
    | .refused c => selectNext (refuse ch tag c s)

/-- The bytes of a frame so far, the last just taken (R177, R178): refused and DISCARDING at the fifth header byte of a body
too long, checked when complete, else still COLLECTING. -/
def takeBytes (bytes : Data) (s : State) : State :=
  if bytes.length = 5 ∧ Config.maxBody < declared bytes then
    selectNext (refuse (fieldAt bytes 3 1) (fieldAt bytes 4 1) .frameError (setAssembly .discarding s))
  else if 5 ≤ bytes.length ∧ bytes.length = 5 + declared bytes then checkFrame bytes (setAssembly .idle s)
  else setAssembly (.collecting bytes) s

/-- A byte stays on the cable with its acknowledge withheld (R177, R183). -/
def withhold (x : Byte) (s : State) : State := s.mapLink fun l => { l with waiting := some x }

/-- A byte that the Link Port takes (R177). -/
def takeByte (x : Byte) (s : State) : State :=
  match s.link.assembly with
  | .discarding => s
  | .collecting bytes => takeBytes (bytes ++ [x]) s
  | .idle => takeBytes [x] s

/-- BYTE_ARRIVAL (R177, R178). A byte that finds the hold or the reset line waits on the cable; no second byte comes while
one waits (log entry 14). -/
def execByteArrival (x : Byte) (s : State) : Host.Outcome State Fault Refusal :=
  if s.link.waiting.isSome then .next s
  else if s.link.resetLine || replyHeld s.link then .next (withhold x s)
  else .next (takeByte x s)

/-- FIRST_BYTE_TAKEN (R177): the byte that waited is acknowledged and begins its frame, once neither the hold nor the reset
line keeps it back. -/
def execFirstByteTaken (s : State) : Host.Outcome State Fault Refusal :=
  match s.link.waiting with
  | none => .next s
  | some x =>
    if s.link.resetLine || replyHeld s.link then .next s
    else .next (takeByte x (s.mapLink fun l => { l with waiting := none }))

/-- INCOMPLETE_FRAME_TIMEOUT (R177): an incomplete frame is discarded and answered by nothing. -/
def execIncompleteFrameTimeout (s : State) : Host.Outcome State Fault Refusal :=
  match s.link.assembly with
  | .collecting _ => .next (setAssembly .idle s)
  | _ => .next s

/-- DISCARD_QUIET_TIMEOUT (R178): the assembly returns to IDLE. -/
def execDiscardQuietTimeout (s : State) : Host.Outcome State Fault Refusal :=
  match s.link.assembly with
  | .discarding => .next (setAssembly .idle s)
  | _ => .next s

/-- A read gives up the slot of a sector whose frame has been sent (R41). -/
def giveUpSent (q i : Nat) (s : State) : State :=
  match s.rec? q with
  | none => s
  | some r => dropUnqueued r s i

/-- A frame has been sent (R41, R184). -/
def frameSent (f : Outbound) (s : State) : State :=
  let s1 := s.mapLink fun l => { l with sending := none }
  match f with
  | .report _ => s1
  | .reply p =>
    match p.body, p.owner with
    | .sector i _ _, some q => giveUpSent q i s1
    | _, _ => s1

/-- FRAME_SENT (R184): slots are given up, records may leave (R68), and the next frame is selected (R186). -/
def execFrameSent (s : State) : Host.Outcome State Fault Refusal :=
  match s.link.sending with
  | none => .next s
  | some f => .next (conclude (frameSent f s))

end Sys2Proof.Machine
end

