-- ==== Sys2Proof/Machine/Dispatch.lean ====
section
/-! DEFINITION. One arm for each command: its meaning. -/

namespace Sys2Proof.Machine

/-- The effect of a command on everything but the queue. -/
def exec (i : Instr) (s : State) : Host.Outcome State Fault Refusal :=
  match i with
  | .powerOnReset cut => Sys2Proof.Machine.execPowerOnReset cut s
  | .reset ch tag => Sys2Proof.Machine.execReset ch tag s
  | .linkResetLineAsserted => Sys2Proof.Machine.execLinkResetLineAsserted s
  | .linkResetLineReleased => Sys2Proof.Machine.execLinkResetLineReleased s
  | .byteArrival byte => Sys2Proof.Machine.execByteArrival byte s
  | .firstByteTaken => Sys2Proof.Machine.execFirstByteTaken s
  | .incompleteFrameTimeout => Sys2Proof.Machine.execIncompleteFrameTimeout s
  | .discardQuietTimeout => Sys2Proof.Machine.execDiscardQuietTimeout s
  | .read ch tag bay first count level => Sys2Proof.Machine.execRead ch tag bay first count level s
  | .write ch tag bay first count level => Sys2Proof.Machine.execWrite ch tag bay first count level s
  | .sector ch tag index status data => Sys2Proof.Machine.execSector ch tag index status data s
  | .cancel ch tag target => Sys2Proof.Machine.execCancel ch tag target s
  | .queryDevice ch tag => Sys2Proof.Machine.execQueryDevice ch tag s
  | .queryBay ch tag bay => Sys2Proof.Machine.execQueryBay ch tag bay s
  | .queryOperation ch tag target => Sys2Proof.Machine.execQueryOperation ch tag target s
  | .queryStream ch tag => Sys2Proof.Machine.execQueryStream ch tag s
  | .queryMirror ch tag => Sys2Proof.Machine.execQueryMirror ch tag s
  | .setup ch tag fields => Sys2Proof.Machine.execSetup ch tag fields s
  | .prepare ch tag bay serial name => Sys2Proof.Machine.execPrepare ch tag bay serial name s
  | .ejectNormal ch tag bay level => Sys2Proof.Machine.execEjectNormal ch tag bay level s
  | .ejectForced ch tag bay level => Sys2Proof.Machine.execEjectForced ch tag bay level s
  | .setZones ch tag bay level zones => Sys2Proof.Machine.execSetZones ch tag bay level zones s
  | .bind ch tag primary => Sys2Proof.Machine.execBind ch tag primary s
  | .unbind ch tag => Sys2Proof.Machine.execUnbind ch tag s
  | .openStream ch tag bay ring line pace marks => Sys2Proof.Machine.execOpenStream ch tag bay ring line pace marks s
  | .setMarks ch tag marks => Sys2Proof.Machine.execSetMarks ch tag marks s
  | .appendBand ch tag first length => Sys2Proof.Machine.execAppendBand ch tag first length s
  | .startStream ch tag => Sys2Proof.Machine.execStartStream ch tag s
  | .stopStream ch tag => Sys2Proof.Machine.execStopStream ch tag s
  | .flushStream ch tag => Sys2Proof.Machine.execFlushStream ch tag s
  | .closeStream ch tag => Sys2Proof.Machine.execCloseStream ch tag s
  | .cartridgeInsertion bay medium => Sys2Proof.Machine.execCartridgeInsertion bay medium s
  | .spinUpCompletion bay => Sys2Proof.Machine.execSpinUpCompletion bay s
  | .spinUpFailure bay => Sys2Proof.Machine.execSpinUpFailure bay s
  | .mountReadCompletion bay fails => Sys2Proof.Machine.execMountReadCompletion bay fails s
  | .spinDownTimerExpiry bay => Sys2Proof.Machine.execSpinDownTimerExpiry bay s
  | .spindleStop bay => Sys2Proof.Machine.execSpindleStop bay s
  | .stopCompletion bay => Sys2Proof.Machine.execStopCompletion bay s
  | .passCompletion bay responses => Sys2Proof.Machine.execPassCompletion bay responses s
  | .recordLeavesTable seq => Sys2Proof.Machine.execRecordLeavesTable seq s
  | .deferredCreation => Sys2Proof.Machine.execDeferredCreation s
  | .frameSent => Sys2Proof.Machine.execFrameSent s
  | .lineRequest => Sys2Proof.Machine.execLineRequest s
  | .bandAccept => Sys2Proof.Machine.execBandAccept s
  | .bandRepeat => Sys2Proof.Machine.execBandRepeat s
  | .mediumSectorChange bay track sector change => Sys2Proof.Machine.execMediumSectorChange bay track sector change s

end Sys2Proof.Machine
end

