-- ==== Sys2Proof/Safety.lean ====
section
/-! DEFINITION. What counts as a sound state of the block: the laws that the spec says its blocks keep, each over the fields it
names. -/

namespace Sys2Proof.Machine

/-- Buffer Memory has its 256 slots (R37). -/
def slotLaw (s : State) : Prop := s.slots.length = Config.slotCount

/-- At most 16 records, of which at most 12 are link-sourced (R49). -/
def tableLaw (s : State) : Prop := s.recs.length ≤ Config.places ∧ linkCount s ≤ Config.maxLink

/-- The stream is RUNNING. -/
def isRunning (s : State) : Bool :=
  match s.stream with
  | some t => decide (t.phase = .running)
  | none => false

/-- The ready line is high while the stream is RUNNING and low in every other state (R138). -/
def readyLaw (s : State) : Prop := s.port.ready = isRunning s

/-- No two reports have one key (R185). -/
def keysDistinct : List Report → Bool
  | [] => true
  | r :: rs => rs.all (fun t => !r.sameKey t) && keysDistinct rs

/-- The pending-report set holds at most one entry for each key (R185). -/
def reportLaw (s : State) : Prop := keysDistinct s.link.reports = true

/-- Logical sectors of a map's entries ascend strictly. -/
def ascending : List (Nat × Nat) → Bool
  | [] => true
  | e :: es => es.all (fun f => decide (e.1 < f.1)) && ascending es

/-- A map holds at most 512 entries in strictly ascending logical order, and its cursor is at most 1,088 (R111). -/
def mapKept (m : DefectMap) : Bool :=
  decide (m.entries.length ≤ Config.maxEntries) && ascending m.entries && decide (m.cursor ≤ Config.spares)

/-- Each map held keeps its law (R111). -/
def mapLaw (s : State) : Prop := ∀ b m, (s.mechOf b).map = some m → mapKept m = true

/-- Each cartridge's surface is in canonical form (log entry 6). -/
def mediumLaw (s : State) : Prop := ∀ b m, (s.mechOf b).medium = some m → surfaceWf m = true

/-- The band list holds at most 32 bands, and no band's repeats used exceeds 2 (R130). -/
def bandLaw (s : State) : Prop :=
  ∀ t, s.stream = some t → t.bands.length ≤ 32 ∧ ∀ x ∈ t.bands, x.repeats ≤ 2

/-- The entries of a map name distinct spares, each below the spare cursor (R111). -/
def sparesKept (m : DefectMap) : Bool := m.entries.all (fun e => decide (e.2 < m.cursor)) && sparesDistinct m.entries

/-- The entries of each map held name distinct spares, each below its cursor (R111). -/
def spareLaw (s : State) : Prop := ∀ b m, (s.mechOf b).map = some m → sparesKept m = true

/-- A relocation's VERIFY in flight is of one sector, on a spare that was assigned to it: below its map's cursor and named by
no entry (R113, R114). -/
def triedLaw (s : State) : Prop :=
  ∀ b p q r m, (s.schedOf b).pass = some p → p.relocation = true → p.action = .verify → p.owner = .record q →
    s.rec? q = some r → (s.mechOf r.bay).map = some m →
    ∃ i, p.items = [i] ∧ ∀ t, r.try? i = some t → ∃ x, t.spare = some x ∧ x < m.cursor ∧ ∀ e ∈ m.entries, e.2 ≠ x

/-- Bytes of the ring's segments (R130). -/
def segmentBytes (t : Stream) : Nat := (t.segments.map fun g => g.bytes.length).sum

/-- The ring of a stream (R130, R131): its segments are of distinct bands of the list, bytes sent belong to the oldest band's
alone, fetched and reserved bytes fit the ring, and the bands stand in the order of their appends. -/
def ringKept (t : Stream) : Prop :=
  (t.segments.map Segment.band).Nodup ∧
    (∀ g ∈ t.segments, g.sent ≤ g.bytes.length ∧ (0 < g.sent → (t.bands.head?.map Band.number) = some g.band) ∧
      ∃ x ∈ t.bands, x.number = g.band) ∧
    segmentBytes t + t.reserved ≤ t.ring * 1024 ∧ (t.bands.map Band.serial).Pairwise (· < ·) ∧
    ∀ x ∈ t.bands, x.serial < t.appended

/-- A feed pass in flight is on the stream's bay, of a band appended to it, and brings no more than the reserved bytes (R130,
R134). -/
def feedKept (s : State) : Prop :=
  ∀ b p n, (s.schedOf b).pass = some p → p.owner = .feed n →
    ∃ t, s.stream = some t ∧ t.bay = b ∧ n < t.appended ∧
      ∀ x ∈ t.bands, x.serial = n → isSpoiled x = false → (p.items.map (bandBytes x)).sum ≤ t.reserved

/-- The ring's law with what it rests on (R130). -/
def ringLaw (s : State) : Prop := (∀ t, s.stream = some t → ringKept t) ∧ feedKept s

/-- Every setting lies in its range, and the cursor names a slice (R181, R186). -/
def settingsLaw (s : State) : Prop :=
  (1 ≤ s.settings.readCap ∧ s.settings.readCap ≤ 64) ∧ s.settings.margin ≤ 255 ∧ s.settings.pattern.length = 8 ∧
    s.settings.spinDown.a ≤ 255 ∧ s.settings.spinDown.b ≤ 255 ∧ s.link.cursor < 8

/-- Arrival sequences ascend strictly from a bound, below the counter. -/
def seqsAscend (lo counter : Nat) : List Rec → Prop
  | [] => True
  | r :: rs => lo ≤ r.seq ∧ r.seq < counter ∧ seqsAscend (r.seq + 1) counter rs

/-- The records stand in order of creation, each with a number the counter has passed (R52). -/
def seqLaw (s : State) : Prop := seqsAscend 0 s.nextSeq s.recs

/-- The holders of the slots are records of numbers that the counter has passed (R37, R52). -/
def holderLaw (s : State) : Prop :=
  seqLaw s ∧ ∀ x ∈ s.slots, ∀ q, Holder.record q ∈ x.holders → q < s.nextSeq

/-- The records that have a place in a bay's scheduler: the active record, then the suspension stack from the top (R75). -/
def placed (s : State) (b : Bay) : List Nat := (s.schedOf b).active.toList ++ (s.schedOf b).stack

/-- A record of the table, of the bay's scheduler, that is in this state and has started its first pass. -/
def standsIn (x : RecState) (s : State) (b : Bay) (q : Nat) : Prop :=
  ∃ r, s.rec? q = some r ∧ schedBay r = b ∧ r.state = x ∧ r.started = true ∧ isEject r = false

/-- A bay's suspension stack (R86): at most 7 SUSPENDED records, levels strictly rising from the ACTIVE record and the top down,
and none while RUN_TO_END is in effect. -/
def stackKept (s : State) (b : Bay) : Prop :=
  (∀ q, (s.schedOf b).active = some q → standsIn .active s b q) ∧
    (∀ q ∈ (s.schedOf b).stack, standsIn .suspended s b q) ∧
    ((placed s b).map fun q => levelOf s (some q)).Pairwise (· < ·) ∧ (s.schedOf b).stack.length ≤ 7 ∧
    ((s.schedOf b).mode = .runToEnd → (s.schedOf b).stack = [])

/-- Each bay's suspension stack keeps its law, over records of levels 0 to 7 in the order of their creation (R51, R86). -/
def stackLaw (s : State) : Prop := seqLaw s ∧ (∀ r ∈ s.recs, r.level ≤ 7) ∧ ∀ b, stackKept s b

/-- A bay's cartridge, lock, spindle, and map and zones are those of its state's row in the table of R18; EJECTING from RESTING
never turns (R31). -/
def suitsTable (m : Mech) : Bool :=
  let present := m.medium.isSome && m.locked
  let held := m.map.isSome && m.zones.isSome
  let bare := m.map.isNone && m.zones.isNone
  match m.mode with
  | .empty => m.medium.isNone && !m.locked && decide (m.spindle = .stopped) && bare
  | .loading => present && (decide (m.spindle = .starting) || decide (m.spindle = .turning)) && bare
  | .ready => present && decide (m.spindle = .turning) && held
  | .unlabelled => present && decide (m.spindle = .turning) && bare
  | .damaged => present && decide (m.spindle = .turning) && bare
  | .faulted => present && decide (m.spindle = .stopped) && bare
  | .resting => present && (decide (m.spindle = .stopping) || decide (m.spindle = .stopped)) && held
  | .waking => present && decide (m.spindle ≠ .stopped) && held
  | .ejecting _ .ready => present && decide (m.spindle ≠ .starting) && held
  | .ejecting _ .resting => present && (decide (m.spindle = .stopping) || decide (m.spindle = .stopped)) && held
  | .ejecting _ _ => present && decide (m.spindle ≠ .starting) && bare

/-- A bay suits its row; a pass in flight turns with it (R19); its spin-down timer runs with no record on it and no pass (R22);
and an EJECT of it still WAITING finds its spindle TURNING (R31). -/
def bayKept (s : State) (b : Bay) : Prop :=
  suitsTable (s.mechOf b) = true ∧ (passInFlight s b = true → (s.mechOf b).spindle = .turning) ∧
    ((s.mechOf b).timer.isSome = true → passInFlight s b = false ∧ ∀ r ∈ s.recs, onBay b r = false) ∧
    ∀ r ∈ s.recs, isEject r = true → r.bay = b → r.state = .waiting → (s.mechOf b).spindle = .turning

/-- The record needs a mounted cartridge on its bay: a READ, WRITE, SET_ZONES, MIRROR_COPY, FALLBACK_READ or RELOCATE. -/
def needsCartridge (r : Rec) : Bool := isRead r || isSetZones r || isFallback r || isWriter r

/-- A bay that rests, or ejects from rest, has none of these records on it (R22, R24), nor has one with a PREPARE (R26, R29);
an unfinished one is on a bay READY, WAKING or ejecting from READY, and with its end cause set has its pass in flight (R66). A PREPARE that has started is on a bay at speed. -/
def tenantsKept (s : State) (b : Bay) : Prop :=
  ∀ r ∈ s.recs, r.bay = b →
    (needsCartridge r = true → prepareOn s b = false ∧
      (s.mechOf b).mode ∉ [.resting, .ejecting .normal .resting, .ejecting .forced .resting] ∧
      (unfinished r = true →
        (s.mechOf b).mode ∈ [.ready, .waking, .ejecting .normal .ready, .ejecting .forced .ready] ∧
          (r.endCause.isSome = true → ownPassInFlight s r = true))) ∧
    (isPrepare r = true → r.started = true → unfinished r = true →
      (s.mechOf b).mode ∈ [.ready, .unlabelled, .damaged] ∨ isEjecting (s.mechOf b).mode = true)

/-- The bays of a mirror are mounted, not EJECTING, and have no PREPARE (R29, R159, R168), and only a READ waits for a
FALLBACK_READ (R166). -/
def pairKept (s : State) : Prop :=
  (s.mirror ≠ .unbound → ∀ b, (s.mechOf b).mode ∈ [.ready, .resting, .waking] ∧ prepareOn s b = false) ∧
    ∀ r ∈ s.recs, ∀ x ∈ r.sectors, x.progress = .awaitingFallback → isRead r = true

/-- The record of a pass in flight, while it is in the table, is its bay's active record (R77), and a relocation's pass is of one
sector whose try has a spare (R114). -/
def passKept (s : State) (b : Bay) : Prop :=
  ∀ p q, (s.schedOf b).pass = some p → p.owner = .record q → q < s.nextSeq ∧ ∀ r, s.rec? q = some r →
    (s.schedOf b).active = some q ∧
      (p.relocation = true → ∃ i, p.items = [i] ∧ ∀ t, r.try? i = some t → t.spare ≠ none)

/-- A spare that a record's relocation tries lies below its map's cursor, is named by no entry, and is tried by no other
unfinished record's and no other sector's relocation on the bay (R113, R115). -/
def triesKept (s : State) : Prop :=
  ∀ r ∈ s.recs, ∀ t ∈ r.relocations, ∀ x, t.spare = some x → needsCartridge r = true ∧ (unfinished r = true →
    ∃ m, (s.mechOf r.bay).map = some m ∧ x < m.cursor ∧ (∀ e ∈ m.entries, e.2 ≠ x) ∧
      ∀ o ∈ s.recs, ∀ u ∈ o.relocations, o.bay = r.bay → unfinished o = true → u.spare = some x →
        o.seq = r.seq ∧ u.index = t.index)

/-- The law of relocations in progress (R111, R113 to R115) with what it rests on: the bays, their records, the mirror's pair,
the passes in flight and the schedulers' places. -/
def relocationLaw (s : State) : Prop :=
  stackLaw s ∧ spareLaw s ∧ (∀ b, bayKept s b) ∧ (∀ b, tenantsKept s b) ∧ pairKept s ∧ (∀ b, passKept s b) ∧ triesKept s

/-- A write as R60 counts it, or a relocation: a writer, or a BUILD_STEP. -/
def writes (r : Rec) : Bool := isWriter r || isStep r

/-- Two unfinished writes share a logical sector of a bay; a BUILD_STEP's extent counts on both (R60). -/
def clash (o r : Rec) : Bool :=
  writes o && writes r && unfinished o && unfinished r && overlapsExtent o r.first r.count &&
    (decide (o.bay = r.bay) || isStep o || isStep r)

/-- Of two unfinished writes that share a sector of a bay at most one has started its first pass (R60), and of two writers, or two
BUILD_STEP records, the newer has not (R59). -/
def startsApart (s : State) : Prop :=
  ∀ o ∈ s.recs, ∀ r ∈ s.recs, o.seq < r.seq → clash o r = true →
    (o.started && r.started) = false ∧ (isStep o = isStep r → r.started = false)

/-- The law of R60 with what it rests on: the schedulers' places (R86), and build steps of whole tracks of 17 sectors (R158). -/
def writeLaw (s : State) : Prop :=
  stackLaw s ∧ startsApart s ∧ (∀ r ∈ s.recs, isStep r = true → r.first % 17 = 0 ∧ r.count = 17) ∧
    ∀ p c g ph, s.mirror = .paired p c g ph → c % 17 = 0

/-- While the mirror is BUILDING or BOUND, no link WRITE addressed to the secondary is in the table (R159). -/
def mirrorLaw (s : State) : Prop := ∀ p, mirrorPrimary s = some p → ∀ r ∈ s.recs, isWrite r = true → r.bay ≠ p.other

/-- The row is a request frame from the workstation (Table 13-3). -/
def requestRow (i : Instr) : Bool :=
  match i with
  | .powerOnReset _ => false
  | .linkResetLineAsserted => false
  | .linkResetLineReleased => false
  | .byteArrival _ => false
  | .firstByteTaken => false
  | .incompleteFrameTimeout => false
  | .discardQuietTimeout => false
  | .cartridgeInsertion _ _ => false
  | .spinUpCompletion _ => false
  | .spinUpFailure _ => false
  | .mountReadCompletion _ _ => false
  | .spinDownTimerExpiry _ => false
  | .spindleStop _ => false
  | .stopCompletion _ => false
  | .passCompletion _ _ => false
  | .recordLeavesTable _ => false
  | .deferredCreation => false
  | .frameSent => false
  | .lineRequest => false
  | .bandAccept => false
  | .bandRepeat => false
  | .mediumSectorChange _ _ _ _ => false
  | _ => true

end Sys2Proof.Machine
end

