-- ==== Sys2Proof/Certificates/Slice0/Obligations.lean ====
section
/-! DEFINITION. The statements about the block, listed in OBLIGATIONS.json. -/

open Sys2Proof Sys2Proof.Machine

/-- For every state, command c and queue q: a step with c at the front of the queue and q behind it is exec of c on the
state with the queue q. With no command waiting a step answers the same state. This is the model's choice (log entry
1): the spec gives no tick. While the reset line is asserted a request row changes nothing, since no inbound byte is
taken (log entry 13); with the line released it does what the Link Port does when it hands its well-formed frame on.
(R180, R183, 00_scope.md section 1.5) -/
def Obligations.StepTakesFront : Prop :=
  ((∀ (s : State) (c : Instr) (q : List Instr), step (s.withPending (c :: q)) = exec c (s.withPending q)) ∧
    (∀ s : State, s.pending = [] → step s = .next s)) ∧
    (∀ (i : Instr) (s : State), requestRow i = true →
    (s.link.resetLine = true → exec i s = .next s) ∧ (s.link.resetLine = false → exec i s = .next (handOn i s)))

/-- For every command and every state exec answers a next state: no fault and no refusal ends a run. (R180, R36,
00_scope.md section 1.5) -/
def Obligations.NeverStops : Prop :=
  ∀ (i : Instr) (s : State), ∃ t : State, exec i s = .next t

/-- After reset with both bays empty (log entry 5): no record and counter 0, every slot free, no stream and its counters
0, ready line low and line length 16, mirror UNBOUND, default settings, cursor 0, empty queue and report set, each
bay EMPTY, unlocked, STOPPED, its head on track 0, both modes NESTED, nothing active, suspended or in flight. Every
law that the steps keep holds in the state after reset. (R35, R37, R52, R73, R75, R126, R138, R158, R181, R186,
R187) -/
def Obligations.ResetValues : Prop :=
  (State.reset.recs = [] ∧ State.reset.counter = 0 ∧ freeCount State.reset = 256 ∧ State.reset.slots.length = 256 ∧
    State.reset.stream = none ∧
    State.reset.tally = ⟨0, 0, 0, 0, 0⟩ ∧ State.reset.port.ready = false ∧ State.reset.port.line = 16 ∧
    State.reset.mirror = .unbound ∧ State.reset.settings.readCap = 24 ∧ State.reset.settings.margin = 8 ∧
    State.reset.settings.pattern = .report :: List.replicate 7 .reply ∧ State.reset.settings.spinDown = ⟨120, 120⟩ ∧
    State.reset.settings.weak = ⟨true, true⟩ ∧ State.reset.link.cursor = 0 ∧ State.reset.link.replies = [] ∧
    State.reset.link.reports = [] ∧ State.reset.link.sending = none ∧ State.reset.link.assembly = .idle ∧
    State.reset.pending = [] ∧
    ∀ b : Bay,
      (State.reset.mechOf b).mode = .empty ∧ (State.reset.mechOf b).inhibit = false ∧
        (State.reset.mechOf b).spindle = .stopped ∧ (State.reset.mechOf b).timer = none ∧
        (State.reset.mechOf b).locked = false ∧ (State.reset.mechOf b).medium = none ∧
        (State.reset.mechOf b).label = none ∧ (State.reset.mechOf b).zones = none ∧ (State.reset.mechOf b).map = none ∧
        (State.reset.schedOf b).head = 0 ∧ (State.reset.schedOf b).pass = none ∧ (State.reset.schedOf b).active = none ∧
        (State.reset.schedOf b).stack = [] ∧ (State.reset.schedOf b).modeSet = .nested ∧
        (State.reset.schedOf b).mode = .nested ∧ (State.reset.schedOf b).last = .nothing) ∧
    (slotLaw State.reset ∧ tableLaw State.reset ∧ readyLaw State.reset ∧ reportLaw State.reset ∧ mapLaw State.reset ∧
    mediumLaw State.reset ∧ bandLaw State.reset ∧ settingsLaw State.reset ∧ spareLaw State.reset ∧ triedLaw State.reset ∧ ringLaw State.reset ∧ seqLaw State.reset ∧ mirrorLaw State.reset ∧
    holderLaw State.reset ∧ stackLaw State.reset ∧ writeLaw State.reset ∧ relocationLaw State.reset)

/-- The distance of two tracks is their absolute difference; for every distance d from 0 to 16,383 the seek cost is 0
when d is 0 and 6 + ceil(d/128) when d is 1 or more; it is 7 at least for any movement, never above 134, and 134
exactly at the distances from 16,257 upward. (R10) -/
def Obligations.SeekCost : Prop :=
  (∀ t u : Nat, trackDistance t u = ((t : Int) - (u : Int)).natAbs) ∧
    ∀ d : Nat, d ≤ 16383 →
      (d = 0 → seekCost d = 0) ∧ (1 ≤ d → 128 * (seekCost d - 6) < d + 128 ∧ d ≤ 128 * (seekCost d - 6) ∧ 7 ≤ seekCost d) ∧
        seekCost d ≤ 134 ∧ (seekCost d = 134 ↔ 16257 ≤ d)

/-- Every logical sector 0 to 277,422 has its home on a user track (1 to 16,319), sector 0 to 16, and the numbering of
R2 finds it back; every spare 0 to 1,087 lies on a spare track (16,320 to 16,383) and the numbering of R3 finds it
back. A map with an entry for a sector locates it on the spare of the first such entry; without one, or with no map,
at its home. (R2, R3, R112) -/
def Obligations.Locations : Prop :=
  (∀ n : Nat, n ≤ Config.lastLogical →
      1 ≤ (homeLoc n).track ∧ (homeLoc n).track ≤ 16319 ∧ (homeLoc n).sector ≤ 16 ∧
        (homeLoc n).track = 1 + n / 17 ∧ (homeLoc n).sector = n % 17 ∧
        logicalOf (homeLoc n).track (homeLoc n).sector = n) ∧
    (∀ x : Nat, x < Config.spares →
      16320 ≤ (spareLoc x).track ∧ (spareLoc x).track ≤ 16383 ∧ (spareLoc x).sector ≤ 16 ∧
        (spareLoc x).track = 16320 + x / 17 ∧ (spareLoc x).sector = x % 17 ∧
        spareOf (spareLoc x).track (spareLoc x).sector = x) ∧
    (∀ n : Nat, locate none n = homeLoc n) ∧
    (∀ (d : DefectMap) (n : Nat), hasEntry d n = false → locate (some d) n = homeLoc n) ∧
    ∀ (d : DefectMap) (n x : Nat), d.entries.find? (fun e => decide (e.1 = n)) = some (n, x) →
      locate (some d) n = spareLoc x

/-- On every canonical surface, an ERASE pass of n sectors leaves each covered sector BLANK, whatever it was and
whatever the mechanism answers, and every other sector as it was. On every canonical surface, a WRITE pass leaves
each covered sector as R6 allows: BLANK before, it is DATA with the bytes written, DATA with other bytes, or
UNREADABLE; DATA or UNREADABLE before, it is DATA with bytes that differ or UNREADABLE. Every other sector is as it
was. A medium that took the write on a BLANK sector leaves exactly the slot's bytes there; one that holds other
bytes leaves those, and one that failed leaves UNREADABLE (the medium's answers as operands: log entry 7). (R4, R5,
R6) -/
def Obligations.PassEffects : Prop :=
  (∀ (p : Pass) (rs : List SectorResponse) (m : Medium), surfaceWf m = true → p.action = .erase →
    (∀ j : Nat, j < p.items.length → conditionAt (mediumAfter p rs m) (passKey p j) = .blank) ∧
      ∀ k : Nat, (∀ j : Nat, j < p.items.length → k ≠ passKey p j) → conditionAt (mediumAfter p rs m) k = conditionAt m k) ∧
    (∀ (p : Pass) (rs : List SectorResponse) (m : Medium), surfaceWf m = true → p.action = .write →
    (∀ j : Nat, j < p.items.length →
        conditionAt (mediumAfter p rs m) (passKey p j) = .unreadable ∨
          ∃ d : Data, conditionAt (mediumAfter p rs m) (passKey p j) = .data d false ∧
            (conditionAt m (passKey p j) ≠ .blank → d ≠ p.data.getD j [])) ∧
      (∀ j : Nat, j < p.items.length → (responseAt rs j).wrote = .took → conditionAt m (passKey p j) = .blank →
        conditionAt (mediumAfter p rs m) (passKey p j) = .data (p.data.getD j []) false) ∧
      (∀ (j : Nat) (d : Data), j < p.items.length → (responseAt rs j).wrote = .differs d →
        conditionAt m (passKey p j) = .blank ∨ padTo 1024 d ≠ p.data.getD j [] →
        conditionAt (mediumAfter p rs m) (passKey p j) = .data (padTo 1024 d) false) ∧
      (∀ j : Nat, j < p.items.length → (responseAt rs j).wrote = .unreadable →
        conditionAt (mediumAfter p rs m) (passKey p j) = .unreadable) ∧
      ∀ k : Nat, (∀ j : Nat, j < p.items.length → k ≠ passKey p j) → conditionAt (mediumAfter p rs m) k = conditionAt m k)

/-- A BLANK sector is found BLANK; an UNREADABLE one fails every allowed attempt; a DATA sector gives its bytes on some
attempt among those allowed, or fails them all; a sector that is not weak and fails none gives its bytes on the
first. A verify of the bytes found is MATCH exactly when they equal the slot's. (R4, R7, R99) -/
def Obligations.AttemptsSettle : Prop :=
  (∀ allowed fails before : Nat, attemptSector .blank allowed fails before = .blank) ∧
    (∀ allowed fails before : Nat, attemptSector .unreadable allowed fails before = .failed allowed) ∧
    (∀ (d : Data) (weak : Bool) (allowed fails before : Nat),
      attemptSector (.data d weak) allowed fails before = .failed allowed ∨
        ∃ n : Nat, 1 ≤ n ∧ n ≤ allowed ∧ attemptSector (.data d weak) allowed fails before = .data d n) ∧
    (∀ (d : Data) (allowed before : Nat), 1 ≤ allowed → attemptSector (.data d false) allowed 0 before = .data d 1) ∧
    ∀ (found : Found) (bytes : Data), verdictOf found bytes = .matched ↔ ∃ n : Nat, found = .data bytes n

/-- For every label with a name of 16 characters and a two-byte preparation count, every list of at most 8 zones in
bounds and in ascending order, with masks of four bits and no two sharing a sector, every map that satisfies R16,
and every two-byte flush count: the six sector images of R13 to R15, read back, classify as a sound label track with
exactly that label, those zones and that map (clean, with no flush pending). (R12, R13, R14, R15, R16) -/
def Obligations.LabelTrackReadsBack : Prop :=
  ∀ (l : Label) (zs : List Zone) (m : DefectMap) (n : Nat),
    l.name.length = 16 → l.preparations < 65536 → zs.length ≤ 8 → zs.all zoneInBounds = true → anyOverlap zs = false →
    sortZones zs = zs → mapSound m = true → n < 65536 →
      classOf ((labelImage l :: zonesImage zs :: mapImages (mapBytes m n)).map fun d => Found.data d 1) =
        .sound l zs { m with flushCount := n, dirty := false, pending := .none, flushing := none }

/-- From every state POWER_ON_RESET answers a next state whose table is empty, with no reply for any record, its counter
0, no creation deferred, no tag in use, and the reply queue empty. (R73) -/
def Obligations.PowerOnTable : Prop :=
  ∀ (cut : Two Cut) (s : State), ∃ t : State, exec (.powerOnReset cut) s = .next t ∧ t.recs = [] ∧ t.counter = 0 ∧
    flushDeferred t .A = false ∧ flushDeferred t .B = false ∧ stepDeferred t = false ∧
    (∀ ch tag : Nat, t.linkRec? ch tag = none) ∧ t.link.replies = [] ∧ t.link.sending = none

/-- From every state POWER_ON_RESET leaves each bay without a cartridge EMPTY, open and STOPPED, and each bay with one
LOADING, locked and STARTING, its flag clear and nothing held, the surface keeping every sector that a pass in
flight does not cover; every slot is free, the stream CLOSED, the mirror UNBOUND, the settings at their defaults,
the Link Port empty, both heads on track 0. The waiting commands and the cable's two inputs stay (log entries 4,
15). What a cut pass leaves on the sectors it covers: a READ or VERIFY leaves all as they were; of an ERASE or
WRITE, the sectors passed over have the pass's effect, those not reached are as before, and the one under the head
is, for an ERASE, BLANK or as before, and for a WRITE as before, BLANK, DATA with any bytes, or UNREADABLE. Where
the cut falls is an operand (log entry 33). (R8, R35, R46, R148, R169, R187) -/
def Obligations.PowerOnBays : Prop :=
  ∀ (cut : Two Cut) (s : State), ∃ t : State, exec (.powerOnReset cut) s = .next t ∧
    (∀ b : Bay,
      ((s.mechOf b).medium = none → t.mechOf b = Mech.reset) ∧
        (∀ m : Medium, (s.mechOf b).medium = some m → surfaceWf m = true →
          (t.mechOf b).mode = .loading ∧ (t.mechOf b).locked = true ∧ (t.mechOf b).spindle = .starting ∧
            (t.mechOf b).inhibit = false ∧ (t.mechOf b).timer = none ∧ (t.mechOf b).label = none ∧
            (t.mechOf b).zones = none ∧ (t.mechOf b).map = none ∧
            ∃ m' : Medium, (t.mechOf b).medium = some m' ∧ surfaceWf m' = true ∧
              ∀ k : Nat, (∀ p : Pass, (s.schedOf b).pass = some p → ∀ j : Nat, j < p.items.length → k ≠ passKey p j) →
                conditionAt m' k = conditionAt m k) ∧
        (∀ (m : Medium) (p : Pass), (s.mechOf b).medium = some m → surfaceWf m = true → (s.schedOf b).pass = some p →
          ∃ m' : Medium, (t.mechOf b).medium = some m' ∧
            (p.action = .read ∨ p.action = .verify → ∀ k : Nat, conditionAt m' k = conditionAt m k) ∧
            ∀ j : Nat, j < p.items.length →
              (j < (cut.get b).passed →
                conditionAt m' (passKey p j) = conditionAt (mediumAfter p (cut.get b).responses m) (passKey p j)) ∧
              ((cut.get b).passed < j → conditionAt m' (passKey p j) = conditionAt m (passKey p j)) ∧
              (j = (cut.get b).passed → (cut.get b).under = .kept →
                conditionAt m' (passKey p j) = conditionAt m (passKey p j)) ∧
              (j = (cut.get b).passed → p.action = .erase → (cut.get b).under ≠ .kept →
                conditionAt m' (passKey p j) = .blank) ∧
              (j = (cut.get b).passed → p.action = .write → (cut.get b).under = .blank →
                conditionAt m' (passKey p j) = .blank) ∧
              (j = (cut.get b).passed → p.action = .write → (cut.get b).under = .unreadable →
                conditionAt m' (passKey p j) = .unreadable) ∧
              ∀ d : Data, j = (cut.get b).passed → p.action = .write → (cut.get b).under = .data d →
                conditionAt m' (passKey p j) = .data (padTo 1024 d) false) ∧
        t.schedOf b = Sched.reset) ∧
      t.slots = List.replicate 256 .free ∧ t.stream = none ∧ t.tally = Tally.reset ∧ t.port = Port.reset ∧
      t.mirror = .unbound ∧ t.settings = Settings.reset ∧ t.link.assembly = .idle ∧ t.link.reports = [] ∧
      t.link.cursor = 0 ∧ t.link.waiting = s.link.waiting ∧ t.link.resetLine = s.link.resetLine ∧ t.pending = s.pending

/-- With the line released, RESET on channel 0 runs the controller reset and queues its DONE as the first reply, and on
any other channel is refused NOT_PRIVILEGED and changes nothing else. Asserting the released line runs the reset and
leaves it asserted; asserting it again changes nothing; its release lets the next frame go. That a line already
asserted causes nothing is the model's choice (log entry 2). The controller reset keeps each bay but its timer, each
head track, the creation counter and the frame in sending. Its table holds the MAP_FLUSH records alone, in order and
as they were, but for their state: ENDING as before, ACTIVE with their own pass in flight, else WAITING. A free slot
stays free; a held slot that no pass in flight uses becomes free, and one that a pass uses is held by the passes in
flight that use it, its content kept; of the ring slots those that a feed pass is filling are kept for it, the
lowest-numbered (log entry 23), and the rest become free. Passes in flight stay with their track and sectors, a
MAP_FLUSH's as its own and every other as discarded work; stack and modes are cleared; stream CLOSED with its
counters 0, mirror UNBOUND, settings at their defaults, replies and reports empty. (R36, R47, R48, R74, R93, R148,
R169, R170, R183) -/
def Obligations.ControllerResets : Prop :=
  ((∀ (tag : Fin 256) (s : State), s.link.resetLine = false →
      exec (.reset 0 tag) s = .next (conclude (reply 0 tag (.done (plainDone 0)) none (controllerReset s)))) ∧
    (∀ (ch : Fin 4) (tag : Fin 256) (s : State), s.link.resetLine = false → ch ≠ 0 →
      exec (.reset ch tag) s = .next (selectNext (reply ch tag (.refuse .notPrivileged) none s))) ∧
    (∀ s : State, s.link.resetLine = false → exec .linkResetLineAsserted s =
      .next (conclude { controllerReset s with link := { resetLink s.link with resetLine := true } })) ∧
    (∀ s : State, s.link.resetLine = true → exec .linkResetLineAsserted s = .next s) ∧
    ∀ s : State, exec .linkResetLineReleased s = .next (selectNext { s with link := { s.link with resetLine := false } })) ∧
    (∀ s : State,
    (∀ b : Bay, (controllerReset s).mechOf b = { s.mechOf b with timer := none } ∧
      ((controllerReset s).schedOf b).head = (s.schedOf b).head ∧ ((controllerReset s).schedOf b).stack = [] ∧
      ((controllerReset s).schedOf b).modeSet = .nested ∧ ((controllerReset s).schedOf b).mode = .nested ∧
      ((controllerReset s).schedOf b).last = .nothing ∧
      ((controllerReset s).schedOf b).pass.map (fun p => (p.action, p.track, p.first, p.items)) =
        (s.schedOf b).pass.map (fun p => (p.action, p.track, p.first, p.items))) ∧
      (∀ (b : Bay) (p : Pass), (s.schedOf b).pass = some p →
        (∀ (q : Nat) (r : Rec), p.owner = .record q → s.rec? q = some r → isFlush r = true →
          ((controllerReset s).schedOf b).pass = some p) ∧
        ((∀ (q : Nat) (r : Rec), p.owner = .record q → s.rec? q = some r → isFlush r = false) →
          ((controllerReset s).schedOf b).pass = some { p with owner := .discarded })) ∧
      (controllerReset s).recs = (s.recs.filter isFlush).map (fun r =>
        { r with
          state := if r.state = .ending then .ending else if ownPassInFlight s r then .active else .waiting
          stalled := false }) ∧
      (∀ r ∈ (controllerReset s).recs, isFlush r = true ∧ r.state ≠ .suspended) ∧
      (controllerReset s).counter = s.counter ∧ (controllerReset s).slots.length = s.slots.length ∧
      (∀ x ∈ (controllerReset s).slots, x = .free ∨ ∃ (a b : Bool) (d : Option Data), x = .held [.passes a b] d) ∧
      ((∀ b : Bay, (s.schedOf b).pass = none) → ∀ x ∈ (controllerReset s).slots, x = .free) ∧
      (∀ i : Nat,
        (s.slots[i]? = some .free → (controllerReset s).slots[i]? = some .free) ∧
        (∀ (hs : List Holder) (d : Option Data), s.slots[i]? = some (.held hs d) →
          (passUses s .A i hs = false → passUses s .B i hs = false → (controllerReset s).slots[i]? = some .free) ∧
          (passUses s .A i hs = true ∨ passUses s .B i hs = true → (controllerReset s).slots[i]? =
            some (.held [.passes (passUses s .A i hs) (passUses s .B i hs)] d))) ∧
        (s.slots[i]? = some .ring →
          (fillingOn s .A + fillingOn s .B ≤ (s.slots.take i).countP Slot.isRing →
            (controllerReset s).slots[i]? = some .free) ∧
          ((s.slots.take i).countP Slot.isRing < fillingOn s .A + fillingOn s .B →
            (controllerReset s).slots[i]? =
              some (.held [.passes (decide (0 < fillingOn s .A)) (decide (0 < fillingOn s .B))] none)))) ∧
      (∀ (b : Bay) (i : Nat) (hs : List Holder), passUses s b i hs = true ↔ ∃ p : Pass, (s.schedOf b).pass = some p ∧
        ((∃ q : Nat, p.owner = .record q ∧ i ∈ p.slots ∧
            (Holder.record q ∈ hs ∨ ∃ r : Rec, s.rec? q = some r ∧ ∃ o ∈ r.partners, Holder.record o ∈ hs)) ∨
          (p.owner = .discarded ∧ ∃ x y : Bool, Holder.passes x y ∈ hs ∧ (if b = .A then x else y) = true))) ∧
      (controllerReset s).stream = none ∧ (controllerReset s).tally = Tally.reset ∧ (controllerReset s).port = Port.reset ∧
      (controllerReset s).mirror = .unbound ∧ (controllerReset s).settings = Settings.reset ∧
      (controllerReset s).link.replies = [] ∧ (controllerReset s).link.reports = [] ∧
      (controllerReset s).link.sending = s.link.sending ∧ (controllerReset s).link.cursor = 0 ∧
      (controllerReset s).link.assembly = .idle)

/-- With no byte waiting: under the hold of R177 or the reset line a byte waits on the cable (log entry 14); in IDLE it
begins a frame; in COLLECTING it joins the bytes, unless it is the fifth header byte of a frame that declares more
than 1,026 body bytes or the frame's last byte; in DISCARDING it is dropped. While a byte waits no other comes.
FIRST_BYTE_TAKEN takes the byte that waits once neither the hold nor the line keeps it back, and in IDLE it is
header byte 0; else it changes nothing. INCOMPLETE_FRAME_TIMEOUT in COLLECTING drops the frame with no reply, and
DISCARD_QUIET_TIMEOUT in DISCARDING returns the assembly to IDLE, each with nothing else changed. In any other state
of the assembly a time-out, and FIRST_BYTE_TAKEN with no byte waiting, change nothing: the model's choice for events
that cannot occur (log entry 2). When the fifth header byte of a frame that declares more than 1,026 body bytes
arrives, the frame is refused FRAME_ERROR with its channel and tag bytes as received, and the assembly is
DISCARDING. (R177, R178, R183) -/
def Obligations.BytesTaken : Prop :=
  (((∀ (x : Byte) (s : State), s.link.waiting = none → s.link.resetLine = true ∨ replyHeld s.link = true →
      exec (.byteArrival x) s = .next { s with link := { s.link with waiting := some x } }) ∧
    (∀ (x : Byte) (s : State), s.link.waiting = none → s.link.resetLine = false → replyHeld s.link = false →
      s.link.assembly = .idle → exec (.byteArrival x) s = .next { s with link := { s.link with assembly := .collecting [x] } }) ∧
    (∀ (x : Byte) (bytes : Data) (s : State), s.link.waiting = none → s.link.resetLine = false →
      s.link.assembly = .collecting bytes →
      (bytes.length = 4 → (bytes.getD 0 0).toNat * 256 + (bytes.getD 1 0).toNat ≤ 1026) →
      (4 ≤ bytes.length → bytes.length + 1 ≠ 5 + ((bytes.getD 0 0).toNat * 256 + (bytes.getD 1 0).toNat)) →
      exec (.byteArrival x) s = .next { s with link := { s.link with assembly := .collecting (bytes ++ [x]) } }) ∧
    (∀ (x : Byte) (s : State), s.link.waiting = none → s.link.resetLine = false → s.link.assembly = .discarding →
      exec (.byteArrival x) s = .next s) ∧
    (∀ (x : Byte) (s : State), s.link.waiting.isSome = true → exec (.byteArrival x) s = .next s) ∧
    (∀ (x : Byte) (s : State), s.link.waiting = some x → s.link.resetLine = false → replyHeld s.link = false →
      s.link.assembly = .idle →
      exec .firstByteTaken s = .next { s with link := { s.link with waiting := none, assembly := .collecting [x] } }) ∧
    (∀ (x : Byte) (s : State), s.link.waiting = some x → s.link.resetLine = true ∨ replyHeld s.link = true →
      exec .firstByteTaken s = .next s) ∧
    ∀ s : State, s.link.waiting = none → exec .firstByteTaken s = .next s) ∧
    ((∀ (bytes : Data) (s : State), s.link.assembly = .collecting bytes →
      exec .incompleteFrameTimeout s = .next { s with link := { s.link with assembly := .idle } }) ∧
    (∀ s : State, s.link.assembly = .idle ∨ s.link.assembly = .discarding → exec .incompleteFrameTimeout s = .next s) ∧
    (∀ s : State, s.link.assembly = .discarding →
      exec .discardQuietTimeout s = .next { s with link := { s.link with assembly := .idle } }) ∧
    (∀ s : State, s.link.assembly = .idle → exec .discardQuietTimeout s = .next s) ∧
    ∀ (bytes : Data) (s : State), s.link.assembly = .collecting bytes → exec .discardQuietTimeout s = .next s)) ∧
    (∀ (hi lo kind ch tag : Byte) (s : State), s.link.waiting = none → s.link.resetLine = false →
    s.link.assembly = .collecting [hi, lo, kind, ch] → 1026 < hi.toNat * 256 + lo.toNat →
      exec (.byteArrival tag) s =
        .next (selectNext (reply ch.toNat tag.toNat (.refuse .frameError) none
          { s with link := { s.link with assembly := .discarding } })))

/-- A complete frame of a channel of 0 to 3 and any tag is the request that its kind value of Table 13-3 names, and the
Link Port does what that request does, with the assembly IDLE. This holds for every request kind of R179: a SECTOR
of 1,026 bytes with status DATA or of 2 with any other; a QUERY by its scope, an unknown scope being refused
BAD_FIELD; a SETUP by its presence markers; PREPARE, EJECT with its forced flag, SET_ZONES with exactly the zones it
counts, OPEN_STREAM with or without marks, SET_MARKS, APPEND_BAND, READ, WRITE, CANCEL, BIND and the kinds without a
body. A bay byte of 00h names A, of 01h B, and any other names none. A body whose length does not suit its kind is
refused FRAME_ERROR (check 4), a channel byte above 3 FRAME_ERROR (check 2) whatever its kind and body, and a kind
value that Table 13-3 does not give to the workstation UNKNOWN_KIND (check 3) whatever its body. The widths of
fields, and what a marker or forced flag of another value comes to, are the model's reading (log entry 16). (R178,
R179, R180, R181, R188) -/
def Obligations.FramesHandedOn : Prop :=
  ((∀ (kind : Byte) (ch : Fin 4) (tag : Byte) (i : Instr) (s : State), s.link.waiting = none → s.link.resetLine = false →
      s.link.assembly = .collecting [0x00#8, 0x00#8, kind, BitVec.ofNat 8 ch.val] →
      (kind, i) ∈ [(0x0B#8, Instr.unbind ch tag.toFin), (0x13#8, .startStream ch tag.toFin),
        (0x14#8, .stopStream ch tag.toFin), (0x15#8, .flushStream ch tag.toFin), (0x16#8, .closeStream ch tag.toFin),
        (0x1F#8, .reset ch tag.toFin)] →
      exec (.byteArrival tag) s = exec i { s with link := { s.link with assembly := .idle } }) ∧
    (∀ (ch : Fin 4) (tag target : Byte) (s : State), s.link.waiting = none → s.link.resetLine = false →
      s.link.assembly = .collecting [0x00#8, 0x01#8, 0x04#8, BitVec.ofNat 8 ch.val, tag] →
      exec (.byteArrival target) s =
        exec (.cancel ch tag.toFin target.toFin) { s with link := { s.link with assembly := .idle } }) ∧
    (∀ (ch : Fin 4) (tag : Byte) (b : Bay) (s : State), s.link.waiting = none → s.link.resetLine = false →
      s.link.assembly = .collecting [0x00#8, 0x01#8, 0x0A#8, BitVec.ofNat 8 ch.val, tag] →
      exec (.byteArrival (BitVec.ofNat 8 (bayPosition b))) s =
        exec (.bind ch tag.toFin (some b)) { s with link := { s.link with assembly := .idle } }) ∧
    (∀ (ch : Fin 4) (tag f2 f1 f0 count level : Byte) (b : Bay) (s : State), s.link.waiting = none →
      s.link.resetLine = false →
      (s.link.assembly = .collecting [0x00#8, 0x06#8, 0x01#8, BitVec.ofNat 8 ch.val, tag,
          BitVec.ofNat 8 (bayPosition b), f2, f1, f0, count] →
        exec (.byteArrival level) s =
          exec (.read ch tag.toFin (some b) (f2.toNat * 65536 + f1.toNat * 256 + f0.toNat) count.toNat level.toNat)
            { s with link := { s.link with assembly := .idle } }) ∧
      (s.link.assembly = .collecting [0x00#8, 0x06#8, 0x02#8, BitVec.ofNat 8 ch.val, tag,
          BitVec.ofNat 8 (bayPosition b), f2, f1, f0, count] →
        exec (.byteArrival level) s =
          exec (.write ch tag.toFin (some b) (f2.toNat * 65536 + f1.toNat * 256 + f0.toNat) count.toNat level.toNat)
            { s with link := { s.link with assembly := .idle } })) ∧
    (∀ (kind ch tag : Byte) (s : State), s.link.waiting = none → s.link.resetLine = false → 3 < ch.toNat →
      s.link.assembly = .collecting [0x00#8, 0x00#8, kind, ch] →
      exec (.byteArrival tag) s =
        .next (selectNext (reply ch.toNat tag.toNat (.refuse .frameError) none
          { s with link := { s.link with assembly := .idle } }))) ∧
    (∀ (kind : Byte) (ch : Fin 4) (tag x : Byte) (bytes body : Data) (s t : State) (bay : Byte → Option Bay)
        (one : Option Byte → Data) (two : Option (Byte × Byte) → Data),
      s.link.waiting = none → s.link.resetLine = false → s.link.assembly = .collecting bytes → body.length ≤ 1026 →
      bytes ++ [x] = toBytes 2 body.length ++ [kind, BitVec.ofNat 8 ch.val, tag] ++ body →
      t = { s with link := { s.link with assembly := .idle } } →
      (∀ y : Byte, bay y = if y = 0x00#8 then some .A else if y = 0x01#8 then some .B else none) →
      (∀ o : Option Byte, one o = o.elim [0x00#8] fun y => [0x01#8, y]) →
      (∀ o : Option (Byte × Byte), two o = o.elim [0x00#8] fun y => [0x01#8, y.1, y.2]) →
      (kind = 0x03#8 →
        (∀ (index : Byte) (data : Data), body = index :: 0x00#8 :: data → data.length = 1024 →
          exec (.byteArrival x) s = exec (.sector ch tag.toFin index.toNat (some .data) data) t) ∧
        (∀ index status : Byte, body = [index, status] → status ≠ 0x00#8 →
          exec (.byteArrival x) s = exec (.sector ch tag.toFin index.toNat
            (if status = 0x01#8 then some .blank else if status = 0x02#8 then some .unreadable else none) []) t)) ∧
      (kind = 0x05#8 →
        (body = [0x00#8] → exec (.byteArrival x) s = exec (.queryDevice ch tag.toFin) t) ∧
        (∀ y : Byte, body = [0x01#8, y] → exec (.byteArrival x) s = exec (.queryBay ch tag.toFin (bay y)) t) ∧
        (∀ y : Byte, body = [0x02#8, y] → exec (.byteArrival x) s = exec (.queryOperation ch tag.toFin y.toFin) t) ∧
        (body = [0x03#8] → exec (.byteArrival x) s = exec (.queryStream ch tag.toFin) t) ∧
        (body = [0x04#8] → exec (.byteArrival x) s = exec (.queryMirror ch tag.toFin) t) ∧
        ∀ (scope : Byte) (rest : Data), body = scope :: rest → 5 ≤ scope.toNat →
          exec (.byteArrival x) s = .next (selectNext (reply ch.val tag.toNat (.refuse .badField) none t))) ∧
      (kind = 0x06#8 → ∀ (cap margin turnA turnB : Option (Byte × Byte)) (slices : Option Data)
          (modeA modeB weakA weakB : Option Byte) (modeAt : Byte → Option PreemptionMode) (weakAt : Byte → Option Bool)
          (rest : Data),
        (∀ d : Data, slices = some d → d.length = 8) →
        (∀ y : Byte, modeAt y = if y = 0x00#8 then some .nested else if y = 0x01#8 then some .runToEnd else none) →
        (∀ y : Byte, weakAt y = if y = 0x00#8 then some true else if y = 0x01#8 then some false else none) →
        body = two cap ++ two margin ++ slices.elim [0x00#8] (fun y => 0x01#8 :: y) ++ one modeA ++ one modeB ++
          two turnA ++ two turnB ++ one weakA ++ one weakB ++ rest →
        (rest = [] → exec (.byteArrival x) s = exec (.setup ch tag.toFin
          { readCap := cap.map fun y => y.1.toNat * 256 + y.2.toNat
            margin := margin.map fun y => y.1.toNat * 256 + y.2.toNat
            pattern := slices.map fun d => d.map fun y =>
              if y = 0x00#8 then some .reply else if y = 0x01#8 then some .report else none
            mode := ⟨modeA.map modeAt, modeB.map modeAt⟩
            spinDown := ⟨turnA.map fun y => y.1.toNat * 256 + y.2.toNat, turnB.map fun y => y.1.toNat * 256 + y.2.toNat⟩
            weak := ⟨weakA.map weakAt, weakB.map weakAt⟩ }) t) ∧
        (rest ≠ [] → exec (.byteArrival x) s = .next (selectNext (reply ch.val tag.toNat (.refuse .frameError) none t)))) ∧
      (kind = 0x07#8 → ∀ (y s3 s2 s1 s0 : Byte) (name : Data), body = [y, s3, s2, s1, s0] ++ name → name.length = 16 →
        exec (.byteArrival x) s = exec (.prepare ch tag.toFin (bay y)
          (BitVec.ofNat 32 (s3.toNat * 16777216 + s2.toNat * 65536 + s1.toNat * 256 + s0.toNat)) name) t) ∧
      (kind = 0x08#8 → ∀ y forced level : Byte, body = [y, forced, level] →
        (forced = 0x00#8 → exec (.byteArrival x) s = exec (.ejectNormal ch tag.toFin (bay y) level.toNat) t) ∧
        (forced = 0x01#8 → exec (.byteArrival x) s = exec (.ejectForced ch tag.toFin (bay y) level.toNat) t) ∧
        (1 < forced.toNat →
          exec (.byteArrival x) s = .next (selectNext (reply ch.val tag.toNat (.refuse .badField) none t)))) ∧
      (kind = 0x09#8 → ∀ (y level : Byte) (zones : List Zone), zones.length ≤ 127 →
        (∀ z ∈ zones, z.first < 16777216 ∧ z.last < 16777216) →
        body = [y, level, BitVec.ofNat 8 zones.length] ++
          zones.flatMap (fun z => toBytes 3 z.first ++ toBytes 3 z.last ++ [z.readMask, z.writeMask]) →
        exec (.byteArrival x) s = exec (.setZones ch tag.toFin (bay y) level.toNat zones) t) ∧
      (kind = 0x10#8 → ∀ y ring l1 l0 p1 p0 low high prime : Byte,
        (body = [y, ring, l1, l0, p1, p0, 0x00#8] →
          exec (.byteArrival x) s = exec (.openStream ch tag.toFin (bay y) ring.toNat (l1.toNat * 256 + l0.toNat)
            (p1.toNat * 256 + p0.toNat) none) t) ∧
        (body = [y, ring, l1, l0, p1, p0, 0x01#8, low, high, prime] →
          exec (.byteArrival x) s = exec (.openStream ch tag.toFin (bay y) ring.toNat (l1.toNat * 256 + l0.toNat)
            (p1.toNat * 256 + p0.toNat) (some ⟨low.toNat, high.toNat, prime.toNat⟩)) t)) ∧
      (kind = 0x11#8 → ∀ low high prime : Byte, body = [low, high, prime] →
        exec (.byteArrival x) s = exec (.setMarks ch tag.toFin ⟨low.toNat, high.toNat, prime.toNat⟩) t) ∧
      (kind = 0x12#8 → ∀ f2 f1 f0 l2 l1 l0 : Byte, body = [f2, f1, f0, l2, l1, l0] →
        exec (.byteArrival x) s = exec (.appendBand ch tag.toFin (f2.toNat * 65536 + f1.toNat * 256 + f0.toNat)
          (l2.toNat * 65536 + l1.toNat * 256 + l0.toNat)) t) ∧
      ((∃ n : Nat, (kind, n) ∈ [(0x01#8, 6), (0x02#8, 6), (0x04#8, 1), (0x07#8, 21), (0x08#8, 3), (0x0A#8, 1), (0x0B#8, 0),
            (0x11#8, 3), (0x12#8, 6), (0x13#8, 0), (0x14#8, 0), (0x15#8, 0), (0x16#8, 0), (0x1F#8, 0)] ∧ body.length ≠ n) ∨
          (kind = 0x03#8 ∧ ((body.length ≠ 2 ∧ body.length ≠ 1026) ∨ (body.length = 2 ∧ body[1]? = some 0x00#8) ∨
            (body.length = 1026 ∧ body[1]? ≠ some 0x00#8))) ∨
          (kind = 0x05#8 ∧ (body = [] ∨
            (body[0]? ∈ [some 0x00#8, some 0x03#8, some 0x04#8] ∧ body.length ≠ 1) ∨
            (body[0]? ∈ [some 0x01#8, some 0x02#8] ∧ body.length ≠ 2))) ∨
          (kind = 0x06#8 ∧ body.length < 9) ∨
          (kind = 0x09#8 ∧ (body.length < 3 ∨ ∃ n : Byte, body[2]? = some n ∧ body.length ≠ 3 + 8 * n.toNat)) ∨
          (kind = 0x10#8 ∧ ((body.length ≠ 7 ∧ body.length ≠ 10) ∨ (body.length = 7 ∧ body[6]? ≠ some 0x00#8) ∨
            (body.length = 10 ∧ body[6]? ≠ some 0x01#8))) →
        exec (.byteArrival x) s = .next (selectNext (reply ch.val tag.toNat (.refuse .frameError) none t)))) ∧
    ∀ (kind : Byte) (ch : Fin 4) (tag : Byte) (s : State), s.link.waiting = none → s.link.resetLine = false →
      s.link.assembly = .collecting [0x00#8, 0x00#8, kind, BitVec.ofNat 8 ch.val] →
      (0x0C ≤ kind.toNat ∧ kind.toNat ≤ 0x0F) ∨ (0x17 ≤ kind.toNat ∧ kind.toNat ≤ 0x1E) ∨ 0x20 ≤ kind.toNat ∨ kind.toNat = 0 →
      exec (.byteArrival tag) s =
        .next (selectNext (reply ch.val tag.toNat (.refuse .unknownKind) none
          { s with link := { s.link with assembly := .idle } }))) ∧
    ∀ (kind ch tag x : Byte) (bytes body : Data) (s t : State), s.link.waiting = none → s.link.resetLine = false →
      s.link.assembly = .collecting bytes → body.length ≤ 1026 →
      bytes ++ [x] = toBytes 2 body.length ++ [kind, ch, tag] ++ body →
      t = { s with link := { s.link with assembly := .idle } } →
      (3 < ch.toNat →
        exec (.byteArrival x) s = .next (selectNext (reply ch.toNat tag.toNat (.refuse .frameError) none t))) ∧
      (ch.toNat ≤ 3 →
        kind ∉ [0x01#8, 0x02#8, 0x03#8, 0x04#8, 0x05#8, 0x06#8, 0x07#8, 0x08#8, 0x09#8, 0x0A#8, 0x0B#8, 0x10#8, 0x11#8,
          0x12#8, 0x13#8, 0x14#8, 0x15#8, 0x16#8, 0x1F#8] →
        exec (.byteArrival x) s = .next (selectNext (reply ch.toNat tag.toNat (.refuse .unknownKind) none t)))

/-- With no frame in sending and the line released: at a REPORT slice the pending report first in kind order, bay A
before bay B, is sent, or the oldest reply when the set is empty; at a REPLY slice the oldest reply is sent, or that
report when the queue is empty; the cursor advances by one from 7 to 0. What is sent leaves its queue or set,
nothing else does. With nothing waiting nothing changes. On a set with distinct keys, raising a report keeps the
keys distinct and every other entry, and leaves exactly one entry of its key: the new report, or for a BAND_DONE
over an entry with n accepts, the new band with n + k accepts. (R184, R185, R186) -/
def Obligations.OutboundOrder : Prop :=
  (∀ (pattern : List Slice) (l : Link), l.resetLine = false → l.sending = none →
    (l.replies = [] → l.reports = [] → selectFrame pattern l = l) ∧
      (∀ (p : Reply) (ps : List Reply), l.replies = p :: ps →
        l.reports = [] ∨ pattern.getD l.cursor .reply = .reply →
        selectFrame pattern l = { l with replies := ps, sending := some (.reply p), cursor := (l.cursor + 1) % 8 }) ∧
      (l.reports ≠ [] → l.replies = [] ∨ pattern.getD l.cursor .reply = .report →
        ∃ r ∈ l.reports, (∀ t ∈ l.reports, r.rank ≤ t.rank) ∧
          selectFrame pattern l =
            { l with
              reports := l.reports.filter (fun x => !x.sameKey r)
              sending := some (.report r)
              cursor := (l.cursor + 1) % 8 })) ∧
    (∀ (l : List Report) (r : Report), keysDistinct l = true →
    keysDistinct (putReport l r) = true ∧
      (∀ x : Report, x.sameKey r = false → (x ∈ putReport l r ↔ x ∈ l)) ∧
      ((∀ x ∈ l, x.sameKey r = false) → putReport l r = l ++ [r]) ∧
      ∀ x ∈ l, x.sameKey r = true →
        (∀ (b n c k : Nat), x.body = .bandDone b n → r.body = .bandDone c k → ⟨r.bay, .bandDone c (n + k)⟩ ∈ putReport l r) ∧
          ((∀ c k : Nat, r.body ≠ .bandDone c k) → r ∈ putReport l r))

/-- FRAME_SENT ends the sending of a report, or of a reply other than a SECTOR frame, and nothing else before what
follows; a SECTOR frame's read gives up the slot of that sector. With no frame in sending nothing happens. That last
is the model's choice for an event that cannot occur (log entry 2). (R41, R184, R186) -/
def Obligations.FrameSentEffect : Prop :=
  (∀ (r : Report) (s : State), s.link.sending = some (.report r) →
      exec .frameSent s = .next (conclude { s with link := { s.link with sending := none } })) ∧
    (∀ (p : Reply) (s : State), s.link.sending = some (.reply p) → (∀ i st d, p.body ≠ .sector i st d) →
      exec .frameSent s = .next (conclude { s with link := { s.link with sending := none } })) ∧
    (∀ (ch tag i j q : Nat) (st : SectorStatus) (d : Data) (r : Rec) (x : Sector) (s : State),
      s.link.sending = some (.reply ⟨ch, tag, .sector i st d, some q⟩) → s.rec? q = some r → r.sectors[i]? = some x →
      x.slot = some j →
      ∃ t : State, exec .frameSent s = .next (conclude t) ∧ t.link = { s.link with sending := none } ∧
        t.slots = s.slots.modify j (dropFrom (.record q)) ∧
        t.recs = s.recs.map (fun y => if y.seq = q then y.mapSector i (fun z => { z with slot := none }) else y) ∧
        t = { s with link := t.link, slots := t.slots, recs := t.recs, sched := t.sched }) ∧
    ∀ s : State, s.link.sending = none → exec .frameSent s = .next s

/-- A list of checks answers the code of its first failing check, and no code when none fails; the checks of a link
request stand in the order of R55. A link request with a code is refused with it: the REFUSE joins the reply queue
and nothing else changes before the next frame is selected. (R55, R184, R170) -/
def Obligations.FirstCheckRefuses : Prop :=
  (∀ (l : List (Bool × Code)) (c : Code),
      firstCode l = some c ↔ ∃ l1 l2 : List (Bool × Code), l = l1 ++ (true, c) :: l2 ∧ ∀ x ∈ l1, x.1 = false) ∧
    (∀ l : List (Bool × Code), firstCode l = none ↔ ∀ x ∈ l, x.1 = false) ∧
    (∀ (s : State) (a : Ask) (b : Bay), (fieldChecks a ++ bayChecks s a b).map Prod.snd =
      [.notPrivileged, .badField, .zoneOverlap, .bayEmpty, .bayNotReady, .writeInhibited, .tagInUse, .denied, .streamState,
       .mirrorState, .inStream, .tableFull, .noBuffer]) ∧
    ∀ (ch : Fin 4) (tag : Fin 256) (bay : Option Bay) (c : Code) (s : State), s.link.resetLine = false →
      (∀ first count level : Nat, requestCode s (readAsk ch tag bay first count level) = some c →
        exec (.read ch tag bay first count level) s = .next (selectNext (reply ch tag (.refuse c) none s))) ∧
      (∀ first count level : Nat, requestCode s (writeAsk ch tag bay first count level) = some c →
        exec (.write ch tag bay first count level) s = .next (selectNext (reply ch tag (.refuse c) none s))) ∧
      (∀ (serial : BitVec 32) (name : Data), name.length = 16 → requestCode s (prepareAsk ch tag bay serial name) = some c →
        exec (.prepare ch tag bay serial name) s = .next (selectNext (reply ch tag (.refuse c) none s))) ∧
      (∀ level : Nat, requestCode s (ejectAsk false ch tag bay level) = some c →
        exec (.ejectNormal ch tag bay level) s = .next (selectNext (reply ch tag (.refuse c) none s))) ∧
      (∀ level : Nat, requestCode s (ejectAsk true ch tag bay level) = some c →
        exec (.ejectForced ch tag bay level) s = .next (selectNext (reply ch tag (.refuse c) none s))) ∧
      ∀ (level : Nat) (zones : List Zone), requestCode s (setZonesAsk ch tag bay level zones) = some c →
        exec (.setZones ch tag bay level zones) s = .next (selectNext (reply ch tag (.refuse c) none s))

/-- A READ passes every check exactly when it names a bay, its level is 0 to 7, its count 1 to 32 and its last sector at
most 277,422, the bay is READY or RESTING with no PREPARE on it, its channel and tag name no record, every zone of
the bay that its extent touches lets its channel read, and a place and a link place are free. A WRITE passes every
check exactly when it names a bay, its fields are in range, the bay is READY or RESTING with no PREPARE on it and
not write-inhibited, its channel and tag name no record, every zone that its extent touches lets its channel write,
the bay is not the secondary of a BUILDING or BOUND mirror, no band of a stream on the bay shares a sector with its
extent, a place (two for the primary of such a mirror) and a link place are free, and the free pool holds its count
of slots. (R26, R38, R49, R55, R56, R132, R159, R172) -/
def Obligations.TransferChecks : Prop :=
  (∀ (ch tag first count level : Nat) (bay : Option Bay) (s : State),
    requestCode s (readAsk ch tag bay first count level) = none ↔
      ∃ b : Bay, bay = some b ∧ level ≤ 7 ∧ 1 ≤ count ∧ count ≤ 32 ∧ first + count - 1 ≤ 277422 ∧
        ((s.mechOf b).mode = .ready ∨ (s.mechOf b).mode = .resting) ∧
        (∀ r ∈ s.recs, isPrepare r = true → r.bay ≠ b) ∧ (∀ r ∈ s.recs, r.link ≠ some (ch, tag)) ∧
        (∀ z ∈ (s.mechOf b).zones.getD [], z.first < first + count → first ≤ z.last → z.readMask.getLsbD ch = true) ∧
        s.recs.length < 16 ∧ s.recs.countP isLink < 12) ∧
    (∀ (ch tag first count level : Nat) (bay : Option Bay) (s : State),
    requestCode s (writeAsk ch tag bay first count level) = none ↔
      ∃ b : Bay, bay = some b ∧ level ≤ 7 ∧ 1 ≤ count ∧ count ≤ 32 ∧ first + count - 1 ≤ 277422 ∧
        ((s.mechOf b).mode = .ready ∨ (s.mechOf b).mode = .resting) ∧
        (∀ r ∈ s.recs, isPrepare r = true → r.bay ≠ b) ∧ (s.mechOf b).inhibit = false ∧
        (∀ r ∈ s.recs, r.link ≠ some (ch, tag)) ∧
        (∀ z ∈ (s.mechOf b).zones.getD [], z.first < first + count → first ≤ z.last → z.writeMask.getLsbD ch = true) ∧
        mirrorPrimary s ≠ some b.other ∧
        (∀ t : Stream, s.stream = some t → t.bay = b →
          ∀ x ∈ t.bands, ¬(x.first < first + count ∧ first < x.first + (x.length + 1023) / 1024)) ∧
        s.recs.length < 16 ∧ s.recs.countP isLink < 12 ∧ (mirrorPrimary s = some b → s.recs.length < 15) ∧
        count ≤ freeCount s)

/-- A claim of k slots, with k free, takes k distinct free slots, each then held by the claimant alone and empty; every
other slot is as it was, and the free pool falls by k. Which free slots it takes, the lowest-numbered, is the
model's choice (log entry 10). A QUERY counts free, ring and held slots that together are all slots, and records in
the four states that together are all records. (R37, R38, R42, R72) -/
def Obligations.ClaimsAndCounts : Prop :=
  (∀ (h : Holder) (k : Nat) (s : State), k ≤ freeCount s →
      (claim h k s).2.length = k ∧ (claim h k s).2.Nodup ∧ freeCount (claim h k s).1 + k = freeCount s ∧
        (∀ i ∈ (claim h k s).2, s.slots[i]? = some .free ∧ (claim h k s).1.slots[i]? = some (.held [h] none) ∧
          ∀ j : Nat, s.slots[j]? = some .free → j ∉ (claim h k s).2 → i < j) ∧
        ∀ j : Nat, j ∉ (claim h k s).2 → (claim h k s).1.slots[j]? = s.slots[j]?) ∧
    ∀ s : State,
      (deviceStatus s).free + (deviceStatus s).ring + (deviceStatus s).held = s.slots.length ∧
        (deviceStatus s).waiting + (deviceStatus s).active + (deviceStatus s).suspended + (deviceStatus s).ending =
          s.recs.length ∧
        (deviceStatus s).holdings ≤ (deviceStatus s).held ∧ (deviceStatus s).heldTwo ≤ (deviceStatus s).held

/-- With the reset line released, a READ that no check refuses creates its record, WAITING with every sector UNREAD, no
slot and an empty result, with the counter's value as its arrival sequence; the counter rises by one, a RESTING bay
is woken, the bay is triggered, and nothing else changes before what follows. With the reset line released, a WRITE
that no check refuses, to a bay that is not the primary of a BUILDING or BOUND mirror, claims its count of free
slots for its record alone, slot i for sector i, every sector PENDING with no data arrived; it takes the counter's
value, a RESTING bay is woken, the bay is triggered, and GRANT is queued. Which free slots it claims, the
lowest-numbered, is the model's choice (log entry 10). (R24, R38, R40, R52, R57, R79) -/
def Obligations.TransferTaken : Prop :=
  (∀ (ch : Fin 4) (tag : Fin 256) (b : Bay) (first count level : Nat) (s : State), s.link.resetLine = false →
    requestCode s (readAsk ch tag (some b) first count level) = none →
      exec (.read ch tag (some b) first count level) s = .next (conclude (trigger b (wake b
        { s with
          recs := s.recs ++
            [{ seq := s.nextSeq
               kind := .read
               link := some (ch.val, tag.val)
               bay := b
               level := level
               first := first
               count := count
               state := .waiting
               sectors := List.replicate count ⟨.unread, 0, none, false, none⟩
               round := 1
               relocations := []
               partners := []
               endCause := none
               failures := []
               flags := ⟨false, false, false, false⟩
               queued := 0
               started := false
               writePhase := false
               stalled := false }]
          counter := s.counter + 1 })))) ∧
    (∀ (ch : Fin 4) (tag : Fin 256) (b : Bay) (first count level : Nat) (s : State), s.link.resetLine = false →
    requestCode s (writeAsk ch tag (some b) first count level) = none → mirrorPrimary s ≠ some b →
      exec (.write ch tag (some b) first count level) s =
        .next (conclude (reply ch tag .grant (some s.nextSeq) (trigger b (wake b
          { s with
            slots := ((freeIds s).take count).foldl (fun acc j => acc.set j (.held [.record s.nextSeq] none)) s.slots
            recs := s.recs ++
              [{ newRec .write (some (ch.val, tag.val)) b level first count
                  (((freeIds s).take count).map fun j => ⟨.pending, 0, some j, false, none⟩) [] with seq := s.nextSeq }]
            counter := s.counter + 1 })))))

/-- Where the records stand in the order of their creation, a WRITE that no check refuses, to the primary of a BUILDING
or BOUND mirror whose secondary is not EJECTING of kind FORCED, creates two records, the WRITE first and its
MIRROR_COPY on the other bay next, each the partner of the other, over the same slots, which both hold; both bays
are woken and triggered and GRANT is queued. Which free slots they hold, the lowest-numbered, is the model's choice
(log entry 10). (R24, R40, R52, R57, R163) -/
def Obligations.MirroredWriteTaken : Prop :=
  ∀ (ch : Fin 4) (tag : Fin 256) (b : Bay) (first count level : Nat) (s : State), s.link.resetLine = false →
    seqLaw s → requestCode s (writeAsk ch tag (some b) first count level) = none → mirrorPrimary s = some b →
    forcedOut (s.mechOf b.other).mode = false →
      exec (.write ch tag (some b) first count level) s =
        .next (conclude (reply ch tag .grant (some s.nextSeq) (trigger b.other (wake b.other (trigger b (wake b
          { s with
            slots := ((freeIds s).take count).foldl
              (fun acc j => acc.set j (.held [.record s.nextSeq, .record ((s.counter + 1).toNat)] none)) s.slots
            recs := s.recs ++
              [{ newRec .write (some (ch.val, tag.val)) b level first count
                  (((freeIds s).take count).map fun j => ⟨.pending, 0, some j, false, none⟩) [(s.counter + 1).toNat] with
                  seq := s.nextSeq },
               { newRec .mirrorCopy none b.other level first count
                  (((freeIds s).take count).map fun j => ⟨.pending, 0, some j, false, none⟩) [s.nextSeq] with
                  seq := (s.counter + 1).toNat }]
            counter := s.counter + 2 }))))))

/-- With the reset line released, a PREPARE of channel 0 with 16 characters of name is accepted on a bay READY, RESTING,
UNLABELLED or DAMAGED with no record and no deferred flush on it, no stream bound to it and no mirror, when its tag
is free and a place and a link place are free. A PREPARE of channel 0 that meets all other conditions is refused
STREAM_STATE on such a bay with the stream bound to it, and MIRROR_STATE without one when the mirror is not UNBOUND.
That these two checks of R55 count in UNLABELLED and DAMAGED too, where R29 names READY and RESTING, is the model's
reading (log entry 18). Its record of level 0 has the 17 sectors of track 0 PENDING; a RESTING bay is woken and the
bay triggered. From another channel it is refused NOT_PRIVILEGED, and with another length of name FRAME_ERROR. That
a row with another length of name is answered as its frame would be is the model's reading of R178 and R179 (log
entry 34). With the reset line released, a SET_ZONES of channel 0 with a level of 0 to 7 and at most 8 zones in
bounds, no two sharing a sector, is accepted on a bay READY or RESTING with no PREPARE on it and not
write-inhibited, when its tag is free and a place and a link place are free. Its record keeps the zones in ascending
order and has one sector PENDING. From another channel it is refused NOT_PRIVILEGED. (R26, R28, R29, R51, R55, R57,
R170, R171, R173, R178, R179) -/
def Obligations.LabelWriterTaken : Prop :=
  (((∀ (tag : Fin 256) (b : Bay) (serial : BitVec 32) (name : Data) (s : State), s.link.resetLine = false →
      name.length = 16 →
      ((s.mechOf b).mode = .ready ∨ (s.mechOf b).mode = .resting ∨ (s.mechOf b).mode = .unlabelled ∨
        (s.mechOf b).mode = .damaged) →
      (∀ r ∈ s.recs, r.bay ≠ b) → flushDeferred s b = false →
      streamOn s b = false → s.mirror = .unbound →
      (∀ r ∈ s.recs, r.link ≠ some (0, tag.val)) → s.recs.length < 16 → s.recs.countP isLink < 12 →
      exec (.prepare 0 tag (some b) serial name) s = .next (conclude (trigger b (wake b
        { s with
          recs := s.recs ++
            [{ newRec (.prepare serial name) (some (0, tag.val)) b 0 0 0
                (List.replicate 17 ⟨.pending, 0, none, false, none⟩) [] with seq := s.nextSeq }]
          counter := s.counter + 1 })))) ∧
    (∀ (ch : Fin 4) (tag : Fin 256) (bay : Option Bay) (serial : BitVec 32) (name : Data) (s : State),
      s.link.resetLine = false → name.length = 16 → ch ≠ 0 →
      exec (.prepare ch tag bay serial name) s = .next (selectNext (reply ch tag (.refuse .notPrivileged) none s))) ∧
    ∀ (ch : Fin 4) (tag : Fin 256) (bay : Option Bay) (serial : BitVec 32) (name : Data) (s : State),
      s.link.resetLine = false → name.length ≠ 16 →
      exec (.prepare ch tag bay serial name) s = .next (selectNext (reply ch tag (.refuse .frameError) none s))) ∧
    ((∀ (tag : Fin 256) (b : Bay) (level : Nat) (zones : List Zone) (s : State), s.link.resetLine = false → level ≤ 7 →
      zones.length ≤ 8 → (∀ z ∈ zones, z.first ≤ z.last ∧ z.last ≤ 277422) → anyOverlap zones = false →
      ((s.mechOf b).mode = .ready ∨ (s.mechOf b).mode = .resting) →
      (∀ r ∈ s.recs, isPrepare r = true → r.bay ≠ b) → (s.mechOf b).inhibit = false →
      (∀ r ∈ s.recs, r.link ≠ some (0, tag.val)) → s.recs.length < 16 → s.recs.countP isLink < 12 →
      exec (.setZones 0 tag (some b) level zones) s = .next (conclude (trigger b (wake b
        { s with
          recs := s.recs ++
            [{ newRec (.setZones (sortZones zones)) (some (0, tag.val)) b level 0 0 [⟨.pending, 0, none, false, none⟩] []
                with seq := s.nextSeq }]
          counter := s.counter + 1 })))) ∧
    (∀ zones : List Zone,
      (sortZones zones).Pairwise (fun x y => x.first ≤ y.first) ∧
        (sortZones zones).Perm
          (zones.map fun z => ⟨z.first, z.last, z.readMask &&& 0x0F#8, z.writeMask &&& 0x0F#8⟩)) ∧
    ∀ (ch : Fin 4) (tag : Fin 256) (bay : Option Bay) (level : Nat) (zones : List Zone) (s : State),
      s.link.resetLine = false → ch ≠ 0 →
      exec (.setZones ch tag bay level zones) s = .next (selectNext (reply ch tag (.refuse .notPrivileged) none s)))) ∧
    ∀ (tag : Fin 256) (b : Bay) (serial : BitVec 32) (name : Data) (s : State), s.link.resetLine = false →
      name.length = 16 →
      ((s.mechOf b).mode = .ready ∨ (s.mechOf b).mode = .resting ∨ (s.mechOf b).mode = .unlabelled ∨
        (s.mechOf b).mode = .damaged) →
      (∀ r ∈ s.recs, r.bay ≠ b) → flushDeferred s b = false → (∀ r ∈ s.recs, r.link ≠ some (0, tag.val)) →
      (∀ t : Stream, s.stream = some t → t.bay = b →
        exec (.prepare 0 tag (some b) serial name) s = .next (selectNext (reply 0 tag (.refuse .streamState) none s))) ∧
      ((∀ t : Stream, s.stream = some t → t.bay ≠ b) → s.mirror ≠ .unbound →
        exec (.prepare 0 tag (some b) serial name) s = .next (selectNext (reply 0 tag (.refuse .mirrorState) none s)))

/-- A normal EJECT passes every check exactly when it names a bay READY, RESTING, UNLABELLED, DAMAGED or FAULTED with no
PREPARE on it and no stream bound to it, its level is 0 to 7, its tag is free, and a place and a link place are
free; a forced one is taken also in EJECTING of kind NORMAL, and whatever stream or PREPARE is on the bay. With the
reset line released, a normal EJECT that no check refuses unbinds the mirror and begins the ejection; a forced one
first halts the bay's stream, unbinds the mirror and abandons the bay's records other than MAP_FLUSH and EJECT. An
ejection that begins makes an EJECT record, WAITING where the spindle is TURNING and ACTIVE otherwise (log entry
21), and puts the bay in EJECTING of its kind with the state it left; where the records stand in the order of their
creation, a FAULTED bay, or a RESTING one whose spindle is STOPPED, is released at once: EMPTY, open, STOPPED, its
head on track 0, with no cartridge, no map, no label fields, no zones and the write-inhibit flag clear, and
CARTRIDGE_OUT raised. That it is released at once also while a record of the bay is still in ENDING is the model's
reading of R31 (log entry 34). Where the records stand in the order of their creation, abandoning a bay's records
for a forced EJECT leaves every record of the bay other than MAP_FLUSH and EJECT in ENDING or with an end cause,
changes no record's number, kind, bay, level or extent, and neither creates nor removes one; MAP_FLUSH and EJECT
records keep their state and end cause. The halt of a stream bound to the bay and not yet HALTED: HALTED with cause
EJECT, the ready line low, STREAM_HALTED raised with that cause and the oldest band's number, 0 with an empty list,
and the bay triggered; the band list and the ring stay. A stream of the other bay, or HALTED, is not touched. (R18,
R26, R31, R32, R33, R55, R67, R147, R168) -/
def Obligations.EjectTaken : Prop :=
  (((∀ (ch tag level : Nat) (bay : Option Bay) (s : State),
      (requestCode s (ejectAsk false ch tag bay level) = none ↔
        ∃ b : Bay, bay = some b ∧ level ≤ 7 ∧
          (s.mechOf b).mode ∈ [BayMode.ready, .resting, .unlabelled, .damaged, .faulted] ∧
          (∀ r ∈ s.recs, isPrepare r = true → r.bay ≠ b) ∧ (∀ r ∈ s.recs, r.link ≠ some (ch, tag)) ∧
          (∀ t : Stream, s.stream = some t → t.bay ≠ b) ∧ s.recs.length < 16 ∧ s.recs.countP isLink < 12) ∧
        (requestCode s (ejectAsk true ch tag bay level) = none ↔
          ∃ b : Bay, bay = some b ∧ level ≤ 7 ∧
            ((s.mechOf b).mode ∈ [BayMode.ready, .resting, .unlabelled, .damaged, .faulted] ∨
              ∃ f : Former, (s.mechOf b).mode = .ejecting .normal f) ∧
            (∀ r ∈ s.recs, r.link ≠ some (ch, tag)) ∧ s.recs.length < 16 ∧ s.recs.countP isLink < 12)) ∧
    (∀ (ch : Fin 4) (tag : Fin 256) (b : Bay) (level : Nat) (s : State), s.link.resetLine = false →
      requestCode s (ejectAsk false ch tag (some b) level) = none →
      exec (.ejectNormal ch tag (some b) level) s =
        .next (conclude (beginEject (ejectAsk false ch tag (some b) level) .normal b (unbindMirror true s)))) ∧
    (∀ (ch : Fin 4) (tag : Fin 256) (b : Bay) (level : Nat) (s : State), s.link.resetLine = false →
      requestCode s (ejectAsk true ch tag (some b) level) = none →
      exec (.ejectForced ch tag (some b) level) s =
        .next (conclude (beginEject (ejectAsk true ch tag (some b) level) .forced b
          (abandonAll b forcedEnds (unbindMirror true (haltByEject b s)))))) ∧
    ∀ (forced : Bool) (ch tag level : Nat) (kind : EjectKind) (b : Bay) (s : State),
      (∀ former : Former,
        ((former, (s.mechOf b).mode) ∈
            [(Former.ready, BayMode.ready), (.unlabelled, .unlabelled), (.damaged, .damaged), (.resting, .resting)] ∨
          ∃ k : EjectKind, (s.mechOf b).mode = .ejecting k former) →
        ((s.mechOf b).mode = .resting → (s.mechOf b).spindle ≠ .stopped) →
        beginEject (ejectAsk forced ch tag (some b) level) kind b s =
          State.mapMech
            { s with
              recs := s.recs ++
                [{ newRec (.eject forced) (some (ch, tag)) b level 0 0 [] [] with
                    state := if (s.mechOf b).spindle = .turning then .waiting else .active, seq := s.nextSeq }]
              counter := s.counter + 1 }
            b fun m => { m with mode := .ejecting kind former }) ∧
      (seqLaw s → (s.mechOf b).mode = .faulted ∨ ((s.mechOf b).mode = .resting ∧ (s.mechOf b).spindle = .stopped) →
        ((beginEject (ejectAsk forced ch tag (some b) level) kind b s).mechOf b).mode = .empty ∧
          ((beginEject (ejectAsk forced ch tag (some b) level) kind b s).mechOf b).spindle = .stopped ∧
          ((beginEject (ejectAsk forced ch tag (some b) level) kind b s).mechOf b).locked = false ∧
          ((beginEject (ejectAsk forced ch tag (some b) level) kind b s).mechOf b).medium = none ∧
          ((beginEject (ejectAsk forced ch tag (some b) level) kind b s).mechOf b).map = none ∧
          ((beginEject (ejectAsk forced ch tag (some b) level) kind b s).mechOf b).label = none ∧
          ((beginEject (ejectAsk forced ch tag (some b) level) kind b s).mechOf b).zones = none ∧
          ((beginEject (ejectAsk forced ch tag (some b) level) kind b s).schedOf b).head = 0 ∧
          ((beginEject (ejectAsk forced ch tag (some b) level) kind b s).mechOf b).inhibit = false ∧
          ⟨b, .cartridgeOut⟩ ∈ (beginEject (ejectAsk forced ch tag (some b) level) kind b s).link.reports)) ∧
    (∀ (b : Bay) (s : State), seqLaw s →
    (∀ r ∈ (abandonAll b forcedEnds s).recs, r.bay = b → isFlush r = false → isEject r = false →
        r.state = .ending ∨ r.endCause.isSome = true) ∧
      (abandonAll b forcedEnds s).recs.map (fun r => (r.seq, r.kind, r.link, r.bay, r.level, r.first, r.count)) =
        s.recs.map (fun r => (r.seq, r.kind, r.link, r.bay, r.level, r.first, r.count)) ∧
      ∀ r ∈ s.recs, isFlush r = true ∨ isEject r = true →
        ∃ t ∈ (abandonAll b forcedEnds s).recs, t.seq = r.seq ∧ t.state = r.state ∧ t.endCause = r.endCause)) ∧
    ∀ (b : Bay) (s : State), (s.stream = none → haltByEject b s = s) ∧ ∀ t : Stream, s.stream = some t →
      (t.bay ≠ b ∨ (∃ c : HaltCause, t.phase = .halted c) → haltByEject b s = s) ∧
      (t.bay = b → (∀ c : HaltCause, t.phase ≠ .halted c) → ∃ u : State, u = haltByEject b s ∧
        u = { s with
          stream := some { t with phase := .halted .eject }
          port := { s.port with ready := false }
          sched := (s.mapSched b fun c => { c with triggered := true }).sched
          link := { s.link with reports := u.link.reports } } ∧
        ⟨b, .streamHalted .eject ((t.bands.head?.map Band.number).getD 0)⟩ ∈ u.link.reports ∧
        ∀ x ∈ s.link.reports, (x.body.kind = .streamHalted → x.bay ≠ b) → x ∈ u.link.reports)

/-- Waking a RESTING bay puts it in WAKING, its spin-up beginning when the spindle is STOPPED; another bay state is not
woken. A trigger marks the bay's scheduler alone. A decision on a bay with a pass in flight only clears the mark,
and on a bay that cannot start passes it records CANNOT_START. The mark of a trigger, and its clearing by a
decision, are the model's own (log entry 3). (R24, R79, R90) -/
def Obligations.WakeAndTrigger : Prop :=
  (∀ (b : Bay) (s : State), (s.mechOf b).mode = .resting →
      wake b s = s.mapMech b (fun m =>
        { m with mode := .waking, spindle := if (s.mechOf b).spindle = .stopped then .starting else (s.mechOf b).spindle })) ∧
    (∀ (b : Bay) (s : State), (s.mechOf b).mode ≠ .resting → wake b s = s) ∧
    (∀ (b : Bay) (s : State),
      trigger b s = { s with sched := (trigger b s).sched } ∧ (trigger b s).schedOf b.other = s.schedOf b.other ∧
        (trigger b s).schedOf b = { s.schedOf b with triggered := true }) ∧
    (∀ (b : Bay) (s : State), passInFlight s b = true →
      makeDecision b s = s.mapSched b (fun c => { c with triggered := false })) ∧
    ∀ (b : Bay) (s : State), passInFlight s b = false → canStart s b = false →
      makeDecision b s = s.mapSched b (fun c => { c with triggered := false, last := .cannotStart })

/-- With the reset line released: a SECTOR frame with status DATA and 1,024 bytes, for an index below the count of an
unfinished WRITE of its channel and tag whose data for it has not arrived, fills the slot of that index and marks it
arrived, triggers the write's bay and its copy's, and ends the holds it ends. With no such record it is refused
NO_SUCH_TAG; for another kind or an ENDING write UNEXPECTED_DATA; with status BLANK or UNREADABLE BAD_FIELD; for an
index beyond the count or already arrived UNEXPECTED_DATA; with data that does not suit its status FRAME_ERROR. That
a row whose data does not suit its status is answered as its frame would be is the model's reading of R178 and R179
(log entry 34). (R40, R58, R61, R179, R178) -/
def Obligations.SectorTaken : Prop :=
  ∀ (ch : Fin 4) (tag : Fin 256) (index : Nat) (data : Data) (s : State), s.link.resetLine = false →
    (∀ (r : Rec) (x : Sector) (j : Nat), data.length = 1024 → s.linkRec? ch tag = some r → r.kind = .write →
        r.state ≠ .ending → index < r.count → r.sectors[index]? = some x → x.arrived = false → x.slot = some j →
        exec (.sector ch tag index (some .data) data) s = .next (conclude (signalHoldEnds s (triggerCopies r (trigger r.bay
          { s with
            slots := s.slots.modify j fun y => match y with
              | .held hs _ => .held hs (some data)
              | z => z
            recs := s.recs.map fun y =>
              if y.seq = r.seq then { y with sectors := y.sectors.modify index fun z => { z with arrived := true } }
              else y }))))) ∧
      (data.length = 1024 → s.linkRec? ch tag = none →
        exec (.sector ch tag index (some .data) data) s = .next (selectNext (reply ch tag (.refuse .noSuchTag) none s))) ∧
      (∀ r : Rec, data.length = 1024 → s.linkRec? ch tag = some r → r.kind ≠ .write ∨ r.state = .ending →
        exec (.sector ch tag index (some .data) data) s =
          .next (selectNext (reply ch tag (.refuse .unexpectedData) none s))) ∧
      (∀ (r : Rec) (st : SectorStatus), st ≠ .data → s.linkRec? ch tag = some r → r.kind = .write → r.state ≠ .ending →
        exec (.sector ch tag index (some st) []) s = .next (selectNext (reply ch tag (.refuse .badField) none s))) ∧
      (∀ r : Rec, data.length = 1024 → s.linkRec? ch tag = some r → r.kind = .write → r.state ≠ .ending →
        (r.count ≤ index ∨ ∃ x : Sector, r.sectors[index]? = some x ∧ x.arrived = true) →
        exec (.sector ch tag index (some .data) data) s =
          .next (selectNext (reply ch tag (.refuse .unexpectedData) none s))) ∧
      (data.length ≠ 1024 →
        exec (.sector ch tag index (some .data) data) s = .next (selectNext (reply ch tag (.refuse .frameError) none s)))

/-- With the reset line released, a CANCEL of a channel and tag that name no record is refused NO_SUCH_TAG; else it is
answered at once by DONE OK with its own tag, and acts on the record. One whose end cause is set or that is in
ENDING, and a SET_ZONES whose first pass has started, are not changed. On any other, where the records stand in the
order of their creation, its end cause becomes CANCELLED; it stays in its state when it is an EJECT not WAITING, or
ACTIVE with its own pass in flight, and is in ENDING otherwise. A WAITING EJECT cancelled returns its bay to the
state it left when no other unfinished EJECT is on the bay; else the bay stays EJECTING, FORCED when a forced one
remains and NORMAL otherwise. One not WAITING only takes its end cause. With a WRITE its copy is cancelled, and with
a READ each of its FALLBACK_READ records, each by its own state. A record that enters ENDING ceases to be its
scheduler's active record, or leaves the stack, the others keeping their places, which triggers the bay; as the
stack empties a waiting RUN_TO_END takes effect. A READ with an end cause gives up the slots of the sectors whose
frames are not queued and keeps the rest, one without keeps its slots, and any other record gives up every slot it
holds: a slot with another holder stays that one's, and one with none becomes free, which triggers both bays. (R34,
R39, R40, R41, R43, R44, R64, R65, R66, R67, R86, R176) -/
def Obligations.CancelTaken : Prop :=
  (((∀ (ch : Fin 4) (tag target : Fin 256) (s : State), s.link.resetLine = false →
      (s.linkRec? ch target = none →
        exec (.cancel ch tag target) s = .next (selectNext (reply ch tag (.refuse .noSuchTag) none s))) ∧
        ∀ r : Rec, s.linkRec? ch target = some r →
          exec (.cancel ch tag target) s =
            .next (conclude (cancelRec r (reply ch tag (.done (plainDone 0)) none s)))) ∧
    (∀ (r : Rec) (s : State), r.endCause.isSome = true ∨ r.state = .ending → cancelRec r s = s) ∧
    (∀ (r : Rec) (s : State), isSetZones r = true → r.started = true → cancelRec r s = s) ∧
    ∀ (r : Rec) (s : State), seqLaw s → r ∈ s.recs → r.endCause = none → r.state ≠ .ending →
      (isSetZones r && r.started) = false →
      ∃ t : Rec, (cancelRec r s).rec? r.seq = some t ∧ t.endCause = some .cancelled ∧ t.link = r.link ∧ t.kind = r.kind ∧
        t.state =
          (if isEject r then (if r.state = .waiting then .ending else r.state)
           else if r.state = .active ∧ ownPassInFlight s r = true then r.state else .ending)) ∧
    (∀ (r : Rec) (kind : EjectKind) (former : Former) (back : BayMode) (s : State), seqLaw s → r ∈ s.recs →
      isEject r = true → r.endCause = none → r.state ≠ .ending →
      (r.state = .waiting → (s.mechOf r.bay).mode = .ejecting kind former →
        (former, back) ∈
          [(Former.ready, BayMode.ready), (.unlabelled, .unlabelled), (.damaged, .damaged), (.resting, .resting)] →
        ((∀ o ∈ s.recs, isEject o = true → o.bay = r.bay → o.state ≠ .ending → o.seq = r.seq) →
          ((cancelRec r s).mechOf r.bay).mode = back) ∧
        ((∃ o ∈ s.recs, o.kind = .eject true ∧ o.bay = r.bay ∧ o.state ≠ .ending ∧ o.seq ≠ r.seq) →
          ((cancelRec r s).mechOf r.bay).mode = .ejecting .forced former) ∧
        ((∃ o ∈ s.recs, o.kind = .eject false ∧ o.bay = r.bay ∧ o.state ≠ .ending ∧ o.seq ≠ r.seq) →
          (∀ o ∈ s.recs, o.kind = .eject true → o.bay = r.bay → o.state ≠ .ending → o.seq = r.seq) →
          ((cancelRec r s).mechOf r.bay).mode = .ejecting .normal former)) ∧
      (r.state ≠ .waiting → cancelRec r s =
        { s with recs := s.recs.map fun y => if y.seq = r.seq then { y with endCause := some .cancelled } else y })) ∧
    ∀ (r o : Rec) (s : State), seqLaw s → r ∈ s.recs → o ∈ s.recs → r.endCause = none → r.state ≠ .ending →
      o.endCause = none → o.state ≠ .ending →
      (r.kind = .write ∧ o.kind = .mirrorCopy ∧ o.seq ∈ r.partners) ∨
        (r.kind = .read ∧ o.kind = .fallbackRead ∧ r.seq ∈ o.partners) →
      ∃ x : Rec, (cancelRec r s).rec? o.seq = some x ∧ x.endCause = some .cancelled ∧
        x.state = if o.state = .active ∧ ownPassInFlight s o = true then o.state else .ending) ∧
    (∀ (q : Nat) (r : Rec) (c c' : Sched) (s t : State), seqLaw s → s.rec? q = some r → r.state ≠ .ending →
      t = enterEnding q s → c = s.schedOf (schedBay r) → c' = t.schedOf (schedBay r) →
      (∃ u : Rec, t.rec? q = some u ∧ u.state = .ending ∧ u.stalled = false ∧ u.endCause = r.endCause ∧
        u.kind = r.kind ∧ u.sectors.map Sector.progress = r.sectors.map Sector.progress) ∧
      (c.active = some q → c'.active = none ∧ c'.triggered = true) ∧
      (c.active ≠ some q → q ∈ c.stack → q ∉ c'.stack ∧ c'.triggered = true ∧
        (c'.stack = [] → c'.mode = c.modeSet)) ∧
      (r.kind ≠ .read ∨ r.endCause = none →
        c'.active = (if c.active = some q then none else c.active) ∧
          c'.stack = if c.active = some q then c.stack else c.stack.filter fun x => decide (x ≠ q)) ∧
      (r.kind ≠ .read → t.slots = s.slots.map (dropFrom (.record q))) ∧
      (r.kind = .read → r.endCause = none → t.slots = s.slots) ∧
      (r.kind = .read → r.endCause ≠ none →
        (∀ (i j : Nat) (x : Sector) (y : Slot), r.queued ≤ i → i < r.count → r.sectors[i]? = some x → x.slot = some j →
          t.slots[j]? = some y → Holder.record q ∉ y.holders) ∧
        ∀ (j : Nat) (y : Slot), s.slots[j]? = some y → Holder.record q ∈ y.holders →
          (∀ (i : Nat) (x : Sector), r.queued ≤ i → i < r.count → r.sectors[i]? = some x → x.slot ≠ some j) →
          ∃ z : Slot, t.slots[j]? = some z ∧ Holder.record q ∈ z.holders ∧ z.content = y.content) ∧
      (freeCount s < freeCount t → (t.schedOf .A).triggered = true ∧ (t.schedOf .B).triggered = true)) ∧
    ∀ (h : Holder) (hs : List Holder) (d : Option Data),
      ((∀ x ∈ hs, x = h) → dropFrom h (.held hs d) = .free) ∧
        ((∃ x ∈ hs, x ≠ h) → dropFrom h (.held hs d) = .held (hs.filter fun x => decide (x ≠ h)) d) ∧
        dropFrom h .free = .free ∧ dropFrom h .ring = .ring

/-- With the reset line released, a QUERY appends one STATUS of its scope, as the state stands, and changes nothing else
before the next frame is selected; one that names no bay is refused BAD_FIELD, and one that names no record of its
channel NO_SUCH_TAG. The STATUS of a bay gives its state, flag, spindle, head and zones, and its label in READY,
RESTING and WAKING alone. It gives besides the bay's record count, timer, modes, pass in flight, active record,
stack, current level, last decision, flush count and map; that of an operation its fields, eligibility, hold, stall,
progress, arrived data, slots held, relocations, partners and result; that of the stream its items while it is not
CLOSED and its counters; that of the mirror its items, the copies and fallbacks in the table, and a present step's
phase and state. That of the device gives the free, ring and held slots and those with two holders, the link-read
holdings and the cap, the records and link records in use, the number in each state and of each internal kind, the
deferred creations, every setting with each bay's mode set, the slice cursor, the replies queued, the kinds and bays
of the pending reports, and the hold of R177. That a pass in flight left by a controller reset is shown with the
owner discarded is the model's choice (log entry 46): R75 and R18 name a record or the feed alone. That the record
count of a bay counts a BUILD_STEP by its bay, the secondary, is the model's reading (log entry 19). (R18, R26, R72,
R126, R158, R180, R75, R90, R111, R157, R37, R177) -/
def Obligations.QueriesAnswered : Prop :=
  ((∀ (ch : Fin 4) (tag target : Fin 256) (b : Bay) (s : State), s.link.resetLine = false →
      exec (.queryDevice ch tag) s = .next (selectNext (reply ch tag (.status (.device (deviceStatus s))) none s)) ∧
        exec (.queryBay ch tag (some b)) s = .next (selectNext (reply ch tag (.status (.bay (bayStatus s b))) none s)) ∧
        exec (.queryBay ch tag none) s = .next (selectNext (reply ch tag (.refuse .badField) none s)) ∧
        (∀ r : Rec, s.linkRec? ch target = some r → exec (.queryOperation ch tag target) s =
          .next (selectNext (reply ch tag (.status (.operation (operationStatus s r))) none s))) ∧
        (s.linkRec? ch target = none → exec (.queryOperation ch tag target) s =
          .next (selectNext (reply ch tag (.refuse .noSuchTag) none s))) ∧
        exec (.queryStream ch tag) s = .next (selectNext (reply ch tag (.status (.stream (streamStatus s))) none s)) ∧
        exec (.queryMirror ch tag) s = .next (selectNext (reply ch tag (.status (.mirror (mirrorStatus s))) none s))) ∧
    (∀ (r : Rec) (s : State), ∃ x : OperationStatus, x = operationStatus s r ∧
      x.kind = r.kind.name ∧ x.bay = r.bay ∧ x.level = r.level ∧ x.first = r.first ∧ x.count = r.count ∧ x.state = r.state ∧
        x.endCause = r.endCause ∧ x.stalled = r.stalled ∧ x.queued = r.queued ∧ x.round = r.round ∧
        (x.eligible = true ↔ r.state = .waiting ∧ isHeld s r = false ∧ canStartRec s r = true) ∧
        (x.held = true ↔ r.state = .waiting ∧ isHeld s r = true) ∧
        x.progress = r.sectors.map (fun y => (y.progress, y.attempts)) ∧
        (∀ i : Nat, i ∈ x.arrived ↔ ∃ y : Sector, r.sectors[i]? = some y ∧ y.arrived = true) ∧
        x.slots = (s.slots.filter fun y => decide (Holder.record r.seq ∈ y.holders)).length ∧
        x.relocations = r.relocations.map (fun y => (r.first + y.index, y.tried)) ∧
        x.partners = (r.partners.filterMap s.rec?).map recordStatus ∧
        x.relocates = (s.recs.filter fun o => isRelocate o && decide (r.seq ∈ o.partners)).map recordStatus ∧
        x.result = doneOf r) ∧
    (∀ s : State, ∃ x : StreamStatus, x = streamStatus s ∧ x.tally = s.tally ∧
      x.fill = [s.port.fillSpoiled.toNat, s.port.fillIdle.toNat, s.port.fillNotRunning.toNat] ∧
      x.ignored = [s.port.ignoredAccept.toNat, s.port.ignoredRepeat.toNat] ∧ (s.stream = none → x.opened = none) ∧
      ∀ t : Stream, s.stream = some t → ∃ y : OpenStatus, x.opened = some y ∧ y.phase = t.phase ∧ y.bay = t.bay ∧
        y.ring = t.ring ∧ y.line = t.line ∧ y.pace = t.pace ∧ y.marks = t.marks ∧ y.bands = t.bands ∧
        y.nextBand = t.nextBand ∧ y.lowArmed = t.lowArmed ∧ y.reserved = t.reserved ∧ y.retained = retained t ∧
        y.unsent = (t.segments.map fun g => g.bytes.length - g.sent).sum ∧
        y.free = t.ring * 1024 - (y.retained + y.unsent + y.reserved) ∧
        y.segments = t.segments.map (fun g => (g.band, g.bytes.length, g.sent)) ∧ y.ready = s.port.ready ∧
        y.feedInFlight = feedInFlight s t.bay ∧
        y.feedAt = (t.bands.find? fun z => decide (z.fetched < (z.length + 1023) / 1024)).map (fun z => (z.number, z.fetched)) ∧
        (t.phase = .running → y.locked = some (decide (y.unsent < t.marks.low * 1024)) ∧
          y.budget = some (min 65535 (y.unsent * 256 / (t.line * t.pace)))) ∧
        (t.phase ≠ .running → y.locked = none ∧ y.budget = none)) ∧
    (∀ s : State, ∃ x : MirrorStatus, x = mirrorStatus s ∧ x.mirror = s.mirror ∧
      x.copies = (s.recs.filter fun r => decide (r.kind = .mirrorCopy)).length ∧
      x.fallbacks = (s.recs.filter fun r => decide (r.kind = .fallbackRead)).length ∧
      (∀ (p : Bay) (c g : Nat) (r : Rec), s.mirror = .paired p c g (.building .present) → s.recs.find? isStep = some r →
        x.step = some (r.writePhase, r.state)) ∧
      ((∀ (p : Bay) (c g : Nat), s.mirror ≠ .paired p c g (.building .present)) → x.step = none)) ∧
    (∀ (b : Bay) (s : State), ∃ x : BayStatus, x = bayStatus s b ∧
      x.records = (s.recs.filter fun r => decide (r.bay = b)).length ∧ x.timerRunning = (s.mechOf b).timer.isSome ∧
        x.spinDown = s.settings.spinDown.get b ∧ x.modeSet = (s.schedOf b).modeSet ∧
        x.modeInEffect = (s.schedOf b).mode ∧ x.last = (s.schedOf b).last ∧
        x.active = ((s.schedOf b).active.bind s.rec?).map recordStatus ∧
        x.stack = ((s.schedOf b).stack.filterMap s.rec?).map recordStatus ∧
        ((s.schedOf b).active = none → (s.schedOf b).stack = [] → x.level = 8) ∧
        (∀ (q : Nat) (r : Rec), (s.schedOf b).active = some q → s.rec? q = some r → x.level = r.level) ∧
        (∀ (q : Nat) (qs : List Nat) (r : Rec), (s.schedOf b).active = none → (s.schedOf b).stack = q :: qs →
          s.rec? q = some r → x.level = r.level) ∧
        ((s.schedOf b).pass = none → x.pass = none) ∧
        (∀ p : Pass, (s.schedOf b).pass = some p → ∃ y : PassStatus, x.pass = some y ∧ y.action = p.action ∧
          y.track = p.track ∧ y.first = p.first ∧ y.count = p.items.length ∧
          (∀ n : Nat, p.owner = .feed n → y.owner = .feed) ∧ (p.owner = .discarded → y.owner = .discarded) ∧
          ∀ (q : Nat) (r : Rec), p.owner = .record q → s.rec? q = some r → y.owner = .record r.kind.name r.link) ∧
        ((s.mechOf b).map = none → x.map = none ∧ x.labelFlushCount = none) ∧
        ∀ m : DefectMap, (s.mechOf b).map = some m →
          x.map = some ⟨m.entries.length, m.cursor, 1088 - m.cursor, m.flushCount, m.dirty, m.pending, m.flushing.isSome⟩ ∧
            ((s.mechOf b).mode = .ready ∨ (s.mechOf b).mode = .resting ∨ (s.mechOf b).mode = .waking →
              x.labelFlushCount = some m.flushCount)) ∧
    ∀ (b : Bay) (s : State),
      (bayStatus s b).mode = (s.mechOf b).mode ∧ (bayStatus s b).inhibit = (s.mechOf b).inhibit ∧
        (bayStatus s b).spindle = (s.mechOf b).spindle ∧ (bayStatus s b).head = (s.schedOf b).head ∧
        (bayStatus s b).zones = (s.mechOf b).zones ∧
        ((s.mechOf b).mode = .ready ∨ (s.mechOf b).mode = .resting ∨ (s.mechOf b).mode = .waking →
          (bayStatus s b).label = (s.mechOf b).label) ∧
        ((s.mechOf b).mode ≠ .ready → (s.mechOf b).mode ≠ .resting → (s.mechOf b).mode ≠ .waking →
          (bayStatus s b).label = none)) ∧
    ∀ s : State, ∃ x : DeviceStatus, x = deviceStatus s ∧
      x.free = (s.slots.filter fun y => decide (y = .free)).length ∧
      x.ring = (s.slots.filter fun y => decide (y = .ring)).length ∧
      x.held = (s.slots.filter fun y => decide (y ≠ .free) && decide (y ≠ .ring)).length ∧
      x.heldTwo = (s.slots.filter fun y => decide (y.holders.length = 2)).length ∧
      x.holdings = (s.slots.filter fun y =>
        s.recs.any fun r => decide (r.kind = .read) && decide (Holder.record r.seq ∈ y.holders)).length ∧
      x.readCap = s.settings.readCap ∧ x.records = s.recs.length ∧
      x.links = (s.recs.filter fun r => r.link.isSome).length ∧
      x.waiting = (s.recs.filter fun r => decide (r.state = .waiting)).length ∧
      x.active = (s.recs.filter fun r => decide (r.state = .active)).length ∧
      x.suspended = (s.recs.filter fun r => decide (r.state = .suspended)).length ∧
      x.ending = (s.recs.filter fun r => decide (r.state = .ending)).length ∧
      x.copies = (s.recs.filter fun r => decide (r.kind = .mirrorCopy)).length ∧
      x.steps = (s.recs.filter fun r => decide (r.kind = .buildStep)).length ∧
      x.fallbacks = (s.recs.filter fun r => decide (r.kind = .fallbackRead)).length ∧
      x.relocates =
        (s.recs.filter fun r => decide (r.kind = .relocate .weak) || decide (r.kind = .relocate .repair)).length ∧
      x.flushes = (s.recs.filter fun r => decide (r.kind = .mapFlush)).length ∧
      (∀ b : Bay, x.deferredFlush.get b = true ↔ ∃ m : DefectMap, (s.mechOf b).map = some m ∧ m.pending = .deferred) ∧
      (x.deferredStep = true ↔ ∃ (p : Bay) (c g : Nat), s.mirror = .paired p c g (.building .deferred)) ∧
      x.settings.settings = s.settings ∧ (∀ b : Bay, x.settings.modes.get b = (s.schedOf b).modeSet) ∧
      x.cursor = s.link.cursor ∧ x.replies = s.link.replies.length ∧
      x.reports = s.link.reports.map (fun r => (r.body.kind, r.bay)) ∧
      (x.hold = true ↔ s.link.assembly = .idle ∧ 64 ≤ plainReplies s.link)

/-- With the reset line released, a SETUP whose pattern, when present, has 8 slices, and whose slices, modes and
relocation settings name values, takes effect and is answered by a STATUS with every setting in effect: read cap
clamped to 1 to 64, margin and spin-down times to 0 to 255, every absent field as before, each bay's mode set as
given. It changes only settings, timers, modes and triggers. A value that names none of its range is refused
BAD_FIELD, a pattern of another length FRAME_ERROR. That a row with a pattern of another length is answered as its
frame would be is the model's reading of R178 and R179 (log entry 34). A mode newly set is in effect at once when it
is NESTED or the stack is empty, and waits otherwise. That the STATUS of a SETUP is a form of its own beside the
five scopes is the model's choice (log entry 42). (R88, R181, R182, R178, R179) -/
def Obligations.SetupTaken : Prop :=
  (∀ (ch : Fin 4) (tag : Fin 256) (f : SetupFields) (s : State), s.link.resetLine = false →
      (patternSuits f.pattern = true → badSetup f = false →
        exec (.setup ch tag f) s = .next (conclude
          (reply ch tag (.status (.setup (settingsStatus (acceptSetup f s)))) none (acceptSetup f s)))) ∧
        (patternSuits f.pattern = true → badSetup f = true →
          exec (.setup ch tag f) s = .next (selectNext (reply ch tag (.refuse .badField) none s))) ∧
        (patternSuits f.pattern = false →
          exec (.setup ch tag f) s = .next (selectNext (reply ch tag (.refuse .frameError) none s)))) ∧
    (∀ (f : SetupFields) (s : State), badSetup f = false →
      (f.readCap = none → (acceptSetup f s).settings.readCap = s.settings.readCap) ∧
        (∀ n : Nat, f.readCap = some n → (acceptSetup f s).settings.readCap = max 1 (min n 64)) ∧
        (f.margin = none → (acceptSetup f s).settings.margin = s.settings.margin) ∧
        (∀ n : Nat, f.margin = some n → (acceptSetup f s).settings.margin = min n 255) ∧
        (f.pattern = none → (acceptSetup f s).settings.pattern = s.settings.pattern) ∧
        (∀ p : List (Option Slice), f.pattern = some p → (acceptSetup f s).settings.pattern.map some = p) ∧
        ∀ b : Bay,
          (f.spinDown.get b = none → (acceptSetup f s).settings.spinDown.get b = s.settings.spinDown.get b) ∧
          (∀ n : Nat, f.spinDown.get b = some n → (acceptSetup f s).settings.spinDown.get b = min n 255) ∧
          (f.weak.get b = none → (acceptSetup f s).settings.weak.get b = s.settings.weak.get b) ∧
          (∀ x : Bool, f.weak.get b = some (some x) → (acceptSetup f s).settings.weak.get b = x) ∧
          (f.mode.get b = none → ((acceptSetup f s).schedOf b).modeSet = (s.schedOf b).modeSet) ∧
          ∀ x : PreemptionMode, f.mode.get b = some (some x) →
            ((acceptSetup f s).schedOf b).modeSet = x ∧
              (x ≠ (s.schedOf b).modeSet → ((acceptSetup f s).schedOf b).mode =
                if x = .nested ∨ (s.schedOf b).stack = [] then x else (s.schedOf b).mode)) ∧
    ∀ (f : SetupFields) (s : State),
      acceptSetup f s =
          { s with
            settings := (acceptSetup f s).settings
            mech := (acceptSetup f s).mech
            sched := (acceptSetup f s).sched } ∧
        ∀ b : Bay,
          (acceptSetup f s).mechOf b = { s.mechOf b with timer := ((acceptSetup f s).mechOf b).timer } ∧
            (acceptSetup f s).schedOf b =
              { s.schedOf b with
                modeSet := ((acceptSetup f s).schedOf b).modeSet
                mode := ((acceptSetup f s).schedOf b).mode
                triggered := ((acceptSetup f s).schedOf b).triggered }

/-- With the reset line released, a BIND that no check of R159 refuses answers DONE OK and puts the mirror in BUILDING
with cursor and gaps 0, its first step asked for, and wakes both bays; one that names no bay is refused BAD_FIELD,
else with the code of its first failing check. An UNBIND answers DONE OK and leaves the mirror UNBOUND; one in
UNBOUND has no further effect. Where the records stand in the order of their creation, the unbinding leaves every
BUILD_STEP and every MIRROR_COPY that was WAITING ended or with an end cause. The checks are, in order: the mirror
BUILDING or BOUND (MIRROR_STATE); a bay not READY or RESTING (MIRROR_STATE); a PREPARE on a bay (BAY_NOT_READY); a
bay write-inhibited (WRITE_INHIBITED); the stream bound to the secondary (MIRROR_STATE); a link WRITE or an
unfinished MIRROR_COPY on the secondary (MIRROR_STATE). An unbinding by an ejection or a failed spin-up raises
MIRROR_STATE with UNBOUND and the build cursor for the primary's bay, and nothing else on the link; one by an UNBIND
raises nothing. (R159, R165, R168) -/
def Obligations.MirrorRequests : Prop :=
  ((∀ (ch : Fin 4) (tag : Fin 256) (p : Bay) (s : State), s.link.resetLine = false → mirrorPrimary s = none →
      ((s.mechOf p).mode = .ready ∨ (s.mechOf p).mode = .resting) →
      ((s.mechOf p.other).mode = .ready ∨ (s.mechOf p.other).mode = .resting) →
      (∀ r ∈ s.recs, isPrepare r = false) → (s.mechOf p).inhibit = false → (s.mechOf p.other).inhibit = false →
      streamOn s p.other = false →
      (∀ r ∈ s.recs, r.bay = p.other → isWrite r = false ∧ (isCopy r = true → r.state = .ending)) →
      exec (.bind ch tag (some p)) s = .next (conclude (reply ch tag (.done (plainDone 0)) none
        (wake p.other (wake p { s with mirror := .paired p 0 0 (.building .deferred) }))))) ∧
    (∀ (ch : Fin 4) (tag : Fin 256) (s : State), s.link.resetLine = false →
      exec (.bind ch tag none) s = .next (selectNext (reply ch tag (.refuse .badField) none s))) ∧
    (∀ (ch : Fin 4) (tag : Fin 256) (p : Bay) (c : Code) (s : State), s.link.resetLine = false →
      firstCode (bindChecks s p) = some c →
      exec (.bind ch tag (some p)) s = .next (selectNext (reply ch tag (.refuse c) none s))) ∧
    (∀ (ch : Fin 4) (tag : Fin 256) (p : Bay) (s : State), s.link.resetLine = false → ∀ c : Code,
      (if mirrorPrimary s ≠ none then some Code.mirrorState
       else if ((s.mechOf p).mode ≠ .ready ∧ (s.mechOf p).mode ≠ .resting) ∨
          ((s.mechOf p.other).mode ≠ .ready ∧ (s.mechOf p.other).mode ≠ .resting) then some .mirrorState
       else if ∃ r ∈ s.recs, isPrepare r = true then some .bayNotReady
       else if (s.mechOf p).inhibit = true ∨ (s.mechOf p.other).inhibit = true then some .writeInhibited
       else if streamOn s p.other = true then some .mirrorState
       else if ∃ r ∈ s.recs, r.bay = p.other ∧ (r.kind = .write ∨ (r.kind = .mirrorCopy ∧ r.state ≠ .ending))
          then some .mirrorState
       else none) = some c →
      exec (.bind ch tag (some p)) s = .next (selectNext (reply ch tag (.refuse c) none s))) ∧
    (∀ (ch : Fin 4) (tag : Fin 256) (s : State), s.link.resetLine = false →
      exec (.unbind ch tag) s = .next (conclude (reply ch tag (.done (plainDone 0)) none (unbindMirror false s)))) ∧
    (∀ (x : Bool) (s : State), s.mirror = .unbound → unbindMirror x s = s) ∧
    ∀ (x : Bool) (s : State), (unbindMirror x s).mirror = .unbound ∧
      (seqLaw s → s.mirror ≠ .unbound → ∀ r ∈ (unbindMirror x s).recs,
        (isStep r = true → r.state = .ending ∨ r.endCause.isSome = true) ∧ (isCopy r = true → r.state ≠ .waiting ∨ r.endCause.isSome = true))) ∧
    ∀ (p : Bay) (c g : Nat) (ph : MirrorPhase) (s : State), s.mirror = .paired p c g ph →
      (unbindMirror false s).link = s.link ∧
        (unbindMirror true s).link =
          { s.link with reports := putReport s.link.reports ⟨p, .mirrorState .unbound c⟩ } ∧
        ⟨p, .mirrorState .unbound c⟩ ∈ (unbindMirror true s).link.reports

/-- With the reset line released and the stream CLOSED, an OPEN_STREAM whose fields are in range with L × P at most
196,608, on a bay READY or RESTING with no PREPARE on it, not the secondary of a BUILDING or BOUND mirror, with R
slots free, takes R free slots as ring slots and opens the stream: empty ring and list, next band number 1, low
report armed, counters 0, given marks clamped or the defaults, the port's line length L and its counters 0. The bay
is woken and triggered, and the answer is a STATUS of scope STREAM. Which free slots become ring slots, the
lowest-numbered, is the model's choice (log entry 10), and that the STATUS is taken before the triggered decision
the model's reading (log entry 24). With the reset line released, an OPEN_STREAM is refused, with nothing else
changed before the next frame, by the first that holds of: the stream is not CLOSED (STREAM_STATE); no bay named, or
R, L or P out of range (BAD_FIELD); L × P above 196,608 (RATE_TOO_HIGH); the bay EMPTY (BAY_EMPTY); the bay not
READY or RESTING, or a PREPARE on it (BAY_NOT_READY); the bay is the secondary of a BUILDING or BOUND mirror
(MIRROR_STATE); fewer than R slots free (NO_BUFFER). With the reset line released, a SET_MARKS in CLOSED is refused
STREAM_STATE; else the clamped marks replace the old, the priming and arming tests are made, the bay is triggered
and a STATUS answers. For a ring of 16 to 192 the clamped high lies in 2 to R, low in 1 to high - 1, prime in low to
high; each is the value given when that lies in its range, its range's lower limit when below it, the upper when
above. That the STATUS shows the stream after these tests and before the decision they trigger is the model's
reading (log entry 24). (R24, R38, R45, R128, R129, R137, R138, R143) -/
def Obligations.StreamOpenedAndMarked : Prop :=
  ((∀ (ch : Fin 4) (tag : Fin 256) (b : Bay) (ring line pace : Nat) (marks : Option Marks) (s : State),
    s.link.resetLine = false → s.stream = none → 16 ≤ ring → ring ≤ 192 → 16 ≤ line → line ≤ 8192 → 1 ≤ pace →
    pace ≤ 4096 → line * pace ≤ 196608 → ((s.mechOf b).mode = .ready ∨ (s.mechOf b).mode = .resting) →
    (∀ r ∈ s.recs, isPrepare r = true → r.bay ≠ b) → mirrorPrimary s ≠ some b.other → ring ≤ freeCount s →
      ∃ t : State,
        t = trigger b (wake b
          { s with
            slots := ((freeIds s).take ring).foldl (fun acc j => acc.set j .ring) s.slots
            stream := some
              { phase := .opened
                bay := b
                ring := ring
                line := line
                pace := pace
                marks := match marks with
                  | some m => clampMarks ring m
                  | none => ⟨max 1 (ring / 4), ring - 2, ring - 2⟩
                segments := []
                reserved := 0
                bands := []
                nextBand := 1
                appended := 0
                lowArmed := true }
            tally := ⟨0, 0, 0, 0, 0⟩
            port := ⟨false, line, 0, 0, 0, 0, 0, s.port.lastLine⟩ }) ∧
        exec (.openStream ch tag (some b) ring line pace marks) s =
          .next (conclude (reply ch tag (.status (.stream (streamStatus t))) none t))) ∧
    (∀ (ch : Fin 4) (tag : Fin 256) (bay : Option Bay) (ring line pace : Nat) (marks : Option Marks) (s : State),
    s.link.resetLine = false →
    ∀ c : Code,
      (if s.stream ≠ none then some Code.streamState
       else if bay = none ∨ ring < 16 ∨ 192 < ring ∨ line < 16 ∨ 8192 < line ∨ pace < 1 ∨ 4096 < pace then some .badField
       else if 196608 < line * pace then some .rateTooHigh
       else if ∃ b : Bay, bay = some b ∧ (s.mechOf b).mode = .empty then some .bayEmpty
       else if ∃ b : Bay, bay = some b ∧ (((s.mechOf b).mode ≠ .ready ∧ (s.mechOf b).mode ≠ .resting) ∨
          ∃ r ∈ s.recs, isPrepare r = true ∧ r.bay = b) then some .bayNotReady
       else if ∃ b : Bay, bay = some b ∧ mirrorPrimary s = some b.other then some .mirrorState
       else if freeCount s < ring then some .noBuffer
       else none) = some c →
      exec (.openStream ch tag bay ring line pace marks) s = .next (selectNext (reply ch tag (.refuse c) none s)))) ∧
    ((∀ (ch : Fin 4) (tag : Fin 256) (m : Marks) (s : State), s.link.resetLine = false → s.stream = none →
      exec (.setMarks ch tag m) s = .next (selectNext (reply ch tag (.refuse .streamState) none s))) ∧
    (∀ (ch : Fin 4) (tag : Fin 256) (m : Marks) (x : Stream) (s : State), s.link.resetLine = false → s.stream = some x →
      ∃ t : State,
        t = trigger x.bay (armingTest (primingTest { s with stream := some { x with marks := clampMarks x.ring m } })) ∧
        exec (.setMarks ch tag m) s = .next (conclude (reply ch tag (.status (.stream (streamStatus t))) none t))) ∧
    ∀ (ring : Nat) (m : Marks), 16 ≤ ring → ring ≤ 192 →
      ((m.high < 2 → (clampMarks ring m).high = 2) ∧ (ring < m.high → (clampMarks ring m).high = ring) ∧
          (2 ≤ m.high → m.high ≤ ring → (clampMarks ring m).high = m.high)) ∧
        ((m.low < 1 → (clampMarks ring m).low = 1) ∧
          ((clampMarks ring m).high - 1 < m.low → (clampMarks ring m).low = (clampMarks ring m).high - 1) ∧
          (1 ≤ m.low → m.low ≤ (clampMarks ring m).high - 1 → (clampMarks ring m).low = m.low)) ∧
        (m.prime < (clampMarks ring m).low → (clampMarks ring m).prime = (clampMarks ring m).low) ∧
        ((clampMarks ring m).high < m.prime → (clampMarks ring m).prime = (clampMarks ring m).high) ∧
        ((clampMarks ring m).low ≤ m.prime → m.prime ≤ (clampMarks ring m).high → (clampMarks ring m).prime = m.prime))

/-- From every state whose records stand in the order of their creation and have levels 0 to 7, and in which each bay's
active record is an ACTIVE record of its scheduler, its stack holds SUSPENDED ones, at most 7, the levels rise
strictly from the active record and the stack's top down, and the stack is empty while RUN_TO_END is in effect, a
step leaves all this so, while the counter of 48 bits is not within 4,096 of its end (R52 says that it never reaches
it). (R51, R52, R84, R85, R86, R87, R88) -/
def Obligations.StackLawKept : Prop :=
  ∀ s t : State, stackLaw s → s.counter.toNat + 4096 ≤ 2 ^ 48 → step s = .next t → stackLaw t

/-- With the reset line released, an APPEND_BAND is refused STREAM_STATE in CLOSED, and else with the code of its first
failing check. One whose length is a positive multiple of L at most (R - 1) × 1,024, whose sectors lie in the user
area, on a bay READY or WAKING, that every zone it touches lets its channel read, with no unfinished WRITE or
MIRROR_COPY of the bay over it and fewer than 32 bands in the list, appends its band, QUEUED and with nothing
fetched, sent or repeated, and answers DONE with its band number; the next number is one more, 1 after 65,535. The
checks after the first are, in order: a length of 0, not a multiple of L or above (R - 1) × 1,024 (BAND_SHAPE); a
sector beyond the user area (BAD_FIELD); the bay not READY or WAKING (BAY_NOT_READY); a zone that does not let the
channel read (DENIED); an unfinished WRITE or MIRROR_COPY of the bay over the extent (OVERLAP_WRITE); 32 bands in
the list (BAND_LIST_FULL). The band's serial is the model's own (log entry 35). (R127, R131, R132, R172) -/
def Obligations.AppendTaken : Prop :=
  (∀ (ch : Fin 4) (tag : Fin 256) (first length : Nat) (s : State), s.link.resetLine = false → s.stream = none →
      exec (.appendBand ch tag first length) s = .next (selectNext (reply ch tag (.refuse .streamState) none s))) ∧
    (∀ (ch : Fin 4) (tag : Fin 256) (first length : Nat) (t : Stream) (c : Code) (s : State), s.link.resetLine = false →
      s.stream = some t → firstCode (bandChecks s t ch first length) = some c →
      exec (.appendBand ch tag first length) s = .next (selectNext (reply ch tag (.refuse c) none s))) ∧
    (∀ (ch : Fin 4) (tag : Fin 256) (first length : Nat) (t : Stream) (s : State), s.link.resetLine = false →
      s.stream = some t → ∀ c : Code,
      (if length = 0 ∨ length % t.line ≠ 0 ∨ (t.ring - 1) * 1024 < length then some Code.bandShape
       else if 277422 < first ∨ 277423 < first + (length + 1023) / 1024 then some .badField
       else if (s.mechOf t.bay).mode ≠ .ready ∧ (s.mechOf t.bay).mode ≠ .waking then some .bayNotReady
       else if ∃ z ∈ (s.mechOf t.bay).zones.getD [],
          z.first < first + (length + 1023) / 1024 ∧ first ≤ z.last ∧ z.readMask.getLsbD ch = false then some .denied
       else if ∃ r ∈ s.recs, (r.kind = .write ∨ r.kind = .mirrorCopy) ∧ r.state ≠ .ending ∧ r.bay = t.bay ∧
          r.first < first + (length + 1023) / 1024 ∧ first < r.first + r.count then some .overlapWrite
       else if 32 ≤ t.bands.length then some .bandListFull
       else none) = some c →
      exec (.appendBand ch tag first length) s = .next (selectNext (reply ch tag (.refuse c) none s))) ∧
    ∀ (ch : Fin 4) (tag : Fin 256) (first length : Nat) (t : Stream) (s : State), s.link.resetLine = false →
      s.stream = some t → 1 ≤ length → t.line ∣ length → length ≤ (t.ring - 1) * 1024 →
      first + (length + 1023) / 1024 ≤ 277423 → ((s.mechOf t.bay).mode = .ready ∨ (s.mechOf t.bay).mode = .waking) →
      (∀ z ∈ (s.mechOf t.bay).zones.getD [], z.first < first + (length + 1023) / 1024 → first ≤ z.last →
        z.readMask.getLsbD ch = true) →
      (∀ r ∈ s.recs, isWrite r = true ∨ isCopy r = true → r.state ≠ .ending → r.bay = t.bay →
        ¬(r.first < first + (length + 1023) / 1024 ∧ first < r.first + r.count)) →
      t.bands.length < 32 →
      exec (.appendBand ch tag first length) s = .next (conclude (reply ch tag (.done (plainDone t.nextBand)) none
        { s with
          stream := some
            { t with
              bands := t.bands ++ [⟨t.nextBand, t.appended, first, length, 0, 0, 0, .queued, false⟩]
              appended := t.appended + 1
              nextBand := if t.nextBand = 65535 then 1 else t.nextBand + 1 } }))

/-- With the reset line released: START_STREAM in OPEN or HALTED with a band in the list on a bay READY or WAKING
answers DONE OK and enters PRIMING with the ready line low, in HALTED after treating the oldest band, and the
priming test is made, with the arming test after a rewind; it is refused STREAM_STATE in the other states or with an
empty list, and BAY_NOT_READY on another bay state. STOP_STREAM in PRIMING or RUNNING answers DONE OK, enters HALTED
with cause STOP, drops the ready line, triggers the bay and raises STREAM_HALTED with the oldest band's number;
elsewhere it is refused STREAM_STATE. With the reset line released: FLUSH_STREAM in HALTED, or in OPEN with a band
in the list, answers DONE OK and empties list and ring, arms the low report and leaves the stream OPEN; in OPEN with
an empty list it has no effect beyond its DONE (log entry 34). CLOSE_STREAM in OPEN or HALTED with no feed pass in
flight answers DONE OK, closes the stream and returns its ring slots, keeping the counters; with a feed pass in
flight it is refused STREAM_STATE. Both are refused STREAM_STATE in CLOSED, PRIMING and RUNNING. (R45, R127, R136,
R137, R138, R144, R145, R146) -/
def Obligations.StreamRequestsTaken : Prop :=
  (∀ (ch : Fin 4) (tag : Fin 256) (s : State), s.link.resetLine = false →
    (s.stream = none →
        exec (.startStream ch tag) s = .next (selectNext (reply ch tag (.refuse .streamState) none s)) ∧
          exec (.stopStream ch tag) s = .next (selectNext (reply ch tag (.refuse .streamState) none s))) ∧
      ∀ t : Stream, s.stream = some t →
        (t.phase = .opened → t.bands ≠ [] → ((s.mechOf t.bay).mode = .ready ∨ (s.mechOf t.bay).mode = .waking) →
          exec (.startStream ch tag) s = .next (conclude (reply ch tag (.done (plainDone 0)) none (primingTest (trigger t.bay
            { s with stream := some { t with phase := .priming }, port := { s.port with ready := false } }))))) ∧
        (∀ c : HaltCause, t.phase = .halted c → t.bands ≠ [] →
          ((s.mechOf t.bay).mode = .ready ∨ (s.mechOf t.bay).mode = .waking) →
          ∃ u : State,
            u = primingTest (trigger t.bay
              { s with
                stream := some { treatOldest t with phase := .priming }
                port := { s.port with ready := false } }) ∧
            exec (.startStream ch tag) s = .next (conclude (reply ch tag (.done (plainDone 0)) none
              (if (t.bands.head?.map Band.state) = some .exposing then armingTest u else u)))) ∧
        (t.phase = .priming ∨ t.phase = .running ∨ t.bands = [] →
          exec (.startStream ch tag) s = .next (selectNext (reply ch tag (.refuse .streamState) none s))) ∧
        ((t.phase = .opened ∨ ∃ c : HaltCause, t.phase = .halted c) → t.bands ≠ [] →
          (s.mechOf t.bay).mode ≠ .ready → (s.mechOf t.bay).mode ≠ .waking →
          exec (.startStream ch tag) s = .next (selectNext (reply ch tag (.refuse .bayNotReady) none s))) ∧
        (t.phase = .priming ∨ t.phase = .running →
          exec (.stopStream ch tag) s = .next (conclude (reply ch tag (.done (plainDone 0)) none
            (raise t.bay (.streamHalted .stop ((t.bands.head?.map Band.number).getD 0)) (trigger t.bay
              { s with
                stream := some { t with phase := .halted .stop }
                port := { s.port with ready := false } }))))) ∧
        (t.phase = .opened ∨ (∃ c : HaltCause, t.phase = .halted c) →
          exec (.stopStream ch tag) s = .next (selectNext (reply ch tag (.refuse .streamState) none s)))) ∧
    (∀ (ch : Fin 4) (tag : Fin 256) (s : State), s.link.resetLine = false →
    (s.stream = none →
        exec (.flushStream ch tag) s = .next (selectNext (reply ch tag (.refuse .streamState) none s)) ∧
          exec (.closeStream ch tag) s = .next (selectNext (reply ch tag (.refuse .streamState) none s))) ∧
      ∀ t : Stream, s.stream = some t →
        (t.phase = .opened → t.bands = [] →
          exec (.flushStream ch tag) s = .next (conclude (reply ch tag (.done (plainDone 0)) none s))) ∧
        (t.phase = .opened → t.bands ≠ [] →
          exec (.flushStream ch tag) s = .next (conclude (reply ch tag (.done (plainDone 0)) none
            { s with stream := some { t with bands := [], segments := [], lowArmed := true } }))) ∧
        (∀ c : HaltCause, t.phase = .halted c →
          exec (.flushStream ch tag) s = .next (conclude (reply ch tag (.done (plainDone 0)) none (trigger t.bay
            { s with
              stream := some { t with phase := .opened, bands := [], segments := [], lowArmed := true }
              port := { s.port with ready := false } })))) ∧
        (t.phase = .priming ∨ t.phase = .running →
          exec (.flushStream ch tag) s = .next (selectNext (reply ch tag (.refuse .streamState) none s)) ∧
            exec (.closeStream ch tag) s = .next (selectNext (reply ch tag (.refuse .streamState) none s))) ∧
        ((t.phase = .opened ∨ ∃ c : HaltCause, t.phase = .halted c) → feedInFlight s t.bay = true →
          exec (.closeStream ch tag) s = .next (selectNext (reply ch tag (.refuse .streamState) none s))) ∧
        ((t.phase = .opened ∨ ∃ c : HaltCause, t.phase = .halted c) → feedInFlight s t.bay = false →
          ∃ u : State, exec (.closeStream ch tag) s = .next (conclude (reply ch tag (.done (plainDone 0)) none u)) ∧
            u.stream = none ∧ u.slots = s.slots.map (fun x => if x = .ring then .free else x) ∧
            u = { s with stream := u.stream, slots := u.slots, sched := u.sched } ∧
            ∀ b : Bay, u.schedOf b = { s.schedOf b with triggered := (u.schedOf b).triggered }))

/-- An EXPOSING oldest band is rewound: its retained bytes become unsent and its lines sent 0, with U risen by the
retained bytes when the ring's segments are of distinct bands; a SPOILED one has lines sent 0; any other is left as
it was. The rest of the list, the marks, the reserved bytes and the next number stay. Where the ring's segments are
of distinct bands and the oldest band's holds at least L unsent bytes, a data line lowers U by L, raises the
retained bytes by L, and leaves the free space as it was. (R130, R136, R139, R142) -/
def Obligations.RewindsAndLines : Prop :=
  ((∀ (x : Band) (xs : List Band) (t : Stream), t.bands = x :: xs → x.state = .exposing →
      treatOldest t =
        { t with
          bands := { x with sent := 0 } :: xs
          segments := t.segments.map fun g => if g.band = x.number then { g with sent := 0 } else g }) ∧
    (∀ (x : Band) (xs : List Band) (c : SpoilCause) (t : Stream), t.bands = x :: xs → x.state = .spoiled c →
      treatOldest t = { t with bands := { x with sent := 0 } :: xs }) ∧
    (∀ (x : Band) (xs : List Band) (t : Stream), t.bands = x :: xs → x.state ∈ [.queued, .fetching, .fetched] →
      treatOldest t = t) ∧
    ∀ (x : Band) (xs : List Band) (g : Segment) (t : Stream), t.bands = x :: xs → x.state = .exposing →
      (t.segments.map Segment.band).Nodup → segmentOf t x.number = some g → g.sent ≤ g.bytes.length →
      unsent (treatOldest t) = unsent t + retained t ∧ retained (treatOldest t) = 0 ∧
        freeSpace (treatOldest t) = freeSpace t) ∧
    (∀ (x : Band) (xs : List Band) (g : Segment) (t : Stream), t.bands = x :: xs → (t.segments.map Segment.band).Nodup →
    segmentOf t x.number = some g → t.line ≤ g.bytes.length - g.sent →
      unsent (lineLeaves x t) + t.line = unsent t ∧ retained (lineLeaves x t) = retained t + t.line ∧
        freeSpace (lineLeaves x t) = freeSpace t)

/-- While the stream is not RUNNING a line of zero bytes of the port's length is sent and counted NOT_RUNNING, and
nothing else changes. In RUNNING: with an empty list, or the oldest band's lines all sent, a fill line of L bytes
counted IDLE; for a SPOILED band with lines left one counted SPOILED and one line sent more; where its segment holds
L unsent bytes the next L of them, a line more, the band EXPOSING and the low report test; else an underrun: the
band SPOILED, its segment released, its sectors fetched set to its count, a fill line counted SPOILED, and the low
report test. While the stream is not RUNNING each is counted as ignored, and so in RUNNING is an accept with an
empty list or lines still to send, and a repeat of a band that is not EXPOSING. An accept taken raises BAND_DONE
with the band's number, releases its segment, takes it off the list and raises bands accepted; then a SPOILED band
halts the stream by its spoil cause with STREAM_HALTED, and the last band of the list ends it in OPEN with
STREAM_END. A repeat of an EXPOSING band used 0 or 1 times rewinds it, raises both counts, makes the arming test and
triggers the bay; a further one spoils the band, releases its segment and makes the low report test. (R138, R139,
R140, R141, R142, R143) -/
def Obligations.ImagesetterAnswered : Prop :=
  (∀ s : State,
    ((∀ t : Stream, s.stream = some t → t.phase ≠ .running) →
        exec .lineRequest s = .next
          { s with
            port := { s.port with
              fillNotRunning := s.port.fillNotRunning + 1
              lastLine := some (List.replicate s.port.line 0) } }) ∧
      ∀ t : Stream, s.stream = some t → t.phase = .running →
        (t.bands = [] ∨ (∃ x xs, t.bands = x :: xs ∧ x.length / t.line ≤ x.sent) →
          exec .lineRequest s = .next (conclude
            { s with
              port := { s.port with fillIdle := s.port.fillIdle + 1, lastLine := some (List.replicate t.line 0) } })) ∧
        ∀ (x : Band) (xs : List Band), t.bands = x :: xs → x.sent < x.length / t.line →
          (∀ c : SpoilCause, x.state = .spoiled c →
            exec .lineRequest s = .next (conclude
              { s with
                stream := some { t with bands := { x with sent := x.sent + 1 } :: xs }
                port := { s.port with
                  fillSpoiled := s.port.fillSpoiled + 1
                  lastLine := some (List.replicate t.line 0) } })) ∧
          (∀ g : Segment, (∀ c : SpoilCause, x.state ≠ .spoiled c) → segmentOf t x.number = some g →
            t.line ≤ g.bytes.length - g.sent →
            exec .lineRequest s = .next (conclude (lowTest
              { s with
                stream := some
                  { t with
                    bands := { x with sent := x.sent + 1, state := .exposing } :: xs
                    segments := t.segments.map fun y => if y.band = x.number then { y with sent := y.sent + t.line } else y }
                tally := { s.tally with linesSent := s.tally.linesSent + 1 }
                port := { s.port with lastLine := some ((g.bytes.drop g.sent).take t.line) } }))) ∧
          ((∀ c : SpoilCause, x.state ≠ .spoiled c) →
            (segmentOf t x.number = none ∨ ∃ g : Segment, segmentOf t x.number = some g ∧ g.bytes.length - g.sent < t.line) →
            exec .lineRequest s = .next (conclude (lowTest
              { s with
                stream := some
                  { t with
                    bands := { x with
                      sent := x.sent + 1
                      fetched := (x.length + 1023) / 1024
                      state := .spoiled .underrun } :: xs
                    segments := t.segments.filter fun y => decide (y.band ≠ x.number) }
                tally := { s.tally with underruns := s.tally.underruns + 1 }
                port := { s.port with
                  fillSpoiled := s.port.fillSpoiled + 1
                  lastLine := some (List.replicate t.line 0) } })))) ∧
    (∀ s : State,
    ((∀ t : Stream, s.stream = some t → t.phase ≠ .running) →
        exec .bandAccept s = .next { s with port := { s.port with ignoredAccept := s.port.ignoredAccept + 1 } } ∧
          exec .bandRepeat s = .next { s with port := { s.port with ignoredRepeat := s.port.ignoredRepeat + 1 } }) ∧
      ∀ t : Stream, s.stream = some t → t.phase = .running →
        (t.bands = [] ∨ (∃ x xs, t.bands = x :: xs ∧ x.sent < x.length / t.line) →
          exec .bandAccept s = .next { s with port := { s.port with ignoredAccept := s.port.ignoredAccept + 1 } }) ∧
        (t.bands = [] ∨ (∃ x xs, t.bands = x :: xs ∧ x.state ≠ .exposing) →
          exec .bandRepeat s = .next { s with port := { s.port with ignoredRepeat := s.port.ignoredRepeat + 1 } }) ∧
        ∀ (x : Band) (xs : List Band), t.bands = x :: xs →
          (x.length / t.line ≤ x.sent →
            ∃ u : State,
              u = raise t.bay (.bandDone x.number 1)
                { s with
                  stream := some
                    { t with bands := xs, segments := t.segments.filter fun y => decide (y.band ≠ x.number) }
                  tally := { s.tally with bandsAccepted := s.tally.bandsAccepted + 1 } } ∧
              (∀ c : SpoilCause, x.state = .spoiled c →
                exec .bandAccept s = .next (conclude (raise t.bay
                  (.streamHalted (match c with | .underrun => .underrun | .repeatLimit => .repeatLimit) x.number)
                  (setPhase (.halted (match c with | .underrun => .underrun | .repeatLimit => .repeatLimit)) u)))) ∧
              ((∀ c : SpoilCause, x.state ≠ .spoiled c) → xs = [] →
                exec .bandAccept s = .next (conclude (raise t.bay (.streamEnd x.number) (setPhase .opened u)))) ∧
              ((∀ c : SpoilCause, x.state ≠ .spoiled c) → xs ≠ [] → exec .bandAccept s = .next (conclude u))) ∧
          (x.state = .exposing → x.repeats < 2 →
            exec .bandRepeat s = .next (conclude (trigger t.bay (armingTest
              { s with
                stream := some
                  { t with
                    bands := { x with sent := 0, repeats := x.repeats + 1 } :: xs
                    segments := t.segments.map fun y => if y.band = x.number then { y with sent := 0 } else y }
                tally := { s.tally with repeats := s.tally.repeats + 1 } })))) ∧
          (x.state = .exposing → 2 ≤ x.repeats →
            exec .bandRepeat s = .next (conclude (lowTest
              { s with
                stream := some
                  { t with
                    bands := { x with
                      sent := 0
                      fetched := (x.length + 1023) / 1024
                      state := .spoiled .repeatLimit } :: xs
                    segments := t.segments.filter fun y => decide (y.band ≠ x.number) } }))))

/-- From every state that keeps the law of the suspension stacks, whose build steps are of 17 sectors from a multiple of
17, as the build cursor is one, and in which no two unfinished writes (link writes, copies, relocations, build
steps) of one bay that share a logical sector have both started a first pass, nor the newer of two writers or of two
build steps, a step leaves all this so, while the counter of 48 bits is not within 4,096 of its end. A build step's
extent counts on both bays. (R52, R59, R60, R86, R158) -/
def Obligations.WriteLawKept : Prop :=
  ∀ s t : State, writeLaw s → s.counter.toNat + 4096 ≤ 2 ^ 48 → step s = .next t → writeLaw t

/-- For U of 0 to 196,608 and L × P of 1 to 196,608, B is the quotient of U × 256 by L × P rounded down, or 65,535 when
that quotient exceeds it; B is 0 when U is 0 and never above 65,535; U × 256 is at most 50,331,648; the quotient
exceeds 65,535 only when L × P is 768 or less; at L × P = 768 a full ring of 196,608 gives 65,535, and at 769 it
gives 65,450. G0 is the seek cost from the head's track to the candidate's, plus 17, plus the margin, plus, when the
feed has a next sector, the seek cost from the candidate's track to the feed's and 18, also where that seek is 0.
For tracks of 0 to 16,383 and margins of 0 to 255 each seek cost is at most 134 and G0 lies between 17 and 558; it
is 17 on the head's track with no feed band and margin 0. (R152, R153) -/
def Obligations.BudgetAndGuard : Prop :=
  (∀ u line pace : Nat, u ≤ 196608 → 1 ≤ line * pace → line * pace ≤ 196608 →
    (∀ q : Nat, q * (line * pace) ≤ u * 256 → u * 256 < (q + 1) * (line * pace) →
        (q ≤ 65535 → budget u line pace = q) ∧ (65535 < q → budget u line pace = 65535 ∧ line * pace ≤ 768)) ∧
      (u = 0 → budget u line pace = 0) ∧ budget u line pace ≤ 65535 ∧ u * 256 ≤ 50331648 ∧
      (u = 196608 → line * pace = 768 → u * 256 / (line * pace) = 65536 ∧ budget u line pace = 65535) ∧
      (u = 196608 → line * pace = 769 → budget u line pace = 65450)) ∧
    ((∀ h t f m : Nat, h ≤ 16383 → t ≤ 16383 → f ≤ 16383 → m ≤ 255 →
      guardOf h t (some f) m = seekCost (trackDistance t h) + 17 + (seekCost (trackDistance t f) + 18) + m ∧
        guardOf h t none m = seekCost (trackDistance t h) + 17 + 0 + m ∧
        seekCost (trackDistance t h) ≤ 134 ∧ seekCost (trackDistance t f) ≤ 134 ∧
        17 ≤ guardOf h t (some f) m ∧ guardOf h t (some f) m ≤ 558 ∧ 17 ≤ guardOf h t none m ∧ guardOf h t none m ≤ 558 ∧
        (t = f → guardOf h t (some f) m = seekCost (trackDistance t h) + 17 + 18 + m)) ∧
    (∀ h : Nat, guardOf h h none 0 = 17) ∧ guardOf 0 16383 (some 0) 255 = 558)

/-- The law: each spare tried by an unfinished record's relocation lies below its map's cursor, is named by no entry,
and is tried for no other record or sector on the bay, and a relocation's pass in flight is of one sector whose try
has a spare. It rests on the rest of the invariant: the law of the suspension stacks; the entries' spares distinct
and below the cursor; each bay with the cartridge, lock, spindle, map and zones of its row in R18's table; a pass in
flight on a TURNING spindle, and of a record that is its bay's active one or has left; a running spin-down timer
only with no record and no pass; no EJECT left WAITING but on a TURNING spindle; a bay at rest, or with a PREPARE,
free of records that need its cartridge, which are unfinished only on a bay READY, WAKING or ejecting from READY,
and with an end cause only while their pass is in flight; a started PREPARE only on a bay at speed; a mirror's bays
READY, RESTING or WAKING with no PREPARE; only READs AWAITING_FALLBACK. From every state of this invariant, while
the counter of 48 bits is not within 4,096 of its end (R52 says that it never reaches it), a step leaves it so. It
implies that a relocation's VERIFY in flight is of a spare assigned and not yet named, and that entries name
distinct spares. That an EJECTING bay that was RESTING never turns is read from R31 and log entry 21. (R18, R19,
R22, R29, R31, R52, R66, R77, R111, R113, R114, R115) -/
def Obligations.RelocationLawKept : Prop :=
  (∀ s t : State, relocationLaw s → s.counter.toNat + 4096 ≤ 2 ^ 48 → step s = .next t → relocationLaw t) ∧
    ∀ s : State, relocationLaw s → triedLaw s ∧ spareLaw s

/-- While the stream is RUNNING on a bay: below the low mark nothing is admitted; at or above it a pass of n sectors is
admitted exactly when B exceeds G0, with the smaller of n and B - G0 sectors. A pass admitted so has n' + G0 at most
B, and the pass that starts is of those first n' sectors of the plan. On the other bay, or with the stream in
another state, a pass starts whole. The record becomes ACTIVE and the outcome PASS. A link READ's first pass over
sectors claims for each the lowest-numbered free slot (log entry 10), in order; no other record claims at a pass
start but by its first one (a BUILD_STEP's 17 slots). The record's first start takes its images or slots, as the
statement FlushAndLabelEnds gives them, before the pass. Each sector is allowed 4 attempts for a PREPARE, 1 while
the stream is RUNNING on the bay, and otherwise 4 less those made on it, or on its relocation's try. A WRITE or
VERIFY carries the bytes of the record's slots as they stand then, a label-track writer's those of the label buffer.
(R41, R44, R48, R77, R89, R99, R106, R107, R120, R151, R154, R155) -/
def Obligations.AdmissionLaw : Prop :=
  (∀ (b : Bay) (t n : Nat) (x : Stream) (s : State), s.stream = some x → x.bay = b → x.phase = .running →
      (unsent x < x.marks.low * 1024 → admission s b t n = none) ∧
        (x.marks.low * 1024 ≤ unsent x →
          ∀ g : Nat, g = guardOf (s.schedOf b).head t (feedTrack s x) s.settings.margin →
            (budget (unsent x) x.line x.pace ≤ g → admission s b t n = none) ∧
              (g < budget (unsent x) x.line x.pace →
                admission s b t n = some (min n (budget (unsent x) x.line x.pace - g)) ∧
                  min n (budget (unsent x) x.line x.pace - g) + g ≤ budget (unsent x) x.line x.pace))) ∧
    (∀ (b : Bay) (t n : Nat) (s : State), runningOn s b = false → admission s b t n = some n) ∧
    (∀ (b : Bay) (q n : Nat) (p : Plan) (r : Rec) (s v : State), s.rec? q = some r →
      v = (if r.started = true then s else firstStart r s) →
      ∃ (t : State) (y : Pass) (u : Rec), t = startPass b q p n s ∧ (t.schedOf b).pass = some y ∧ t.rec? q = some u ∧
        y.items = p.items.take n ∧ y.owner = .record q ∧ y.action = p.action ∧ y.track = p.track ∧ y.first = p.first ∧
        y.relocation = p.relocation ∧ (t.schedOf b).active = some q ∧ (t.schedOf b).last = .pass ∧ u.state = .active ∧
        u.started = true ∧ u.stalled = false ∧ t.mech = v.mech ∧
        (y.allowed = y.items.map fun i =>
          if isPrepare r = true then 4
          else if runningOn s b = true then 1
          else 4 - if p.relocation = true then
              ((r.relocations.find? fun x => decide (x.index = i)).map Try.attempts).getD 0
            else (r.sectors[i]?.map Sector.attempts).getD 0) ∧
        (p.action ≠ .write → p.action ≠ .verify → y.data = []) ∧
        (p.action = .write ∨ p.action = .verify → y.data = y.items.map fun i =>
          if isLabelWriter r = true then
            ((t.mechOf r.bay).buffer.getD ((if isPrepare r then 0 else if isSetZones r then 1 else 2) + i) none).getD []
          else ((u.sectors[i]?.bind Sector.slot).bind (slotData t)).getD []) ∧
        (p.action = .erase → p.relocation = false → y.slots = []) ∧
        (p.action ≠ .erase ∨ p.relocation = true → y.slots = y.items.filterMap (readSlot t u)) ∧
        (r.kind ≠ .read ∨ p.claims = false → t.slots = v.slots) ∧
        (r.kind = .read → p.claims = true → y.items.Nodup → y.items.length ≤ freeCount s →
          (∀ i ∈ y.items, i < r.sectors.length) →
          (∀ (k i j : Nat) (x : Sector), y.items[k]? = some i → (freeIds s)[k]? = some j → r.sectors[i]? = some x →
            u.sectors[i]? = some { x with slot := some j } ∧ t.slots[j]? = some (.held [.record q] none)) ∧
          ∀ j : Nat, j ∉ (freeIds s).take y.items.length → t.slots[j]? = s.slots[j]?)) ∧
    ∀ (r : Rec) (s : State), isLabelWriter r = false → r.kind ≠ .buildStep → firstStart r s = s

/-- A cartridge inserted into an EMPTY bay is locked in, LOADING with a spin-up begun and the head on track 0, its
surface in canonical form. A spin-up completion leaves the spindle TURNING and the head on track 0, and a WAKING bay
READY and triggered. A spin-up failure outside WAKING leaves the bay FAULTED, STOPPED, with nothing held, and raises
CARTRIDGE_IN FAULTED; in WAKING it also halts the bay's stream, unbinds the mirror and abandons the bay's records. A
mount read completes with the class of the label track. Each event that cannot occur changes nothing (log entry 2).
That an inserted surface is brought to canonical form is the model's choice (log entry 27). Six sectors found BLANK
leave the bay UNLABELLED; a label track that R16 does not find sound leaves it DAMAGED; a sound one leaves it READY
and triggered with the label, zones and map it records. Each raises CARTRIDGE_IN with its outcome, and only the
bay's mechanism, its trigger and the report set change. That a spin-up completion outside WAKING triggers nothing is
the model's choice (log entry 38). (R11, R20, R21, R24, R25, R79) -/
def Obligations.CartridgeEvents : Prop :=
  (∀ (b : Bay) (s : State),
    (∀ m : Medium, (s.mechOf b).mode = .empty →
        exec (.cartridgeInsertion b m) s = .next (conclude
          ((s.mapMech b fun k =>
            { k with mode := .loading, spindle := .starting, locked := true, medium := some (surfaceOf m) }).mapSched b
              fun c => { c with head := 0 }))) ∧
      (∀ m : Medium, (s.mechOf b).mode ≠ .empty → exec (.cartridgeInsertion b m) s = .next s) ∧
      ((s.mechOf b).spindle = .starting → (s.mechOf b).mode ≠ .waking →
        exec (.spinUpCompletion b) s = .next (conclude
          ((s.mapMech b fun k => { k with spindle := .turning }).mapSched b fun c => { c with head := 0 })) ∧
        exec (.spinUpFailure b) s = .next (conclude (raise b (.cartridgeIn .faulted) (s.mapMech b fun k =>
          { k with mode := .faulted, spindle := .stopped, inhibit := false, label := none, map := none, zones := none })))) ∧
      ((s.mechOf b).spindle = .starting → (s.mechOf b).mode = .waking →
        exec (.spinUpCompletion b) s = .next (conclude
          ((s.mapMech b fun k => { k with spindle := .turning, mode := .ready }).mapSched b
            fun c => { c with head := 0, triggered := true })) ∧
        exec (.spinUpFailure b) s = .next (conclude (raise b (.cartridgeIn .faulted) (abandonAll b (fun _ => true)
          (unbindMirror true (haltByEject b (s.mapMech b fun k =>
            { k with
              mode := .faulted
              spindle := .stopped
              inhibit := false
              label := none
              map := none
              zones := none }))))))) ∧
      ((s.mechOf b).spindle ≠ .starting →
        exec (.spinUpCompletion b) s = .next s ∧ exec (.spinUpFailure b) s = .next s) ∧
      (∀ (m : Medium) (fails : List Nat), (s.mechOf b).mode = .loading → (s.mechOf b).spindle = .turning →
        (s.mechOf b).medium = some m →
        exec (.mountReadCompletion b fails) s = .next (conclude (mountDone b
          ((List.range 6).map fun i => attemptSector (conditionAt m i) 4 (fails.getD i 0) 0) s))) ∧
      ∀ fails : List Nat, (s.mechOf b).mode ≠ .loading ∨ (s.mechOf b).spindle ≠ .turning →
        exec (.mountReadCompletion b fails) s = .next s) ∧
    (∀ (b : Bay) (found : List Found) (s : State),
    ((∀ l zs m, classOf found = .sound l zs m →
        mountDone b found s = trigger b (raise b (.cartridgeIn .ready) (s.mapMech b fun k =>
          { k with
            mode := .ready
            inhibit := false
            label := some l
            zones := some zs
            map := some m
            buffer := found.map bufferOf }))) ∧
      (classOf found = .blank →
        mountDone b found s = raise b (.cartridgeIn .unlabelled) (s.mapMech b fun k =>
          { k with mode := .unlabelled, inhibit := false, buffer := found.map bufferOf })) ∧
      (classOf found = .faulty →
        mountDone b found s = raise b (.cartridgeIn .damaged) (s.mapMech b fun k =>
          { k with mode := .damaged, inhibit := false, buffer := found.map bufferOf }))) ∧
    classOf (List.replicate 6 .blank) = .blank)

/-- The expiry of a READY bay's running timer puts it in RESTING with its spindle STOPPING. SPINDLE_STOP on an ejecting
bay whose release conditions hold, with its spindle TURNING, puts the spindle in STOPPING and its EJECT records in
ACTIVE. A stop completion leaves the spindle STOPPED, or STARTING in WAKING. A medium change changes that one sector
of the cartridge, a DATA sector alone; that it does so also with a pass in flight is the model's reading of R4 (log
entry 43). Each event that cannot occur changes nothing (log entry 2). At the end of a command's step a bay's
spin-down timer runs exactly when the bay is READY with no record on it (a BUILD_STEP counts on both bays), no pass
in flight, no stream bound to it, no dirty map and a spin-down time other than 0; it runs on as it stood, or from
the full time where it was stopped; while a step is DEFERRED it may run (log entry 40). The release conditions hold
exactly when the bay is EJECTING, no record other than EJECT records is on it, no pass is in flight on it, and its
map is not dirty, or it is write-inhibited, or holds none. Then the stop begins with the spindle TURNING, and the
release comes with it STOPPED: the bay EMPTY, open and STOPPED, with no cartridge, label, map or zones, its flag
clear, its head on track 0, CARTRIDGE_OUT raised and the bay's EJECT records in ENDING. So it does at a stop's
completion on an ejecting bay where these conditions hold, the other bay is not EJECTING, and no creation and no
leaving of a record come first. (R4, R19, R22, R23, R24, R32) -/
def Obligations.RestAndStop : Prop :=
  (∀ (b : Bay) (s : State),
    (∀ n : Nat, (s.mechOf b).timer = some n → (s.mechOf b).mode = .ready →
        exec (.spinDownTimerExpiry b) s = .next (conclude (s.mapMech b fun k =>
          { k with mode := .resting, spindle := .stopping, timer := none }))) ∧
      ((s.mechOf b).timer = none ∨ (s.mechOf b).mode ≠ .ready → exec (.spinDownTimerExpiry b) s = .next s) ∧
      (releaseHolds s b = true → (s.mechOf b).spindle = .turning →
        exec (.spindleStop b) s = .next (conclude (State.mapMech
          { s with recs := s.recs.map fun r => if isEject r && decide (r.bay = b) then { r with state := .active } else r }
          b fun k => { k with spindle := .stopping }))) ∧
      (releaseHolds s b = false ∨ (s.mechOf b).spindle ≠ .turning → exec (.spindleStop b) s = .next s) ∧
      ((s.mechOf b).spindle = .stopping → exec (.stopCompletion b) s = .next (conclude (s.mapMech b fun k =>
        { k with spindle := if (s.mechOf b).mode = .waking then .starting else .stopped }))) ∧
      ((s.mechOf b).spindle ≠ .stopping → exec (.stopCompletion b) s = .next s) ∧
      ∀ (track sector : Nat) (change : MediumChange),
        (16384 ≤ track ∨ 17 ≤ sector ∨ (s.mechOf b).medium = none →
          exec (.mediumSectorChange b track sector change) s = .next s) ∧
        ∀ m : Medium, (s.mechOf b).medium = some m → surfaceWf m = true → track < 16384 → sector < 17 →
          ∃ m' : Medium,
            exec (.mediumSectorChange b track sector change) s =
              .next (s.mapMech b fun k => { k with medium := some m' }) ∧
            surfaceWf m' = true ∧
            (∀ k : Nat, k ≠ 17 * track + sector → conditionAt m' k = conditionAt m k) ∧
            (∀ (d : Data) (w : Bool), conditionAt m (17 * track + sector) = .data d w →
              conditionAt m' (17 * track + sector) =
                match change with
                | .unreadable => .unreadable
                | .weak => .data d true) ∧
            ((∀ (d : Data) (w : Bool), conditionAt m (17 * track + sector) ≠ .data d w) →
              conditionAt m' (17 * track + sector) = conditionAt m (17 * track + sector))) ∧
    (∀ (b : Bay) (s t : State), t = conclude s →
      ((t.mechOf b).mode = .ready → (∀ r ∈ t.recs, r.bay ≠ b ∧ r.kind ≠ .buildStep) → (t.schedOf b).pass = none →
        (∀ x : Stream, t.stream = some x → x.bay ≠ b) → (∀ m : DefectMap, (t.mechOf b).map = some m → m.dirty = false) →
        t.settings.spinDown.get b ≠ 0 →
        (t.mechOf b).timer = some ((s.mechOf b).timer.getD (t.settings.spinDown.get b))) ∧
      ((t.mechOf b).mode ≠ .ready ∨ (∃ r ∈ t.recs, r.bay = b ∨ r.kind = .buildStep) ∨ (t.schedOf b).pass ≠ none ∨
        (∃ x : Stream, t.stream = some x ∧ x.bay = b) ∨
        (∃ m : DefectMap, (t.mechOf b).map = some m ∧ m.dirty = true) ∨ t.settings.spinDown.get b = 0 →
        (t.mechOf b).timer = none)) ∧
    (∀ (b : Bay) (s : State), releaseHolds s b = true ↔
      (∃ (kind : EjectKind) (former : Former), (s.mechOf b).mode = .ejecting kind former) ∧
        (∀ r ∈ s.recs, isEject r = false → r.bay ≠ b ∧ r.kind ≠ .buildStep) ∧ (s.schedOf b).pass = none ∧
        ((s.mechOf b).inhibit = true ∨ ∀ m : DefectMap, (s.mechOf b).map = some m → m.dirty = false)) ∧
    (∀ (b : Bay) (s : State),
      (releaseHolds s b = false → ejectStep b s = none) ∧
      (releaseHolds s b = true →
        ((s.mechOf b).spindle = .turning → ejectStep b s = some (State.mapMech
          { s with recs := s.recs.map fun r => if isEject r && decide (r.bay = b) then { r with state := .active } else r }
          b fun k => { k with spindle := .stopping })) ∧
        ((s.mechOf b).spindle = .stopped → ejectStep b s = some (release b s)) ∧
        ((s.mechOf b).spindle = .starting ∨ (s.mechOf b).spindle = .stopping → ejectStep b s = none))) ∧
    (∀ (b : Bay) (s t : State), seqLaw s → t = release b s →
      (t.mechOf b).mode = .empty ∧ (t.mechOf b).spindle = .stopped ∧ (t.mechOf b).locked = false ∧
        (t.mechOf b).medium = none ∧ (t.mechOf b).label = none ∧ (t.mechOf b).map = none ∧ (t.mechOf b).zones = none ∧
        (t.mechOf b).inhibit = false ∧ (t.schedOf b).head = 0 ∧ (t.schedOf b).active = none ∧ (t.schedOf b).stack = [] ∧
        ⟨b, .cartridgeOut⟩ ∈ t.link.reports ∧
        ∀ r ∈ s.recs, ∃ x : Rec, t.rec? r.seq = some x ∧ x.endCause = r.endCause ∧ x.kind = r.kind ∧
          x.state = if isEject r = true ∧ r.bay = b then .ending else r.state) ∧
    ∀ (b : Bay) (s u : State), seqLaw s → (s.mechOf b).spindle = .stopping →
      u = (s.mapMech b fun k => { k with spindle := .stopped }) → releaseHolds u b = true →
      (∀ (kind : EjectKind) (former : Former), (s.mechOf b.other).mode ≠ .ejecting kind former) →
      creationStep u = none → leaveStep u = none →
      ∃ t : State, exec (.stopCompletion b) s = .next t ∧ settle u = settleFor 299 (release b u) ∧
        (t.mechOf b).mode = .empty ∧ (t.mechOf b).spindle = .stopped ∧ (t.mechOf b).locked = false ∧
        (t.mechOf b).medium = none ∧ (t.mechOf b).label = none ∧ (t.mechOf b).map = none ∧ (t.mechOf b).zones = none ∧
        (t.mechOf b).inhibit = false ∧ (t.schedOf b).head = 0

/-- PASS_COMPLETION with no pass in flight changes nothing. With one, before what follows: the bay has no pass in flight
and is triggered, its head rests on the pass's track, its medium is what the pass leaves of it; the other bay keeps
its pass, head and medium; settings, waiting byte, assembly and frame in sending stay. That the event changes
nothing where it cannot occur is the model's choice (log entry 2). For a record's pass the next state is, but for
what follows at once: the sectors settled in order, the frames queued that a READ now can queue, the label-track
rule, and the record's end: it enters ENDING when its end cause is set or no pass is left (a build step that has
read its sectors passes to its write phase), and goes on otherwise. A feed pass hands the Stream Engine what its
attempts found on each sector, in order. A pass of discarded work gives up its slots: one that no other pass uses
becomes free, and a release is signalled. (R5, R6, R11, R48, R53, R78, R93, R99, R135) -/
def Obligations.PassCompletes : Prop :=
  (∀ (b : Bay) (rs : List SectorResponse) (s : State),
    ((s.schedOf b).pass = none → exec (.passCompletion b rs) s = .next s) ∧
      ∀ (p : Pass) (m : Medium) (u : State), (s.schedOf b).pass = some p → m = (s.mechOf b).medium.getD [] →
        u = ((s.mapSched b fun c => { c with pass := none, head := p.track }).mapMech b
          fun k => { k with medium := k.medium.map (mediumAfter p rs) }) →
        (∀ q : Nat, p.owner = .record q → exec (.passCompletion b rs) s = .next (conclude (trigger b
          (ownerEnds q (labelRoundEnd q (queueFrames q (settleSectors q p rs m 0 p.items u))))))) ∧
        (∀ n : Nat, p.owner = .feed n → exec (.passCompletion b rs) s =
          .next (conclude (trigger b (completeFeed n (foundFrom u p rs m 0 p.items) u)))) ∧
        (p.owner = .discarded → exec (.passCompletion b rs) s = .next (conclude (trigger b (releasePass b u)))) ∧
        ∃ t : State, exec (.passCompletion b rs) s = .next (conclude t) ∧ t = trigger b (handOutcomes b p rs m u) ∧
          (t.schedOf b).pass = none ∧ (t.schedOf b).head = p.track ∧ (t.schedOf b).triggered = true ∧
          (t.mechOf b).medium = (s.mechOf b).medium.map (mediumAfter p rs) ∧
          (t.schedOf b.other).pass = (s.schedOf b.other).pass ∧ (t.schedOf b.other).head = (s.schedOf b.other).head ∧
          (t.mechOf b.other).medium = (s.mechOf b.other).medium ∧ t.settings = s.settings ∧
          t.link.waiting = s.link.waiting ∧ t.link.assembly = s.link.assembly ∧ t.link.sending = s.link.sending ∧
          t.link.cursor = s.link.cursor) ∧
    (∀ (n j : Nat) (p : Pass) (rs : List SectorResponse) (m : Medium) (s : State), p.owner = .feed n →
      (foundFrom s p rs m 0 p.items)[j]? = p.items[j]?.map fun k =>
        (k, attemptSector (conditionAt m (sectorKey p.track (p.first + j))) (p.allowed.getD j 4)
          (rs.getD j ⟨0, .took⟩).fails 0)) ∧
    (∀ (q : Nat) (r : Rec) (s : State), s.rec? q = some r →
      (r.endCause ≠ none → ownerEnds q s = enterEnding q s) ∧
        (r.endCause = none → noPassLeft r = true → ownerEnds q s = finishRecord q s) ∧
        (r.endCause = none → noPassLeft r = false → ownerEnds q s = s)) ∧
    (∀ r : Rec,
      (isReading r = true → (noPassLeft r = true ↔ ∀ x ∈ r.sectors, x.progress ≠ .unread)) ∧
        (isReading r = false → (noPassLeft r = true ↔
          r.relocations = [] ∧ ∀ i x, r.sectors[i]? = some x → writeFinished r i x = true))) ∧
    (∀ (b : Bay) (s t : State), t = releasePass b s →
      t = { s with slots := s.slots.map (dropPass b), sched := t.sched } ∧
        (freeCount s < freeCount t → (t.schedOf .A).triggered = true ∧ (t.schedOf .B).triggered = true) ∧
        (freeCount t = freeCount s → t.sched = s.sched)) ∧
    ∀ (b : Bay) (d : Option Data),
      dropPass b (.held [.passes (decide (b = .A)) (decide (b = .B))] d) = .free ∧
        dropPass b (.held [.passes true true] d) = .held [.passes (decide (b = .B)) (decide (b = .A))] d ∧
        dropPass b (.held [.passes (decide (b = .B)) (decide (b = .A))] d) =
          .held [.passes (decide (b = .B)) (decide (b = .A))] d ∧
        ∀ q : Nat, dropPass b (.held [.record q] d) = .held [.record q] d

/-- An ERASE pass of a record other than a relocation's leaves each covered sector ERASED, a WRITE pass WRITTEN; the
record's other sectors, and every other item of it and of every other record, stay, and nothing but the records
changes. For a record of the table whose number no other has: a sector verified equal to its slot is VERIFIED; a
sector whose read found it BLANK is FAILED with cause BLANK; one whose attempts failed with fewer than 4 made in all
keeps its progress and carries that many attempts; on the fourth a read that has no fallback is FAILED with cause
UNREADABLE. The other sectors of the record stay. A READ or VERIFY pass settles its sectors in order, each by its
attempts: those allowed to it at the pass's start, on the condition of its physical sector, with the failures the
mechanism met and the attempts that earlier passes made. A VERIFY that finds other bytes, BLANK, or a fourth failed
attempt in all hands a link WRITE's, a copy's or another record's sector to relocation, has a label-track writer's
FAILED with cause BLANK or UNREADABLE, and a BUILD_STEP's FAILED; one that fails with fewer than 4 attempts in all
leaves the sector as it was, carrying its attempts. A relocation's ERASE and WRITE advance its try. (R7, R99, R100,
R102, R105, R106, R107, R114, R122, R161) -/
def Obligations.SectorOutcomes : Prop :=
  ((∀ (q : Nat) (p : Pass) (rs : List SectorResponse) (m : Medium) (s : State), p.relocation = false →
    (∀ pr : Progress, (p.action = .erase ∧ pr = .erased) ∨ (p.action = .write ∧ pr = .written) →
      settleSectors q p rs m 0 p.items s = { s with recs := (settleSectors q p rs m 0 p.items s).recs } ∧
        (settleSectors q p rs m 0 p.items s).recs.length = s.recs.length ∧
        ∀ (k : Nat) (r : Rec), s.recs[k]? = some r →
          ∃ r' : Rec, (settleSectors q p rs m 0 p.items s).recs[k]? = some r' ∧ r' = { r with sectors := r'.sectors } ∧
            (r.seq ≠ q → r' = r) ∧
            (r.seq = q → ∀ i : Nat, r'.sectors[i]? =
              r.sectors[i]?.map fun x => if i ∈ p.items then { x with progress := pr } else x))) ∧
    (∀ (q i : Nat) (r : Rec) (x : Sector) (s : State), seqLaw s → s.rec? q = some r → r.sectors[i]? = some x →
    (∀ (bytes : Data) (n : Nat), ∃ t : Rec,
        (settleVerify q i (.data bytes n) bytes s).rec? q = some t ∧
          t.sectors = r.sectors.modify i (fun y => { y with progress := .verified, attempts := 0 })) ∧
      (∃ t : Rec, (settleRead q i .blank s).rec? q = some t ∧
        t.sectors = r.sectors.modify i (fun y => { y with progress := .failed, attempts := 0, cause := some .blank })) ∧
      (∀ n : Nat, x.attempts + n < 4 → ∃ t : Rec, (settleRead q i (.failed n) s).rec? q = some t ∧
        t.sectors = r.sectors.modify i (fun y => { y with attempts := x.attempts + n })) ∧
      ∀ n : Nat, 4 ≤ x.attempts + n → isRead r = false ∨ mirrorPrimary s ≠ some r.bay →
        ∃ t : Rec, (settleRead q i (.failed n) s).rec? q = some t ∧
          t.sectors =
            r.sectors.modify i (fun y => { y with progress := .failed, attempts := 0, cause := some .unreadable }))) ∧
    (∀ (q i n : Nat) (r : Rec) (x : Sector) (found : Found) (bytes : Data) (s : State), s.rec? q = some r →
      r.sectors[i]? = some x →
      (∀ cause : Cause,
        (∃ (d : Data) (k : Nat), found = .data d k ∧ d ≠ bytes ∧ n = x.attempts + k ∧ cause = .unreadable) ∨
          (found = .blank ∧ n = x.attempts + 1 ∧ cause = .blank) ∨
          (∃ k : Nat, found = .failed k ∧ n = x.attempts + k ∧ 4 ≤ n ∧ cause = .unreadable) →
        (isLabelWriter r = false → r.kind ≠ .buildStep →
          settleVerify q i found bytes s = startRelocation q i (noteTries q n s)) ∧
        (isLabelWriter r = true → settleVerify q i found bytes s = (noteTries q n s).mapRec q fun y =>
          { y with sectors := y.sectors.modify i fun z =>
            { z with progress := .failed, attempts := 0, cause := some cause } }) ∧
        (r.kind = .buildStep → settleVerify q i found bytes s = (noteTries q n s).mapRec q fun y =>
          { y with sectors := y.sectors.modify i fun z => { z with progress := .failed, attempts := 0 } })) ∧
      ∀ k : Nat, found = .failed k → n = x.attempts + k → n < 4 →
        settleVerify q i found bytes s = (noteTries q n s).mapRec q fun y =>
          { y with sectors := y.sectors.modify i fun z => { z with attempts := n } }) ∧
    (∀ (q i j : Nat) (is : List Nat) (p : Pass) (rs : List SectorResponse) (m : Medium) (found : Found) (s : State),
      found = attemptSector (conditionAt m (sectorKey p.track (p.first + j))) (p.allowed.getD j 4)
        (rs.getD j ⟨0, .took⟩).fails (attemptsBefore s p i) →
      settleSectors q p rs m j [] s = s ∧
        (p.action = .read →
          settleSectors q p rs m j (i :: is) s = settleSectors q p rs m (j + 1) is (settleRead q i found s)) ∧
        (p.action = .verify → p.relocation = false → settleSectors q p rs m j (i :: is) s =
          settleSectors q p rs m (j + 1) is (settleVerify q i found (p.data.getD j []) s)) ∧
        (p.action = .verify → p.relocation = true → settleSectors q p rs m j (i :: is) s =
          settleSectors q p rs m (j + 1) is (settleTryVerify q i found (p.data.getD j []) s)) ∧
        ∀ pr : Progress, (p.action = .erase ∧ pr = .erased) ∨ (p.action = .write ∧ pr = .written) →
          p.relocation = true → settleSectors q p rs m j (i :: is) s =
            settleSectors q p rs m (j + 1) is (s.mapRec q fun y =>
              { y with relocations := y.relocations.map fun t => if t.index = i then { t with progress := pr } else t })) ∧
    ∀ (q i : Nat) (p : Pass) (r : Rec) (s : State), p.owner = .record q → s.rec? q = some r →
      (p.relocation = false → ∀ x : Sector, r.sectors[i]? = some x → attemptsBefore s p i = x.attempts) ∧
        (p.relocation = true → ∀ t : Try, r.relocations.find? (fun t => decide (t.index = i)) = some t →
          attemptsBefore s p i = t.attempts)

/-- A record is ready to leave when it is in ENDING, no frame of it is queued or in sending, for a write or copy its
partners of these kinds are in ENDING, and for a read none of its fallbacks is in the table. RECORD_LEAVES_TABLE
removes such a record and its number from every partner list; a link record appends its DONE, a BUILD_STEP hands
over its outcome, and then the deferred creations are made, for as long as places are free: the MAP_FLUSH of bay A,
that of bay B, the BUILD_STEP; a FALLBACK_READ hands over its outcome after them. DEFERRED_CREATION makes the first
creation that is due: the flush of a map that needs one, bay A before bay B, created with a place free and deferred
without; else a deferred flush, bay A before bay B; else the BUILD_STEP. For no record, one not ready to leave, or
no creation due, nothing changes (the model's choice for events that cannot occur, log entry 2). That a queued GRANT
keeps its WRITE in the table is the model's reading of R68 with R57 (log entry 28), and that the creation of a
BUILD_STEP wakes the primary too its choice (log entry 40). (R51, R54, R63, R68, R71, R104, R119, R160) -/
def Obligations.LeavingAndCreation : Prop :=
  (∀ (r : Rec) (s : State), readyToLeave s r = true ↔
      r.state = .ending ∧ (∀ p ∈ s.link.replies, p.owner ≠ some r.seq) ∧
        (∀ p : Reply, s.link.sending = some (.reply p) → p.owner ≠ some r.seq) ∧
        ((r.kind = .write ∨ r.kind = .mirrorCopy) →
          ∀ o ∈ s.recs, o.seq ∈ r.partners → (o.kind = .write ∨ o.kind = .mirrorCopy) → o.state = .ending) ∧
        (r.kind = .read → ∀ o ∈ s.recs, o.kind = .fallbackRead → r.seq ∉ o.partners)) ∧
    (∀ (q : Nat) (r : Rec) (s t : State), s.rec? q = some r → readyToLeave s r = true →
      t = { s with
        recs := (s.recs.filter fun o => decide (o.seq ≠ q)).map fun o =>
          { o with partners := o.partners.filter fun p => decide (p ≠ q) } } →
      (∀ ch tag : Nat, r.link = some (ch, tag) →
        exec (.recordLeavesTable q) s =
          .next (conclude (deferredCreations (reply ch tag (.done (doneOf r)) none t)))) ∧
      (r.link = none → r.kind = .fallbackRead →
        exec (.recordLeavesTable q) s = .next (conclude (fallbackOutcome r (deferredCreations t)))) ∧
      (r.link = none → r.kind = .buildStep →
        exec (.recordLeavesTable q) s = .next (conclude (deferredCreations (stepOutcome r t)))) ∧
      (r.link = none → r.kind ≠ .fallbackRead → r.kind ≠ .buildStep →
        exec (.recordLeavesTable q) s = .next (conclude (deferredCreations t)))) ∧
    (∀ (q : Nat) (s : State), s.rec? q = none ∨ (∃ r : Rec, s.rec? q = some r ∧ readyToLeave s r = false) →
      exec (.recordLeavesTable q) s = .next s) ∧
    (∀ s : State, deferredCreations s = makeStep (makeFlush .B (makeFlush .A s))) ∧
    (∀ (b : Bay) (m : DefectMap) (s t : State), (s.mechOf b).map = some m → s.recs.length < 16 →
      t = trigger b (wake b (State.mapMech
        { s with
          recs := s.recs ++ [{ newRec .mapFlush none b 3 0 0 (List.replicate 4 ⟨.pending, 0, none, false, none⟩) [] with seq := s.nextSeq }]
          counter := s.counter + 1 }
        b fun k => { k with map := some { m with pending := .queued } })) →
      (m.pending = .deferred → makeFlush b s = t) ∧
      (m.dirty = true → m.pending = .none → (s.mechOf b).inhibit = false → (b = .B → needsFlush s .A = false) →
        exec .deferredCreation s = .next (conclude t)) ∧
      (m.pending = .deferred → needsFlush s .A = false → needsFlush s .B = false →
        (b = .B → flushDeferred s .A = false) → exec .deferredCreation s = .next (conclude t))) ∧
    (∀ (b : Bay) (s : State), (∀ m : DefectMap, (s.mechOf b).map = some m → m.pending ≠ .deferred) ∨ 16 ≤ s.recs.length →
      makeFlush b s = s) ∧
    (∀ (b : Bay) (m : DefectMap) (s : State), (s.mechOf b).map = some m → m.dirty = true → m.pending = .none →
      (s.mechOf b).inhibit = false → (b = .B → needsFlush s .A = false) → 16 ≤ s.recs.length →
      exec .deferredCreation s = .next (conclude (s.mapMech b fun k =>
        { k with map := some { m with pending := .deferred } }))) ∧
    (∀ (b : Bay) (s : State), needsFlush s b = true ↔
      ∃ m : DefectMap, (s.mechOf b).map = some m ∧ m.dirty = true ∧ m.pending = .none ∧ (s.mechOf b).inhibit = false) ∧
    (∀ (p : Bay) (c g : Nat) (s t : State), s.mirror = .paired p c g (.building .deferred) →
      (∀ r ∈ s.recs, isStep r = false) → s.recs.length < 16 → forcedOut (s.mechOf p.other).mode = false →
      t = trigger p (wake p (wake p.other
        { s with
          recs := s.recs ++
            [{ newRec .buildStep none p.other 7 c 17 (List.replicate 17 ⟨.unread, 0, none, false, none⟩) [] with
                seq := s.nextSeq }]
          counter := s.counter + 1
          mirror := .paired p c g (.building .present) })) →
      makeStep s = t ∧
      (needsFlush s .A = false → needsFlush s .B = false → flushDeferred s .A = false → flushDeferred s .B = false →
        exec .deferredCreation s = .next (conclude t))) ∧
    (∀ s : State, (∀ (p : Bay) (c g : Nat), s.mirror ≠ .paired p c g (.building .deferred)) ∨
        (∃ r ∈ s.recs, isStep r = true) ∨ 16 ≤ s.recs.length →
      makeStep s = s ∧
      (needsFlush s .A = false → needsFlush s .B = false →
        (16 ≤ s.recs.length ∨ (flushDeferred s .A = false ∧ flushDeferred s .B = false)) →
        exec .deferredCreation s = .next s))

/-- All that follows at once (creations, leavings, ejections, decisions, timers, the next frame) keeps the settings, the
waiting commands, the stream's counters, the receive assembly, the waiting byte and the reset line, the number of
slots, and the port but for its ready line; the creation counter, while it is not within 4,096 of its end (R52),
never falls; each bay keeps its cartridge's surface, or is EMPTY without one. That these things follow within the
event's own step is the model's reading (log entry 3). What follows is taken one thing at a time, at most 300: a
creation that is due, else a record that is ready to leave, else an ejection that goes on, else the decision of a
bay that is triggered or whose eligible feed can start, until there is none; then the timers and the next frame. So
with no creation due, no record ready to leave and no ejection going on, a triggered bay decides within the
command's own step. Where both bays are to decide and both can start a pass, which comes first is left free (log
entry 4). A trigger that finds a pass in flight is answered with no effect, and one on a bay that can start none
leaves CANNOT_START. (R22, R32, R52, R53, R54, R68, R79, R80, R119, R160, R186) -/
def Obligations.WhatFollowsKeeps : Prop :=
  (∀ s : State,
    (conclude s).settings = s.settings ∧ (conclude s).pending = s.pending ∧ (conclude s).tally = s.tally ∧
      (conclude s).link.assembly = s.link.assembly ∧ (conclude s).link.waiting = s.link.waiting ∧
      (conclude s).link.resetLine = s.link.resetLine ∧ (conclude s).slots.length = s.slots.length ∧
      (conclude s).port = { s.port with ready := (conclude s).port.ready } ∧ 
      (s.counter.toNat + 4096 ≤ 2 ^ 48 → s.counter ≤ (conclude s).counter) ∧
      ∀ b : Bay, ((conclude s).mechOf b).medium = (s.mechOf b).medium ∨
        (((conclude s).mechOf b).medium = none ∧ ((conclude s).mechOf b).mode = .empty ∧
          ((conclude s).mechOf b).locked = false)) ∧
    (∀ s : State, conclude s = selectNext (setTimer .B (setTimer .A (settleFor 300 s)))) ∧
    (∀ (n : Nat) (s : State),
      (∀ t : State, creationStep s = some t → settleFor (n + 1) s = settleFor n t) ∧
      (creationStep s = none →
        (∀ t : State, leaveStep s = some t → settleFor (n + 1) s = settleFor n t) ∧
        (leaveStep s = none →
          (∀ t : State, ejectStep .A s = some t → settleFor (n + 1) s = settleFor n t) ∧
          (∀ t : State, ejectStep .A s = none → ejectStep .B s = some t → settleFor (n + 1) s = settleFor n t) ∧
          (ejectStep .A s = none → ejectStep .B s = none →
            (∀ b : Bay, mustDecide s b = true → mustDecide s b.other = false →
              settleFor (n + 1) s = settleFor n (makeDecision b s)) ∧
            (mustDecide s .A = true → mustDecide s .B = true →
              ((mayStart s .A && mayStart s .B) = false → settleFor (n + 1) s = settleFor n (makeDecision .A s)) ∧
              ((mayStart s .A && mayStart s .B) = true →
                ∃ b : Bay, settleFor (n + 1) s = settleFor n (makeDecision b s.choose))) ∧
            (mustDecide s .A = false → mustDecide s .B = false → settleFor (n + 1) s = s))))) ∧
    (∀ (b : Bay) (s : State),
      (mustDecide s b = true ↔ (s.schedOf b).triggered = true ∨
        (streamOn s b = true ∧ feedEligible s = true ∧ (s.schedOf b).pass = none ∧ canStart s b = true)) ∧
      (mayStart s b = true ↔ (s.schedOf b).pass = none ∧ canStart s b = true) ∧
      ((s.schedOf b).pass ≠ none → makeDecision b s = s.mapSched b fun c => { c with triggered := false }) ∧
      ((s.schedOf b).pass = none → canStart s b = false →
        makeDecision b s = s.mapSched b fun c => { c with triggered := false, last := .cannotStart })) ∧
    ∀ s : State,
      (leaveStep s = none ↔ ∀ r ∈ s.recs, readyToLeave s r = false) ∧
        (creationStep s = none ↔
          (∀ b : Bay, needsFlush s b = false ∧ (flushDeferred s b = true → 16 ≤ s.recs.length)) ∧ stepCreatable s = false)

/-- From every state with at most 16 records, at most 12 of them link records, a step leaves so many at most; and every
step keeps the number of slots at 256. From every state whose slots are held by records that the counter has passed,
the records standing in the order of their creation, a step leaves it so, and leaves the link-read holdings within
the read cap or no higher than they were: only a SETUP that lowers the cap leaves them above it. This is while the
counter of 48 bits is not within 4,096 of its end (R52). (R37, R49, R54, R55, R42, R52) -/
def Obligations.TableAndSlotLawsKept : Prop :=
  ((∀ s t : State, tableLaw s → step s = .next t → tableLaw t) ∧ ∀ s t : State, slotLaw s → step s = .next t → slotLaw t) ∧
    ∀ s t : State, holderLaw s → s.counter.toNat + 4096 ≤ 2 ^ 48 → step s = .next t →
      holderLaw t ∧ (holdings t ≤ t.settings.readCap ∨ holdings t ≤ holdings s)

/-- From every state in which the ready line is high exactly while the stream is RUNNING, a step leaves it so; and from
every state whose band list has at most 32 bands, none with more than 2 repeats used, a step leaves it so. From
every state whose ring is within its law (segments of distinct bands of the list, sent bytes in the oldest band's
alone, fetched and reserved bytes within R × 1,024) and whose feed pass in flight brings no more than the reserved
bytes, a step leaves it so; such a ring's retained, unsent and reserved bytes never exceed R × 1,024. By which
number a feed pass knows its band is the model's own (log entry 35). (R138, R130, R132, R142, R134, R135) -/
def Obligations.StreamLawsKept : Prop :=
  (∀ s t : State, readyLaw s → step s = .next t → readyLaw t) ∧ (∀ s t : State, bandLaw s → step s = .next t → bandLaw t) ∧
    (∀ s t : State, ringLaw s → step s = .next t → ringLaw t) ∧
    ∀ t : Stream, ringKept t → retained t + unsent t + t.reserved ≤ t.ring * 1024 ∧ (t.segments.map Segment.band).Nodup

/-- From every state whose pending reports have distinct keys a step leaves them so; and from every state whose settings
lie in their ranges and whose cursor names a slice, a step leaves them so. (R181, R182, R185, R186) -/
def Obligations.LinkLawsKept : Prop :=
  (∀ s t : State, reportLaw s → step s = .next t → reportLaw t) ∧
    ∀ s t : State, settingsLaw s → step s = .next t → settingsLaw t

/-- From every state whose maps hold at most 512 entries in strictly ascending order with a cursor of at most 1,088, a
step leaves them so. From every state whose cartridges' surfaces are in canonical form (keys strictly rising, no
BLANK listed: the model's form, log entry 6), a step leaves them so. From every state whose maps' entries name
distinct spares, each below its cursor, and whose relocation's VERIFY in flight is of a spare so assigned and not
yet named, a step leaves the entries so; recording such a spare, assigning the spare at the cursor and mounting a
sound map keep this law, and the spare at the cursor is named by no entry. That the law on a relocation's VERIFY in
flight is itself kept, with the distinct spares, is the statement RelocationLawKept. (R4, R5, R6, R8, R16, R111,
R113, R115) -/
def Obligations.CartridgeLawsKept : Prop :=
  (∀ s t : State, mapLaw s → step s = .next t → mapLaw t) ∧
    ((∀ s t : State, mediumLaw s → step s = .next t → mediumLaw t) ∧
    (∀ s t : State, spareLaw s → triedLaw s → step s = .next t → spareLaw t) ∧
    (∀ (m : DefectMap) (n x : Nat), sparesKept m = true → x < m.cursor → (∀ e ∈ m.entries, e.2 ≠ x) →
      sparesKept { m with entries := putEntry n x m.entries } = true) ∧
    (∀ m : DefectMap, sparesKept m = true → sparesKept { m with cursor := m.cursor + 1 } = true ∧ ∀ e ∈ m.entries, e.2 ≠ m.cursor) ∧
    ∀ (found : List Found) (l : Label) (zs : List Zone) (m : DefectMap), classOf found = .sound l zs m → sparesKept m = true)

/-- From every state whose records' arrival sequences ascend strictly and lie below the creation counter, a step leaves
them so, while the counter of 48 bits is not within 4,096 of its end (R52 says that it never reaches it). From every
state in which, while the mirror is BUILDING or BOUND, no link WRITE of the table is addressed to the secondary, a
step leaves it so. (R52, R55, R159, R163) -/
def Obligations.RecordLawsKept : Prop :=
  (∀ s t : State, seqLaw s → s.counter.toNat + 4096 ≤ 2 ^ 48 → step s = .next t → seqLaw t) ∧
    (∀ s t : State, mirrorLaw s → step s = .next t → mirrorLaw t)

/-- Of two records the one of lower level comes first, then RELOCATE before MAPFLUSH before MIRROR before LINK, then the
lower arrival sequence; of two with different sequences exactly one comes first. The candidates below a level are
the eligible records of the scheduler below it other than EJECT records, each once, best first; a BUILD_STEP belongs
to the primary's scheduler in its read phase and to its own bay's after. A record is eligible exactly when it is
WAITING, no hold applies, and its scheduler's bay is TURNING and READY or EJECTING, or for a PREPARE UNLABELLED or
DAMAGED. Writers, readers, a BUILD_STEP before its first pass, SET_ZONES and MAP_FLUSH are held exactly as R59 to
R62 say, and no other record. That a started step is held no more is the model's reading (log entry 19). (R53, R59,
R60, R61, R62, R81, R83, R91) -/
def Obligations.CandidateOrder : Prop :=
  (∀ x y : Rec, comesBefore x y = true ↔
      x.level < y.level ∨ (x.level = y.level ∧
        (sourceRank x < sourceRank y ∨ (sourceRank x = sourceRank y ∧ x.seq < y.seq)))) ∧
    (∀ x y : Rec, x.seq ≠ y.seq → comesBefore x y = !comesBefore y x) ∧
    (∀ r : Rec,
      (∀ v : Variety, r.kind = .relocate v → sourceRank r = 0) ∧ (r.kind = .mapFlush → sourceRank r = 1) ∧
        (r.link = none → r.kind = .mirrorCopy ∨ r.kind = .buildStep ∨ r.kind = .fallbackRead → sourceRank r = 2) ∧
        (r.link ≠ none → (∀ v : Variety, r.kind ≠ .relocate v) → r.kind ≠ .mapFlush → sourceRank r = 3)) ∧
    (∀ (s : State) (b : Bay) (bound : Nat), ∃ rs : List Rec, candidates s b bound = rs.map Rec.seq ∧
      rs.Perm (s.recs.filter fun r => !isEject r && decide (schedBay r = b) && decide (r.level < bound) && eligible s r) ∧
      rs.Pairwise fun x y => comesBefore y x = false) ∧
    (∀ r : Rec, (r.kind = .buildStep → r.writePhase = false → schedBay r = r.bay.other) ∧
      (r.kind ≠ .buildStep ∨ r.writePhase = true → schedBay r = r.bay)) ∧
    (∀ (s : State) (r : Rec), eligible s r = true ↔
      r.state = .waiting ∧ isHeld s r = false ∧ (s.mechOf (schedBay r)).spindle = .turning ∧
        ((s.mechOf (schedBay r)).mode = .ready ∨
          (∃ (k : EjectKind) (f : Former), (s.mechOf (schedBay r)).mode = .ejecting k f) ∨
          (isPrepare r = true ∧
            ((s.mechOf (schedBay r)).mode = .unlabelled ∨ (s.mechOf (schedBay r)).mode = .damaged) ∧
            ∃ o ∈ s.recs, isPrepare o = true ∧ o.bay = schedBay r))) ∧
    (∀ (s : State) (r : Rec), isWriter r = true → (isHeld s r = true ↔
      (∃ o ∈ s.recs, isWriter o = true ∧ o.state ≠ .ending ∧ o.bay = r.bay ∧ o.seq < r.seq ∧
          o.first < r.first + r.count ∧ r.first < o.first + o.count) ∨
        ∃ o ∈ s.recs, o.kind = .buildStep ∧ o.started = true ∧ o.state ≠ .ending ∧
          o.first < r.first + r.count ∧ r.first < o.first + o.count)) ∧
    (∀ (s : State) (r : Rec), r.kind = .buildStep →
      (r.started = true → isHeld s r = false) ∧
        (r.started = false → (isHeld s r = true ↔
          (∃ o ∈ s.recs, isWriter o = true ∧ o.state ≠ .ending ∧
              o.first < r.first + r.count ∧ r.first < o.first + o.count) ∨
            ∃ o ∈ s.recs, o.kind = .buildStep ∧ o.state ≠ .ending ∧ o.first = r.first ∧ o.seq < r.seq))) ∧
    (∀ (s : State) (r : Rec), r.kind = .read ∨ r.kind = .fallbackRead → (isHeld s r = true ↔
      (∃ (i : Nat) (x : Sector) (w : Rec), i < r.count ∧ r.sectors[i]? = some x ∧ x.progress = .unread ∧
          newestWriter s r.bay (r.first + i) = some w ∧ writerData s w (r.first + i) = none) ∨
        ∃ o ∈ s.recs, o.kind = .buildStep ∧ o.started = true ∧ o.state ≠ .ending ∧
          o.first < r.first + r.count ∧ r.first < o.first + o.count)) ∧
    (∀ (s : State) (b : Bay) (n : Nat),
      (newestWriter s b n = none ↔ ∀ o ∈ s.recs, ¬(isWriter o = true ∧ o.state ≠ .ending ∧ o.bay = b ∧ covers o n = true)) ∧
        ∀ w : Rec, newestWriter s b n = some w →
          w ∈ s.recs ∧ isWriter w = true ∧ w.state ≠ .ending ∧ w.bay = b ∧ covers w n = true ∧
            ∀ o ∈ s.recs, isWriter o = true → o.state ≠ .ending → o.bay = b → covers o n = true → o.seq ≤ w.seq) ∧
    ∀ (s : State) (r : Rec),
      (isSetZones r = true → (isHeld s r = true ↔
        ∃ o ∈ s.recs, isSetZones o = true ∧ o.state ≠ .ending ∧ o.bay = r.bay ∧ o.seq < r.seq)) ∧
        (isFlush r = true → (isHeld s r = true ↔
          ∃ o ∈ s.recs, isFlush o = true ∧ o.state ≠ .ending ∧ o.bay = r.bay ∧ o.seq < r.seq)) ∧
        (isPrepare r = true ∨ isEject r = true → isHeld s r = false)

/-- With no pass in flight on a bay that can start passes, against the state with no record marked stalled and the
feed's read-throughs taken: an eligible feed starts and nothing else does. Else an active record that cannot be
planned stalls: WAITING, off its place. One that can is preempted in NESTED mode by the first waiting candidate
below its level that is planned and admitted, and goes on with its own next pass when there is none; in RUN_TO_END
it goes on at once. With no active record a waiting candidate below the stack top's level comes first, then the top;
with an empty stack the waiting candidates below level 8. With none planned the outcome is NOTHING, with one planned
and none admitted NOT_ADMITTED, and an active record and the stack stay. A record started over an active one pushes
it, SUSPENDED, on the stack; the top started is popped; RUN_TO_END takes effect as the stack empties. A candidate
that cannot be planned is marked stalled and passed over; a BUILD_STEP that has read its sectors passes to its own
bay's scheduler, which is triggered. The waiting candidates are taken through their whole list in order: the one
started is the first that is planned and admitted, each before it having been passed over, and with none such every
one that was planned was refused. A stack top that is reached and cannot be planned stalls, off the stack and
WAITING, and the decision goes on with the new top, or with an empty stack over all waiting candidates below level
8. The stalled mark and its clearing at the next decision (log entry 32), the trigger mark that a decision answers
(log entry 3), the ending of a reader's or step's phase at the decision that takes its last sector by read-through
(log entry 20), the second planning of an active record at its turn (log entry 45), and that a stream made RUNNING
by the decision's own feed read-through already puts its passes to admission (log entry 47), are the model's. (R76,
R78, R80, R82, R84, R85, R86, R87, R88, R89, R90, R91) -/
def Obligations.DecisionTaken : Prop :=
  (∀ (b : Bay) (s u : State), passInFlight s b = false → canStart s b = true → u = considered b s →
      (streamOn u b = true → feedEligible u = true → makeDecision b s = startFeed u) ∧
      (streamOn u b = false ∨ feedEligible u = false →
        (∀ (q : Nat) (v : State), (u.schedOf b).active = some q → planRec q u = (v, .stalled) →
          makeDecision b s = recordOutcome b (tryIdle b false (stall b q v))) ∧
        (∀ (q : Nat) (v : State), (u.schedOf b).active = some q → planRec q u = (v, .finished) →
          makeDecision b s = recordOutcome b (tryIdle b false (finishRecord q v))) ∧
        (∀ (q c n : Nat) (cs : List Nat) (p p0 : Plan) (v w : State), (u.schedOf b).active = some q →
          planRec q u = (v, .pass p0) → (v.schedOf b).mode = .nested → candidates v b (levelOf v (some q)) = c :: cs →
          planRec c v = (w, .pass p) → admission w b p.track p.items.length = some n →
          makeDecision b s = startPass b c p n w) ∧
        (∀ (q : Nat) (p p0 : Plan) (v w : State), (u.schedOf b).active = some q → planRec q u = (v, .pass p0) →
          (v.schedOf b).mode = .runToEnd ∨ candidates v b (levelOf v (some q)) = [] → planRec q v = (w, .pass p) →
          (∀ n : Nat, admission w b p.track p.items.length = some n → makeDecision b s = startPass b q p n w) ∧
          (admission w b p.track p.items.length = none →
            makeDecision b s = w.mapSched b fun c => { c with last := .notAdmitted })) ∧
        (∀ (q c n : Nat) (qs cs : List Nat) (p : Plan) (v : State), (u.schedOf b).active = none →
          (u.schedOf b).stack = q :: qs → candidates u b (levelOf u (some q)) = c :: cs → planRec c u = (v, .pass p) →
          admission v b p.track p.items.length = some n → makeDecision b s = startPass b c p n v) ∧
        (∀ (q : Nat) (qs : List Nat) (p : Plan) (v : State), (u.schedOf b).active = none → (u.schedOf b).stack = q :: qs →
          candidates u b (levelOf u (some q)) = [] → planRec q u = (v, .pass p) →
          (∀ n : Nat, admission v b p.track p.items.length = some n → makeDecision b s = startPass b q p n v) ∧
          (admission v b p.track p.items.length = none →
            makeDecision b s = v.mapSched b fun c => { c with last := .notAdmitted })) ∧
        ((u.schedOf b).active = none → (u.schedOf b).stack = [] →
          (candidates u b 8 = [] → makeDecision b s = u.mapSched b fun c => { c with last := .nothing }) ∧
          ∀ (c : Nat) (cs : List Nat) (v : State), candidates u b 8 = c :: cs →
            (∀ (n : Nat) (p : Plan), planRec c u = (v, .pass p) → admission v b p.track p.items.length = some n →
              makeDecision b s = startPass b c p n v) ∧
            (∀ p : Plan, cs = [] → planRec c u = (v, .pass p) → admission v b p.track p.items.length = none →
              makeDecision b s = v.mapSched b fun c => { c with last := .notAdmitted }) ∧
            (cs = [] → planRec c u = (v, .stalled) →
              makeDecision b s = (markStalled c v).mapSched b fun c => { c with last := .nothing })))) ∧
    (∀ (b : Bay) (s u : State), passInFlight s b = false → canStart s b = true → u = considered b s →
      streamOn u b = false ∨ feedEligible u = false →
      ((u.schedOf b).active = none → makeDecision b s = recordOutcome b (tryIdle b false u)) ∧
      ∀ (q : Nat) (p0 : Plan) (v w : State) (t : Trial), (u.schedOf b).active = some q → planRec q u = (v, .pass p0) →
        (v.schedOf b).mode = .nested → t = tryWaiting b (candidates v b (levelOf v (some q))) false v →
        (t.started = true → makeDecision b s = t.state) ∧
        (t.started = false →
          (∀ p : Plan, planRec q t.state = (w, .pass p) →
            (∀ n : Nat, admission w b p.track p.items.length = some n → makeDecision b s = startPass b q p n w) ∧
            (admission w b p.track p.items.length = none →
              makeDecision b s = w.mapSched b fun c => { c with last := .notAdmitted })) ∧
          (planRec q t.state = (w, .stalled) →
            makeDecision b s = recordOutcome b (tryIdle b t.refused (stall b q w))) ∧
          (planRec q t.state = (w, .finished) →
            makeDecision b s = recordOutcome b (tryIdle b t.refused (finishRecord q w))))) ∧
    (∀ (b : Bay) (t : Trial),
      (t.started = true → recordOutcome b t = t.state) ∧
      (t.started = false → t.refused = true →
        recordOutcome b t = t.state.mapSched b fun c => { c with last := .notAdmitted }) ∧
      (t.started = false → t.refused = false →
        recordOutcome b t = t.state.mapSched b fun c => { c with last := .nothing })) ∧
    (∀ (b : Bay) (refused : Bool) (s : State),
      ((s.schedOf b).stack = [] → tryIdle b refused s = tryWaiting b (candidates s b 8) refused s) ∧
      ∀ (q : Nat) (qs : List Nat) (t : Trial) (v : State), (s.schedOf b).stack = q :: qs →
        t = tryWaiting b (candidates s b (levelOf s (some q))) refused s →
        (t.started = true → tryIdle b refused s = t) ∧
        (t.started = false →
          (∀ p : Plan, planRec q t.state = (v, .pass p) →
            (∀ n : Nat, admission v b p.track p.items.length = some n →
              tryIdle b refused s = ⟨startPass b q p n v, true, t.refused⟩) ∧
            (admission v b p.track p.items.length = none → tryIdle b refused s = ⟨v, false, true⟩)) ∧
          (planRec q t.state = (v, .stalled) →
            (((stall b q v).schedOf b).stack = [] →
              tryIdle b refused s = tryWaiting b (candidates (stall b q v) b 8) t.refused (stall b q v)) ∧
            (((stall b q v).schedOf b).stack = qs → tryIdle b refused s = tryIdle b t.refused (stall b q v))) ∧
          (planRec q t.state = (v, .finished) → ((finishRecord q v).schedOf b).stack = qs →
            tryIdle b refused s = tryIdle b t.refused (finishRecord q v)))) ∧
    (∀ (b : Bay) (cs : List Nat) (refused : Bool) (s : State) (t : Trial), t = tryWaiting b cs refused s →
      (t.started = true → ∃ (front back : List Nat) (c n : Nat) (p : Plan) (v : State), cs = front ++ c :: back ∧
        (tryWaiting b front refused s).started = false ∧
        planRec c (tryWaiting b front refused s).state = (v, .pass p) ∧
        admission v b p.track p.items.length = some n ∧ t.state = startPass b c p n v) ∧
      (t.started = false → ∀ (front back : List Nat) (c : Nat) (p : Plan) (v : State), cs = front ++ c :: back →
        planRec c (tryWaiting b front refused s).state = (v, .pass p) →
        admission v b p.track p.items.length = none ∧ t.refused = true) ∧
      (t.refused = true → refused = false → ∃ (front back : List Nat) (c : Nat) (p : Plan) (v : State),
        cs = front ++ c :: back ∧ planRec c (tryWaiting b front refused s).state = (v, .pass p) ∧
        admission v b p.track p.items.length = none)) ∧
    (∀ (b : Bay) (c : Nat) (cs : List Nat) (refused : Bool) (s v : State),
      tryWaiting b [] refused s = ⟨s, false, refused⟩ ∧ (planRec c s = (v, .stalled) →
          tryWaiting b (c :: cs) refused s = tryWaiting b cs refused (markStalled c v)) ∧
        (planRec c s = (v, .finished) → tryWaiting b (c :: cs) refused s = tryWaiting b cs refused (finishRecord c v)) ∧
        ∀ p : Plan, planRec c s = (v, .pass p) →
          (admission v b p.track p.items.length = none → tryWaiting b (c :: cs) refused s = tryWaiting b cs true v) ∧
            ∀ n : Nat, admission v b p.track p.items.length = some n →
              tryWaiting b (c :: cs) refused s = ⟨startPass b c p n v, true, refused⟩) ∧
    (∀ (b : Bay) (s : State), streamOn s b = false →
      considered b s = State.mapSched
        { s with recs := s.recs.map fun r => if schedBay r = b then { r with stalled := false } else r }
        b fun c => { c with triggered := false }) ∧
    (∀ (q : Nat) (s : State), markStalled q s =
      { s with recs := s.recs.map fun r => if r.seq = q then { r with stalled := true } else r }) ∧
    (∀ (b : Bay) (q : Nat) (s : State), ∃ c : Sched, (stall b q s).schedOf b = c ∧
      c.active = (if (s.schedOf b).active = some q then none else (s.schedOf b).active) ∧
        c.stack = (s.schedOf b).stack.filter (fun x => decide (x ≠ q)) ∧
        c.mode = (if c.stack = [] then (s.schedOf b).modeSet else (s.schedOf b).mode) ∧
        (stall b q s).schedOf b.other = s.schedOf b.other ∧
        stall b q s = { s with
          sched := (stall b q s).sched
          recs := s.recs.map fun r => if r.seq = q then { r with state := .waiting, stalled := true } else r }) ∧
    (∀ (b : Bay) (q : Nat) (s : State),
      (∀ a : Nat, (s.schedOf b).active = some a → a ≠ q →
        makeActive b q s = State.mapSched
          { s with recs := s.recs.map fun r =>
              if r.seq = q then { r with state := .active, started := true, stalled := false }
              else if r.seq = a then { r with state := .suspended } else r }
          b fun c => { c with active := some q, stack := a :: (s.schedOf b).stack }) ∧
      ((s.schedOf b).active = some q ∨ ((s.schedOf b).active = none ∧ (s.schedOf b).stack.head? ≠ some q) →
        makeActive b q s = State.mapSched
          { s with recs := s.recs.map fun r =>
              if r.seq = q then { r with state := .active, started := true, stalled := false } else r }
          b fun c => { c with active := some q }) ∧
      ∀ qs : List Nat, (s.schedOf b).active = none → (s.schedOf b).stack = q :: qs →
        makeActive b q s = State.mapSched
          { s with recs := s.recs.map fun r =>
              if r.seq = q then { r with state := .active, started := true, stalled := false } else r }
          b fun c =>
            { c with
              active := some q
              stack := qs
              mode := if qs = [] then c.modeSet else c.mode
              triggered := c.triggered || (decide (qs = []) && decide (c.mode ≠ c.modeSet)) }) ∧
    ∀ (q : Nat) (r : Rec) (s : State), s.rec? q = some r →
      (r.kind ≠ .buildStep ∨ r.writePhase = true → finishRecord q s = enterEnding q s) ∧
        (r.kind = .buildStep → r.writePhase = false →
          (finishRecord q s).recs = s.recs.map (fun x => if x.seq = q then
            { x with
              state := .waiting
              writePhase := true
              sectors := x.sectors.map fun y => { y with progress := .pending, attempts := 0 } } else x) ∧
          ((finishRecord q s).schedOf r.bay).triggered = true ∧
          ((finishRecord q s).schedOf r.bay.other).active ≠ some q ∧ q ∉ ((finishRecord q s).schedOf r.bay.other).stack)

/-- A record that writes and lists a relocation plans that one's next pass: the ERASE, WRITE or VERIFY of its spare, one
sector. Else its anchor is the first ready sector: PENDING for ERASE, ERASED with its data present for WRITE,
WRITTEN for VERIFY; the sectors after it join while they need the same action, carry no attempt count and lie at the
next position of its track, at most 17; an anchor that carries an attempt count is planned alone. With no ready
sector it has no pass left when every sector is finished, and is stalled otherwise. A record that reads plans its
first UNREAD sector so, within the free pool and the read cap less the holdings for a link READ, and is stalled when
that is 0 or a BUILD_STEP's first pass lacks 17 free slots; with none UNREAD it has no pass left. A sector whose
newest writer holds its data is READ at once, a link READ claiming the lowest free slot (log entry 10) for it within
the cap, or using one that a deferred retry has kept (log entry 37), and its frames are queued. (R41, R42, R44, R94,
R95, R96, R97, R98, R102, R112, R114) -/
def Obligations.PlansMade : Prop :=
  (∀ (s : State) (r : Rec) (t : Try) (ts : List Try), r.relocations = t :: ts →
      (t.spare = none → planWrite s r = .stalled) ∧
        ∀ x : Nat, t.spare = some x → ∃ act : Action,
          planWrite s r = .pass ⟨act, 16320 + x / 17, x % 17, [t.index], false, true⟩ ∧
            (t.progress = .pending → act = .erase) ∧ (t.progress = .erased → act = .write) ∧
            (t.progress = .written → act = .verify)) ∧
    (∀ (s : State) (r : Rec) (i : Nat) (x : Sector),
      (x.progress = .pending → writeNeed s r i x = some .erase) ∧
        (x.progress = .erased → writeNeed s r i x = if dataPresent s r i = true then some .write else none) ∧
        (x.progress = .written → writeNeed s r i x = some .verify) ∧
        (x.progress ≠ .pending → x.progress ≠ .erased → x.progress ≠ .written → writeNeed s r i x = none)) ∧
    (∀ (s : State) (r : Rec) (i : Nat),
      sectorLoc s r i =
        if isPrepare r = true ∨ isSetZones r = true ∨ isFlush r = true then
          ⟨0, (if isPrepare r then 0 else if isSetZones r then 1 else 2) + i⟩
        else translate s (schedBay r) (r.first + i)) ∧
    (∀ (s : State) (r : Rec), r.relocations = [] → (∀ i x, r.sectors[i]? = some x → writeNeed s r i x = none) →
      ((∀ i x, r.sectors[i]? = some x → writeFinished r i x = true) → planWrite s r = .finished) ∧
        ((∃ i x, r.sectors[i]? = some x ∧ writeFinished r i x = false) → planWrite s r = .stalled)) ∧
    (∀ (s : State) (r : Rec) (i : Nat) (x : Sector) (act : Action), r.relocations = [] → r.sectors[i]? = some x →
      writeNeed s r i x = some act → (∀ j y, j < i → r.sectors[j]? = some y → writeNeed s r j y = none) →
      ∃ p : Plan, planWrite s r = .pass p ∧ p.action = act ∧ p.track = (sectorLoc s r i).track ∧
        p.first = (sectorLoc s r i).sector ∧ p.relocation = false ∧ (0 < x.attempts → p.items = [i]) ∧
        (x.attempts = 0 → ∃ n : Nat, 1 ≤ n ∧ n ≤ 17 ∧ p.items = (List.range n).map (fun k => i + k) ∧
          (∀ k, 1 ≤ k → k < n → ∃ y, r.sectors[i + k]? = some y ∧ writeNeed s r (i + k) y = some act ∧ y.attempts = 0 ∧
            sectorLoc s r (i + k) = ⟨p.track, p.first + k⟩) ∧
          (n < 17 → ∀ y, r.sectors[i + n]? = some y →
            ¬(writeNeed s r (i + n) y = some act ∧ y.attempts = 0 ∧ sectorLoc s r (i + n) = ⟨p.track, p.first + n⟩)))) ∧
    (∀ (q : Nat) (s : State) (r : Rec), s.rec? q = some r → isReading r = false → planRec q s = (s, planWrite s r)) ∧
    (∀ (q : Nat) (s : State) (r : Rec), s.rec? q = some r → isReading r = true →
      (∀ x ∈ r.sectors, x.progress ≠ .unread) → planRec q s = (s, .finished)) ∧
    (∀ (q i limit : Nat) (s : State) (r : Rec) (x : Sector), s.rec? q = some r → isReading r = true →
      r.sectors[i]? = some x → x.progress = .unread → (∀ j y, j < i → r.sectors[j]? = some y → y.progress ≠ .unread) →
      throughData s (schedBay r) (r.first + i) = none →
      limit = (if r.kind = .read then min (freeCount s) (s.settings.readCap - holdings s) else 17) →
      (x.attempts = 0 → (r.kind = .read ∧ limit = 0) ∨ (r.kind = .buildStep ∧ r.started = false ∧ freeCount s < 17) →
        planRec q s = (s, .stalled)) ∧
      (0 < x.attempts → planRec q s =
        (s, .pass ⟨.read, (sectorLoc s r i).track, (sectorLoc s r i).sector, [i], false, false⟩)) ∧
      (x.attempts = 0 → 1 ≤ limit → (r.kind = .buildStep → r.started = true ∨ 17 ≤ freeCount s) →
        ∃ n : Nat, 1 ≤ n ∧ n ≤ limit ∧
          planRec q s = (s, .pass ⟨.read, (sectorLoc s r i).track, (sectorLoc s r i).sector,
            (List.range n).map (fun k => i + k), decide (r.kind = .read), false⟩) ∧
          (∀ k, 1 ≤ k → k < n → ∃ y, r.sectors[i + k]? = some y ∧ y.progress = .unread ∧ y.attempts = 0 ∧
            throughData s (schedBay r) (r.first + (i + k)) = none ∧
            sectorLoc s r (i + k) = ⟨(sectorLoc s r i).track, (sectorLoc s r i).sector + k⟩) ∧
          (n < limit → ∀ y, r.sectors[i + n]? = some y →
            ¬(y.progress = .unread ∧ y.attempts = 0 ∧ throughData s (schedBay r) (r.first + (i + n)) = none ∧
              sectorLoc s r (i + n) = ⟨(sectorLoc s r i).track, (sectorLoc s r i).sector + n⟩)))) ∧
    (∀ (q i : Nat) (d : Data) (s : State) (r : Rec) (x : Sector), s.rec? q = some r → r.kind = .read →
      r.sectors[i]? = some x → x.progress = .unread → (∀ j y, j < i → r.sectors[j]? = some y → y.progress ≠ .unread) →
      throughData s r.bay (r.first + i) = some d →
      (x.slot = none → min (freeCount s) (s.settings.readCap - holdings s) = 0 → planRec q s = (s, .stalled)) ∧
      (x.slot = none → min (freeCount s) (s.settings.readCap - holdings s) ≠ 0 →
        planRec q s = planRead q r.count (claimThrough q i d s)) ∧
      (∀ j, x.slot = some j → planRec q s = planRead q r.count (takeThrough q i (some j) d s))) ∧
    (∀ (q i j : Nat) (js : List Nat) (d : Data) (s : State), freeIds s = j :: js →
      claimThrough q i d s = queueFrames q
        { s with
          slots := s.slots.set j (.held [.record q] (some d))
          recs := s.recs.map fun r => if r.seq = q then
            { r with sectors := r.sectors.modify i fun x => { x with progress := .read, attempts := 0, slot := some j } }
            else r }) ∧
    ∀ (q i j : Nat) (d : Data) (s : State),
      takeThrough q i (some j) d s = queueFrames q
        { s with
          slots := s.slots.modify j fun x => match x with
            | .held hs _ => .held hs (some d)
            | y => y
          recs := s.recs.map fun r => if r.seq = q then
            { r with sectors := r.sectors.modify i fun x => { x with progress := .read, attempts := 0 } } else r }

/-- Of its sectors from the queued count on, a link READ queues the frames of those that are READ or FAILED up to the
first that is neither, in index order: DATA with the slot's bytes for a READ sector, BLANK for one that failed with
that cause and UNREADABLE for any other failure. Its queued count rises by their number and the failed ones join its
failure list with their causes; nothing else changes. With none to queue, and for a record of another kind, nothing
changes. (R69, R103, R184) -/
def Obligations.FramesQueued : Prop :=
  ∀ (q ch tag : Nat) (r : Rec) (s : State) (l : List Sector), s.rec? q = some r →
    (r.kind ≠ .read → queueFrames q s = s) ∧
      (r.kind = .read → r.link = some (ch, tag) →
        l = (r.sectors.drop r.queued).takeWhile (fun x => decide (x.progress = .read) || decide (x.progress = .failed)) →
        (l = [] → queueFrames q s = s) ∧
          (l ≠ [] → queueFrames q s =
            { s with
              link := { s.link with
                replies := s.link.replies ++ (l.zipIdx r.queued).map fun p =>
                  ⟨ch, tag,
                    .sector p.2
                      (if p.1.progress = .read then .data else if p.1.cause = some .blank then .blank else .unreadable)
                      (if p.1.progress = .read then (p.1.slot.bind (slotData s)).getD [] else []),
                    some q⟩ }
              recs := s.recs.map fun y => if y.seq = q then
                { y with
                  queued := r.queued + l.length
                  failures := y.failures ++ (l.zipIdx r.queued).filterMap fun p =>
                    if p.1.progress = .read then none else some (p.2, p.1.cause.getD .unreadable) } else y }))

/-- A sector handed to relocation is RELOCATING and joins its record's list with no spare tried, and a spare is asked
for; none is when the record's end cause is set. NO_SPARE answers when 3 were tried, the cursor is 1,088, or the map
holds 512 entries and none for the sector; else the spare at the cursor is the try's, PENDING, its spares tried one
more, and the cursor rises by one and the map is dirty. NO_SPARE makes the sector FAILED with that cause, off the
list and in the failure list; for a copy its write is flagged DEGRADED and the mirror degrades. A try whose VERIFY
matched is recorded: one entry for the sector, in ascending order, the map dirty, the sector DONE and off the list,
the RELOCATED flag set; on a full map without an entry for it NO_SPARE. One that found other bytes, BLANK, or failed
4 attempts in all asks for the next spare; with fewer it carries its attempts. Every assignment and entry is
followed by the test of R124: SPARE_LOW with fewer than 32 free spares or 480 entries or more. That a copy's
NO_SPARE degrades the mirror whichever pairing made the copy is the model's reading of R164 (log entry 26). (R70,
R107, R113, R114, R115, R116, R124, R164) -/
def Obligations.SparesAssigned : Prop :=
  (∀ (q i : Nat) (r : Rec) (t : Try) (s : State), s.rec? q = some r →
      r.relocations.find? (fun t => decide (t.index = i)) = some t →
      (r.endCause ≠ none → assignSpare q i s = s) ∧
      ∀ m : DefectMap, r.endCause = none → (s.mechOf r.bay).map = some m →
        (3 ≤ t.tried ∨ 1088 ≤ m.cursor ∨ (512 ≤ m.entries.length ∧ ∀ e ∈ m.entries, e.1 ≠ r.first + i) →
          assignSpare q i s = noSpare q i s) ∧
        (t.tried < 3 → m.cursor < 1088 → m.entries.length < 512 ∨ (∃ e ∈ m.entries, e.1 = r.first + i) →
          assignSpare q i s = spareLowTest r.bay (State.mapMech
            { s with recs := s.recs.map fun y => if y.seq = q then
                { y with relocations := y.relocations.map fun u => if u.index = i then
                    { u with tried := u.tried + 1, spare := some m.cursor, progress := .pending, attempts := 0 } else u }
                else y }
            r.bay fun k => { k with map := some { m with cursor := m.cursor + 1, dirty := true } }))) ∧
    (∀ (q i : Nat) (s : State), startRelocation q i s = assignSpare q i
      { s with recs := s.recs.map fun y => if y.seq = q then
          { y with
            sectors := y.sectors.modify i fun x => { x with progress := .relocating, attempts := 0 }
            relocations := y.relocations ++ [⟨i, 0, none, .pending, 0⟩] } else y }) ∧
    (∀ (q i : Nat) (r : Rec) (s t : State), s.rec? q = some r →
      t = { s with recs := s.recs.map fun y => if y.seq = q then
          { y with
            relocations := y.relocations.filter fun u => decide (u.index ≠ i)
            sectors := y.sectors.modify i fun x => { x with progress := .failed, attempts := 0, cause := some .noSpare }
            failures := y.failures ++ [(i, .noSpare)] } else y } →
      (r.kind ≠ .mirrorCopy → noSpare q i s = t) ∧
        (r.kind = .mirrorCopy → noSpare q i s = degrade .copyFailed (flagRecord q setDegraded t))) ∧
    (∀ (q i x : Nat) (r : Rec) (m : DefectMap) (s t : State), s.rec? q = some r → (s.mechOf r.bay).map = some m →
      t = State.mapMech
        { s with recs := s.recs.map fun y => if y.seq = q then
            { y with
              relocations := y.relocations.filter fun u => decide (u.index ≠ i)
              sectors := y.sectors.modify i fun z => { z with progress := .done, attempts := 0 } } else y }
        r.bay (fun k => { k with map := some { m with entries := putEntry (r.first + i) x m.entries, dirty := true } }) →
      (512 ≤ m.entries.length → (∀ e ∈ m.entries, e.1 ≠ r.first + i) → recordMove q i x s = noSpare q i s) ∧
        (m.entries.length < 512 ∨ (∃ e ∈ m.entries, e.1 = r.first + i) →
          recordMove q i x s = spareLowTest r.bay (flagRecord q setRelocated t))) ∧
    (∀ (n x : Nat) (es : List (Nat × Nat)), ascending es = true →
      ascending (putEntry n x es) = true ∧ ∀ e : Nat × Nat, e ∈ putEntry n x es ↔ e = (n, x) ∨ (e ∈ es ∧ e.1 ≠ n)) ∧
    (∀ (q : Nat) (f : Flags → Flags) (r : Rec) (s : State), s.rec? q = some r →
      (r.kind ≠ .mirrorCopy → flagRecord q f s =
        { s with recs := s.recs.map fun y => if y.seq = q then { y with flags := f y.flags } else y }) ∧
        ∀ w : Nat, r.kind = .mirrorCopy → r.partners = [w] → w ≠ q → flagRecord q f s =
          { s with recs := s.recs.map fun y => if y.seq = q ∨ y.seq = w then { y with flags := f y.flags } else y }) ∧
    (∀ (q i n : Nat) (bytes : Data) (r : Rec) (t : Try) (s : State), s.rec? q = some r →
      r.relocations.find? (fun t => decide (t.index = i)) = some t →
      (∀ x : Nat, t.spare = some x →
          settleTryVerify q i (.data bytes n) bytes s = recordMove q i x (noteTries q (t.attempts + n) s)) ∧
        (∀ d : Data, d ≠ bytes →
          settleTryVerify q i (.data d n) bytes s = assignSpare q i (noteTries q (t.attempts + n) s)) ∧
        settleTryVerify q i .blank bytes s = assignSpare q i (noteTries q (t.attempts + 1) s) ∧
        (4 ≤ t.attempts + n → settleTryVerify q i (.failed n) bytes s = assignSpare q i (noteTries q (t.attempts + n) s)) ∧
        (t.attempts + n < 4 → settleTryVerify q i (.failed n) bytes s = (noteTries q (t.attempts + n) s).mapRec q fun y =>
          { y with relocations := y.relocations.map fun u =>
            if u.index = i then { u with attempts := t.attempts + n } else u })) ∧
    (∀ (q n : Nat) (s : State), (n ≤ 1 → noteTries q n s = s) ∧ (1 < n → noteTries q n s = flagRecord q setRetried s)) ∧
    ∀ (b : Bay) (m : DefectMap) (s : State), (s.mechOf b).map = some m →
      (1088 - m.cursor < 32 ∨ 480 ≤ m.entries.length →
        spareLowTest b s = raise b (.spareLow (1088 - m.cursor) m.entries.length) s) ∧
        (32 ≤ 1088 - m.cursor → m.entries.length < 480 → spareLowTest b s = s)

/-- A sector of a link READ read on a later attempt is READ with its data in its slot, and on a bay whose weak-sector
relocation is ON a RELOCATE is asked for. It is skipped on a write-inhibited bay, over a sector with an unfinished
RELOCATE or covered by an unfinished WRITE, copy or BUILD_STEP on the bay, where the map would answer NO_SPARE, with
no place free, and with no slot free. Else its record of level 6 is created on the bay with the source as its
partner; it claims the lowest-numbered free slot (log entry 10) and holds a copy of the bytes there, and its first
spare is asked for. On a bay EJECTING of kind FORCED it ends ABANDONED at its creation and no spare is assigned.
That a BUILD_STEP covers the sector on the primary from its first pass, and on its own bay from its creation, is the
model's reading of R54 with R60 (log entry 19). That it is skipped on a bay that holds no map is the model's reading
of R111 (log entry 29). (R33, R43, R51, R54, R63, R100, R101, R117, R111) -/
def Obligations.RelocateRequested : Prop :=
  (∀ (v : Variety) (b : Bay) (n source : Nat) (bytes : Data) (s : State),
      ((s.mechOf b).inhibit = true ∨
        (∃ r ∈ s.recs, isRelocate r = true ∧ r.state ≠ .ending ∧ r.bay = b ∧ r.first = n) ∨
        (∃ r ∈ s.recs, r.state ≠ .ending ∧ r.first ≤ n ∧ n < r.first + r.count ∧
          (((r.kind = .write ∨ r.kind = .mirrorCopy) ∧ r.bay = b) ∨
            (r.kind = .buildStep ∧ (r.started = true ∨ r.bay = b)))) ∨
        (s.mechOf b).map = none ∨
        (∃ m : DefectMap, (s.mechOf b).map = some m ∧
          (1088 ≤ m.cursor ∨ (512 ≤ m.entries.length ∧ ∀ e ∈ m.entries, e.1 ≠ n))) ∨
        16 ≤ s.recs.length ∨ freeCount s = 0 →
        requestRelocate v b n bytes source s = s) ∧
      ∀ (m : DefectMap) (j : Nat) (js : List Nat), (s.mechOf b).inhibit = false →
        (∀ r ∈ s.recs, isRelocate r = true → r.state ≠ .ending → r.bay = b → r.first ≠ n) →
        (∀ r ∈ s.recs, r.state ≠ .ending → r.first ≤ n → n < r.first + r.count →
          (r.kind = .write ∨ r.kind = .mirrorCopy → r.bay ≠ b) ∧
            (r.kind = .buildStep → r.started = false ∧ r.bay ≠ b)) →
        (s.mechOf b).map = some m → m.cursor < 1088 → m.entries.length < 512 ∨ (∃ e ∈ m.entries, e.1 = n) →
        s.recs.length < 16 → freeIds s = j :: js →
        (forcedOut (s.mechOf b).mode = false →
          requestRelocate v b n bytes source s = assignSpare s.nextSeq 0 (trigger b (wake b
            { s with
              slots := s.slots.set j (.held [.record s.nextSeq] (some bytes))
              recs := s.recs ++
                [{ newRec (.relocate v) none b 6 n 1 [⟨.relocating, 0, some j, true, none⟩] [source] with
                    relocations := [⟨0, 0, none, .pending, 0⟩], seq := s.nextSeq }]
              counter := s.counter + 1 }))) ∧
        (forcedOut (s.mechOf b).mode = true → seqLaw s →
          ∃ r : Rec, (requestRelocate v b n bytes source s).recs = s.recs ++ [r] ∧ r.seq = s.nextSeq ∧
            r.kind = .relocate v ∧ r.state = .ending ∧ r.endCause = some .abandoned ∧
            ((requestRelocate v b n bytes source s).mechOf b).map = some m)) ∧
    ∀ (q i j n : Nat) (d : Data) (r : Rec) (x : Sector) (s u : State), s.rec? q = some r → r.kind = .read →
      r.sectors[i]? = some x → x.slot = some j →
      u = State.mapRec
        { noteTries q (x.attempts + n) s with
          slots := s.slots.modify j fun y => match y with
            | .held hs _ => .held hs (some d)
            | z => z }
        q (fun y => { y with sectors := y.sectors.modify i fun z => { z with progress := .read, attempts := 0 } }) →
      (1 < x.attempts + n → s.settings.weak.get r.bay = true →
        settleRead q i (.data d n) s = requestRelocate .weak r.bay (r.first + i) d q u) ∧
      (x.attempts + n ≤ 1 ∨ s.settings.weak.get r.bay = false → settleRead q i (.data d n) s = u)

/-- The first pass start of a PREPARE puts its six images in the label buffer, of a SET_ZONES its zone table's, of a
MAP_FLUSH the map's four with a flush count one greater modulo 65,536, which becomes the map's, the map then clean,
its pending flush NONE and this record the flush in progress; a BUILD_STEP's claims 17 free slots, the
lowest-numbered (log entry 10). Once every sector written has its final outcome and no end cause is set: all
VERIFIED, a PREPARE leaves the bay READY with an empty map and zone table, the flag clear and its label held, a
SET_ZONES its zones in force, and a flush changes nothing more; else round 1 returns all to PENDING for round 2 with
RETRIED set, and round 2 lists each failed sector under its track-0 number: a PREPARE leaves the bay DAMAGED with
nothing held, and the others set the write-inhibit flag, a flush dirtying its map again. Setting the flag raises
MEDIA_ALERT, drops or removes the pending flush, and degrades a mirror whose secondary was not inhibited. A DONE
counts 6 and 1 sectors for a PREPARE and SET_ZONES that succeeded. (R13, R28, R30, R44, R69, R120, R122, R123, R173,
R174, R175) -/
def Obligations.FlushAndLabelEnds : Prop :=
  (∀ (r : Rec) (s : State),
      (∀ (serial : BitVec 32) (name : Data), r.kind = .prepare serial name → firstStart r s = s.mapMech r.bay fun m =>
        { m with buffer := (prepareImages ⟨serial, name, match m.label with
            | some l => (l.preparations + 1) % 65536
            | none => 1⟩).map some ++ m.buffer.drop 6 }) ∧
      (∀ zs : List Zone, r.kind = .setZones zs → firstStart r s = s.mapMech r.bay fun m =>
        { m with buffer := m.buffer.take 1 ++ [some (zonesImage zs)] ++ m.buffer.drop 2 }) ∧
      (∀ d : DefectMap, r.kind = .mapFlush → (s.mechOf r.bay).map = some d → firstStart r s = s.mapMech r.bay fun m =>
        { m with
          buffer := m.buffer.take 2 ++ (mapImages (mapBytes d ((d.flushCount + 1) % 65536))).map some ++ m.buffer.drop 6
          map := some { d with
            flushCount := (d.flushCount + 1) % 65536
            dirty := false
            pending := .none
            flushing := some r.seq } }) ∧
      (r.kind = .buildStep → seqLaw s → s.rec? r.seq = some r → r.sectors.length = 17 → 17 ≤ freeCount s →
        firstStart r s =
          { s with
            slots := ((freeIds s).take 17).foldl (fun acc j => acc.set j (.held [.record r.seq] none)) s.slots
            recs := s.recs.map fun y => if y.seq = r.seq then
              { y with sectors := List.zipWith (fun x j => { x with slot := some j }) y.sectors ((freeIds s).take 17) }
              else y })) ∧
    (∀ (q w : Nat) (r : Rec) (s : State), s.rec? q = some r → isLabelWriter r = true → r.endCause = none →
      w = (if isPrepare r then 6 else if isSetZones r then 1 else 4) →
      ((∃ x ∈ r.sectors.take w, x.progress ≠ .verified ∧ x.progress ≠ .failed) → labelRoundEnd q s = s) ∧
      ((∀ x ∈ r.sectors.take w, x.progress = .verified) →
        (∀ (serial : BitVec 32) (name : Data), r.kind = .prepare serial name → labelRoundEnd q s = s.mapMech r.bay fun m =>
          { m with
            mode := .ready
            inhibit := false
            label := some ⟨serial, name, match m.label with
              | some l => (l.preparations + 1) % 65536
              | none => 1⟩
            map := some ⟨[], 0, 0, false, .none, none⟩
            zones := some [] }) ∧
        (∀ zs : List Zone, r.kind = .setZones zs → labelRoundEnd q s = s.mapMech r.bay fun m => { m with zones := some zs }) ∧
        (r.kind = .mapFlush → labelRoundEnd q s = s)) ∧
      ((∀ x ∈ r.sectors.take w, x.progress = .verified ∨ x.progress = .failed) →
        (∃ x ∈ r.sectors.take w, x.progress = .failed) →
        (r.round = 1 → labelRoundEnd q s = s.mapRec q fun y =>
          { y with
            round := 2
            sectors := y.sectors.map fun z => { z with progress := .pending, attempts := 0, cause := none }
            flags := { y.flags with retried := true } }) ∧
        ∀ u : State, r.round ≠ 1 →
          u = s.mapRec q (fun y => { y with failures := y.failures ++
            (r.sectors.zipIdx (if isPrepare r then 0 else if isSetZones r then 1 else 2)).filterMap fun p =>
              if p.1.progress = .failed then some (p.2, p.1.cause.getD .unreadable) else none }) →
          (isPrepare r = true → labelRoundEnd q s = u.mapMech r.bay fun m =>
            { m with
              mode := match m.mode with
                | .ejecting k _ => .ejecting k .damaged
                | _ => .damaged
              label := none
              map := none
              zones := none
              inhibit := false }) ∧
          (isSetZones r = true → labelRoundEnd q s = setInhibit r.bay u) ∧
          (isFlush r = true → labelRoundEnd q s =
            setInhibit r.bay (u.mapMech r.bay fun m => { m with map := m.map.map fun d => { d with dirty := true } })))) ∧
    (∀ (q : Nat) (r : Rec) (s : State), s.rec? q = some r → isLabelWriter r = false ∨ r.endCause ≠ none →
      labelRoundEnd q s = s) ∧
    (∀ (b : Bay) (s : State),
      ((∀ r ∈ s.recs, isFlush r = true → r.bay = b → r.started = true ∨ r.state = .ending) →
        (s.mechOf b).inhibit = true ∨ isSecondary s b = false →
        setInhibit b s = raise b .mediaAlert (s.mapMech b fun m =>
          { m with inhibit := true, map := m.map.map fun d => { d with pending := .none } })) ∧
      ((setInhibit b s).mechOf b).inhibit = true ∧
      (∃ x ∈ (setInhibit b s).link.reports, x.bay = b ∧ x.body = .mediaAlert) ∧
      (∀ d : DefectMap, ((setInhibit b s).mechOf b).map = some d → d.pending = .none) ∧
      (seqLaw s → (∀ r ∈ s.recs, isFlush r = true → r.bay = b → r.started = false →
          r.state = .ending ∨ (r.state = .waiting ∧ r.endCause = none)) →
        ∀ r ∈ (setInhibit b s).recs, isFlush r = true → r.bay = b → r.started = false → r.state = .ending) ∧
      ∀ (p : Bay) (c g : Nat) (ph : MirrorPhase), s.mirror = .paired p c g ph → b = p.other →
        (∀ x : DegradeCause, ph ≠ .degraded x) → (s.mechOf b).inhibit = false →
        (setInhibit b s).mirror = .paired p c g (.degraded .secondaryInhibited)) ∧
    ∀ r : Rec, r.endCause = none →
      (isPrepare r = true → 6 ≤ r.sectors.length → (∀ x ∈ r.sectors.take 6, x.progress = .verified) →
        (doneOf r).completed = 6) ∧
      (isSetZones r = true → 1 ≤ r.sectors.length → (∀ x ∈ r.sectors.take 1, x.progress = .verified) →
        (doneOf r).completed = 1) ∧
      (isSetZones r = true → (∀ x ∈ r.sectors.take 1, x.progress = .failed) → (doneOf r).completed = 0) ∧
      ((doneOf r).status = if r.failures = [] then .ok else .mediaFault)

/-- The feed is eligible exactly when the stream is PRIMING or RUNNING, some band has sectors to fetch (the first such
is the feed band, its next sector that of index sectors fetched), U is below the high mark, the free space holds the
sector's band bytes, no feed pass is in flight, and neither a writer without its data nor a started BUILD_STEP of
that bay as secondary covers the sector. An eligible feed whose next sector's newest writer holds its data appends
the band bytes of it and looks again. Else its pass is a READ of the next sector and those after it in the band at
consecutive positions of one track, none taken by read-through, at most 17 and within the free space, 4 attempts
each; their band bytes become the reserved bytes and the outcome is FEED. The serial by which the pass knows its
band is the model's own (log entry 35). (R61, R80, R94, R95, R99, R130, R131, R133, R134) -/
def Obligations.FeedPlanned : Prop :=
  (∀ (t : Stream) (s : State), s.stream = some t →
      (feedEligible s = true ↔ (t.phase = .priming ∨ t.phase = .running) ∧
        ∃ x : Band, feedBand t = some x ∧ unsent t < t.marks.high * 1024 ∧ bandBytes x x.fetched ≤ freeSpace t ∧
          feedInFlight s t.bay = false ∧
          (∀ w : Rec, newestWriter s t.bay (x.first + x.fetched) = some w → writerData s w (x.first + x.fetched) ≠ none) ∧
          ∀ o ∈ s.recs, o.kind = .buildStep → o.started = true → o.state ≠ .ending → o.bay = t.bay →
            ¬(o.first ≤ x.first + x.fetched ∧ x.first + x.fetched < o.first + o.count)) ∧
      (∀ x : Band, feedBand t = some x ↔ ∃ xs ys : List Band, t.bands = xs ++ x :: ys ∧ x.fetched < (x.length + 1023) / 1024 ∧
        ∀ y ∈ xs, (y.length + 1023) / 1024 ≤ y.fetched) ∧
      ∀ x : Band, feedBand t = some x →
        (∀ (n : Nat) (d : Data), feedEligible s = true → throughData s t.bay (x.first + x.fetched) = some d →
          feedThrough (n + 1) s = feedThrough n (armingTest (primingTest
            { s with stream := some (enterSector x.number (d.take (bandBytes x x.fetched)) false t) }))) ∧
        (∀ n : Nat, feedEligible s = false ∨ throughData s t.bay (x.first + x.fetched) = none → feedThrough n s = s) ∧
        (feedEligible s = true → throughData s t.bay (x.first + x.fetched) = none →
          ∃ (n : Nat) (l : Loc), 1 ≤ n ∧ n ≤ 17 ∧ l = translate s t.bay (x.first + x.fetched) ∧
            x.fetched + n ≤ (x.length + 1023) / 1024 ∧
            ((List.range n).map fun k => bandBytes x (x.fetched + k)).sum ≤ freeSpace t ∧
            (∀ k : Nat, k < n → translate s t.bay (x.first + (x.fetched + k)) = ⟨l.track, l.sector + k⟩ ∧
              throughData s t.bay (x.first + (x.fetched + k)) = none) ∧
            (n < 17 → x.fetched + n < (x.length + 1023) / 1024 →
              translate s t.bay (x.first + (x.fetched + n)) = ⟨l.track, l.sector + n⟩ →
              throughData s t.bay (x.first + (x.fetched + n)) = none →
              freeSpace t < ((List.range (n + 1)).map fun k => bandBytes x (x.fetched + k)).sum) ∧
            startFeed s = State.mapSched
              { s with
                stream := some { t with reserved := ((List.range n).map fun k => bandBytes x (x.fetched + k)).sum } }
              t.bay fun c =>
                { c with
                  pass := some ⟨.feed x.serial, .read, l.track, l.sector, (List.range n).map (fun k => x.fetched + k),
                    List.replicate n 4, [], [], false⟩
                  last := .feed })) ∧
    ∀ (x : Band) (k : Nat), 1 ≤ x.length → k < (x.length + 1023) / 1024 →
      (k + 1 < (x.length + 1023) / 1024 → bandBytes x k = 1024) ∧
        (k + 1 = (x.length + 1023) / 1024 → bandBytes x k = x.length - 1024 * k ∧ 1 ≤ bandBytes x k ∧ bandBytes x k ≤ 1024)

/-- A feed pass whose band is still in the list and not SPOILED appends to that band's segment the band bytes of its
sectors in order: of the data found, or zeros for a sector found BLANK or failing its attempts. The band's sectors
fetched rise by their number; a sector without data makes it DAMAGED, raises the sectors damaged counter and
BAND_DAMAGED; nothing else of list and ring changes. The band is FETCHED once every sector is fetched and FETCHING
before, unless EXPOSING. The reserved bytes become 0, and the priming and arming tests are made. With its band gone
or SPOILED only the reserved bytes become 0, and with the stream CLOSED nothing changes. PRIMING enters RUNNING, the
ready line high and the bay triggered, at a prime mark reached or every band fetched; the low report is armed at the
high mark, and raised once and spent below the low mark. Whether the pass's band is still in the list is told by the
model's own serial of a band (log entry 35). (R79, R126, R130, R131, R135, R137, R138, R143) -/
def Obligations.FeedCompleted : Prop :=
  (∀ (n : Nat) (found : List (Nat × Found)) (s : State), s.stream = none → completeFeed n found s = s) ∧
    (∀ (n : Nat) (found : List (Nat × Found)) (t : Stream) (s : State), s.stream = some t →
      ((∀ x ∈ t.bands, x.serial = n → ∃ c : SpoilCause, x.state = .spoiled c) →
        completeFeed n found s = { s with stream := some { t with reserved := 0 } }) ∧
      ∀ x ∈ t.bands, x.serial = n → (∀ c : SpoilCause, x.state ≠ .spoiled c) →
        t.bands.Pairwise (fun y z => y.serial ≠ z.serial ∧ y.number ≠ z.number) →
        ∃ (u : State) (v : Stream), completeFeed n found s = armingTest (primingTest u) ∧ u.stream = some v ∧
          u = { s with stream := u.stream, tally := u.tally, link := u.link } ∧
          v = { t with reserved := 0, segments := v.segments, bands := v.bands } ∧
          (∀ m : Nat, m ≠ x.number → segmentOf v m = segmentOf t m) ∧
          (found ≠ [] → ∃ g : Segment, segmentOf v x.number = some g ∧
            g.sent = ((segmentOf t x.number).map Segment.sent).getD 0 ∧
            g.bytes = ((segmentOf t x.number).map Segment.bytes).getD [] ++
              found.flatMap fun p => match p.2 with
                | .data d _ => d.take (bandBytes x p.1)
                | _ => List.replicate (bandBytes x p.1) 0) ∧
          v.bands = t.bands.map (fun y => if y.number = x.number ∧ found ≠ [] then
            { y with
              fetched := y.fetched + found.length
              damaged := y.damaged || found.any (fun p => feedDamaged p.2)
              state := match y.state with
                | .exposing => .exposing
                | _ => if (y.length + 1023) / 1024 ≤ y.fetched + found.length then .fetched else .fetching } else y) ∧
          u.tally = { s.tally with damaged := s.tally.damaged + found.countP fun p => feedDamaged p.2 } ∧
          (found.any (fun p => feedDamaged p.2) = false → u.link = s.link) ∧
          (found.any (fun p => feedDamaged p.2) = true →
            u.link = { s.link with reports := putReport s.link.reports ⟨t.bay, .bandDamaged x.number⟩ })) ∧
    (∀ (d : Data) (n : Nat), feedDamaged (.data d n) = false ∧ feedDamaged .blank = true ∧ feedDamaged (.failed n) = true) ∧
    ∀ (t : Stream) (s : State), s.stream = some t →
      (t.phase = .priming → t.marks.prime * 1024 ≤ unsent t ∨ (∀ x ∈ t.bands, (x.length + 1023) / 1024 ≤ x.fetched) →
        primingTest s = trigger t.bay
          { s with stream := some { t with phase := .running }, port := { s.port with ready := true } }) ∧
      (t.phase ≠ .priming ∨ (unsent t < t.marks.prime * 1024 ∧ ∃ x ∈ t.bands, x.fetched < (x.length + 1023) / 1024) →
        primingTest s = s) ∧
      armingTest s =
        { s with stream := some { t with lowArmed := t.lowArmed || decide (t.marks.high * 1024 ≤ unsent t) } } ∧
      (t.lowArmed = true → unsent t < t.marks.low * 1024 →
        lowTest s = raise t.bay (.streamLow (unsent t)) { s with stream := some { t with lowArmed := false } }) ∧
      (t.lowArmed = false ∨ t.marks.low * 1024 ≤ unsent t → lowTest s = s)

/-- A step that ends with no end cause: with a sector FAILED in its write phase the mirror degrades with BUILD_FAILED;
else its cursor rises by 17 and its gaps by the step's, the sectors whose read on the primary failed, and the next
step is asked for, or at 277,423 the mirror is BOUND and MIRROR_STATE raised. With an end cause, or with no step of
this pairing present, nothing changes. A degrade from BUILDING or BOUND keeps pair, cursor and gaps and raises
MIRROR_STATE for the primary with its cause; every copy in WAITING ends CANCELLED and its write carries DEGRADED,
every BUILD_STEP ends or has its end cause set, and every other record keeps its state and end cause. From UNBOUND
or DEGRADED nothing changes. (R65, R70, R161, R162, R164, R165, R168) -/
def Obligations.MirrorOutcomes : Prop :=
  (∀ (r : Rec) (p : Bay) (c g : Nat) (s : State), s.mirror = .paired p c g (.building .present) →
      (r.endCause ≠ none → stepOutcome r s = s) ∧
      (r.endCause = none → (∃ x ∈ r.sectors, x.progress = .failed) → stepOutcome r s = degrade .buildFailed s) ∧
      (r.endCause = none → (∀ x ∈ r.sectors, x.progress ≠ .failed) →
        (c + 17 < 277423 → stepOutcome r s =
          { s with
            mirror := .paired p (c + 17) (g + r.sectors.countP fun x => decide (x.cause = some .unreadable))
              (.building .deferred) }) ∧
        (277423 ≤ c + 17 → stepOutcome r s = raise p (.mirrorState .bound 277423)
          { s with
            mirror := .paired p 277423 (g + r.sectors.countP fun x => decide (x.cause = some .unreadable)) .bound }))) ∧
    (∀ (r : Rec) (s : State), (∀ (p : Bay) (c g : Nat), s.mirror ≠ .paired p c g (.building .present)) →
      stepOutcome r s = s) ∧
    (∀ (cause : DegradeCause) (s : State),
      (s.mirror = .unbound ∨ ∃ (p : Bay) (c g : Nat) (x : DegradeCause), s.mirror = .paired p c g (.degraded x)) →
      degrade cause s = s) ∧
    ∀ (cause : DegradeCause) (p : Bay) (c g : Nat) (ph : MirrorPhase) (s t : State), s.mirror = .paired p c g ph →
      (∀ x : DegradeCause, ph ≠ .degraded x) → t = degrade cause s →
      t.mirror = .paired p c g (.degraded cause) ∧
        t.link = { s.link with reports := putReport s.link.reports ⟨p, .mirrorState (.degraded cause) c⟩ } ∧
        (seqLaw s →
          t.recs.map (fun r => (r.seq, r.kind, r.link, r.bay, r.level, r.partners, r.failures)) =
            s.recs.map (fun r => (r.seq, r.kind, r.link, r.bay, r.level, r.partners, r.failures)) ∧
          (∀ r ∈ s.recs, r.kind = .mirrorCopy → r.state = .waiting →
            (∃ o : Rec, t.rec? r.seq = some o ∧ (r.endCause = none → o.state = .ending ∧ o.endCause = some .cancelled)) ∧
              ∀ w ∈ s.recs, w.seq ∈ r.partners → ∃ o : Rec, t.rec? w.seq = some o ∧ o.flags.degraded = true) ∧
          (∀ r ∈ s.recs, r.kind = .buildStep →
            ∃ o : Rec, t.rec? r.seq = some o ∧ (o.state = .ending ∨ o.endCause.isSome = true)) ∧
          ∀ r ∈ s.recs, r.kind ≠ .buildStep → (r.kind = .mirrorCopy → r.state ≠ .waiting) →
            ∃ o : Rec, t.rec? r.seq = some o ∧ o.state = r.state ∧ o.endCause = r.endCause ∧
              ((∀ y ∈ s.recs, y.kind = .mirrorCopy → y.state = .waiting → r.seq ∉ y.partners) → o.flags = r.flags))

/-- A read's sector that has failed 4 attempts in all is AWAITING_FALLBACK when the mirror is BUILDING or BOUND, the
read's bay is its primary, the sector is below the build cursor and a place is free: a FALLBACK_READ of that sector
is created on the secondary at the read's level, each naming the other as partner; else it is FAILED with cause
UNREADABLE. A fallback that brings data makes the sector READ and sets FROM_MIRROR; with relocation ON and no end
cause of the read a REPAIR is asked for with the data in the slot; then the read queues its frames. One that found
no data or ended by an end cause makes it FAILED with cause UNREADABLE and the frames are queued, unless the read is
in ENDING by an end cause, when nothing changes; so nothing changes for a sector that no longer waits or a read no
longer in the table. (R43, R54, R63, R66, R70, R100, R103, R166, R167) -/
def Obligations.FallbackOutcomes : Prop :=
  (∀ (q i n : Nat) (r : Rec) (x : Sector) (s u : State), s.rec? q = some r → r.sectors[i]? = some x → r.kind = .read →
      4 ≤ x.attempts + n → u = flagRecord q setRetried s →
      (mirrorPrimary s = some r.bay → r.first + i < buildCursor s → s.recs.length < 16 →
        forcedOut (s.mechOf r.bay.other).mode = false →
        settleRead q i (.failed n) s = trigger r.bay.other (wake r.bay.other
          { u with
            recs := (u.recs.map fun y => if y.seq = q then
                { y with
                  sectors := y.sectors.modify i fun z => { z with progress := .awaitingFallback, attempts := 0 }
                  partners := y.partners ++ [s.nextSeq] } else y) ++
              [{ newRec .fallbackRead none r.bay.other r.level (r.first + i) 1 [⟨.unread, 0, none, false, none⟩] [q] with
                  seq := s.nextSeq }]
            counter := s.counter + 1 })) ∧
      (mirrorPrimary s ≠ some r.bay ∨ buildCursor s ≤ r.first + i ∨ 16 ≤ s.recs.length →
        settleRead q i (.failed n) s = u.mapRec q fun y =>
          { y with sectors := y.sectors.modify i fun z =>
            { z with progress := .failed, attempts := 0, cause := some .unreadable } })) ∧
    (∀ (f : Rec) (s : State), (f.partners.head?.bind s.rec?) = none → fallbackOutcome f s = s) ∧
    ∀ (f r : Rec) (q i : Nat) (qs : List Nat) (x : Sector) (s : State), f.partners = q :: qs → s.rec? q = some r →
      i = f.first - r.first → r.sectors[i]? = some x →
      ((r.endCause ≠ none ∧ r.state = .ending) ∨ x.progress ≠ .awaitingFallback → fallbackOutcome f s = s) ∧
      (r.endCause = none ∨ r.state ≠ .ending → x.progress = .awaitingFallback →
        ∀ u : State,
          u = s.mapRec q (fun y =>
            { y with
              sectors := y.sectors.modify i fun z => { z with progress := .read }
              flags := { y.flags with fromMirror := true } }) →
          (f.endCause = none → (∀ y ∈ f.sectors, y.progress = .read) →
            (s.settings.weak.get r.bay = true → r.endCause = none → fallbackOutcome f s =
              queueFrames q (requestRelocate .repair r.bay f.first ((x.slot.bind (slotData s)).getD []) q u)) ∧
            (s.settings.weak.get r.bay = false ∨ r.endCause ≠ none → fallbackOutcome f s = queueFrames q u)) ∧
          (f.endCause ≠ none ∨ (∃ y ∈ f.sectors, y.progress ≠ .read) → fallbackOutcome f s =
            queueFrames q (s.mapRec q fun y =>
              { y with sectors := y.sectors.modify i fun z =>
                { z with progress := .failed, cause := some .unreadable } })))
end

