-- ==== Sys2Proof/Laws/State.lean ====
section
/-! SUPPORT. One lemma for each field under each modifier of State, and the read-after-write laws of what is kept for each
bay. -/

namespace Sys2Proof

@[simp] theorem Two.get_upd_same {α : Type} (t : Two α) (b : Bay) (f : α → α) : (t.upd b f).get b = f (t.get b) := by
  cases b <;> rfl

theorem Two.get_upd_ne {α : Type} (t : Two α) (b c : Bay) (f : α → α) (h : c ≠ b) : (t.upd b f).get c = t.get c := by
  cases b <;> cases c <;> first | rfl | exact absurd rfl h

@[simp] theorem Two.get_upd_other {α : Type} (t : Two α) (b : Bay) (f : α → α) : (t.upd b f).get b.other = t.get b.other := by
  cases b <;> rfl

@[simp] theorem Bay.other_other (b : Bay) : b.other.other = b := by cases b <;> rfl

theorem Bay.other_ne (b : Bay) : b.other ≠ b := by cases b <;> decide

namespace Machine

variable (s : State)

@[simp] theorem State.mapMech_mech (b : Bay) (f : Mech → Mech) : (s.mapMech b f).mech = s.mech.upd b f := rfl
@[simp] theorem State.mapMech_sched (b : Bay) (f : Mech → Mech) : (s.mapMech b f).sched = s.sched := rfl
@[simp] theorem State.mapMech_slots (b : Bay) (f : Mech → Mech) : (s.mapMech b f).slots = s.slots := rfl
@[simp] theorem State.mapMech_recs (b : Bay) (f : Mech → Mech) : (s.mapMech b f).recs = s.recs := rfl
@[simp] theorem State.mapMech_counter (b : Bay) (f : Mech → Mech) : (s.mapMech b f).counter = s.counter := rfl
@[simp] theorem State.mapMech_stream (b : Bay) (f : Mech → Mech) : (s.mapMech b f).stream = s.stream := rfl
@[simp] theorem State.mapMech_tally (b : Bay) (f : Mech → Mech) : (s.mapMech b f).tally = s.tally := rfl
@[simp] theorem State.mapMech_port (b : Bay) (f : Mech → Mech) : (s.mapMech b f).port = s.port := rfl
@[simp] theorem State.mapMech_mirror (b : Bay) (f : Mech → Mech) : (s.mapMech b f).mirror = s.mirror := rfl
@[simp] theorem State.mapMech_link (b : Bay) (f : Mech → Mech) : (s.mapMech b f).link = s.link := rfl
@[simp] theorem State.mapMech_settings (b : Bay) (f : Mech → Mech) : (s.mapMech b f).settings = s.settings := rfl
@[simp] theorem State.mapMech_choices (b : Bay) (f : Mech → Mech) : (s.mapMech b f).choices = s.choices := rfl
@[simp] theorem State.mapMech_pending (b : Bay) (f : Mech → Mech) : (s.mapMech b f).pending = s.pending := rfl

@[simp] theorem State.mapSched_mech (b : Bay) (f : Sched → Sched) : (s.mapSched b f).mech = s.mech := rfl
@[simp] theorem State.mapSched_sched (b : Bay) (f : Sched → Sched) : (s.mapSched b f).sched = s.sched.upd b f := rfl
@[simp] theorem State.mapSched_slots (b : Bay) (f : Sched → Sched) : (s.mapSched b f).slots = s.slots := rfl
@[simp] theorem State.mapSched_recs (b : Bay) (f : Sched → Sched) : (s.mapSched b f).recs = s.recs := rfl
@[simp] theorem State.mapSched_counter (b : Bay) (f : Sched → Sched) : (s.mapSched b f).counter = s.counter := rfl
@[simp] theorem State.mapSched_stream (b : Bay) (f : Sched → Sched) : (s.mapSched b f).stream = s.stream := rfl
@[simp] theorem State.mapSched_tally (b : Bay) (f : Sched → Sched) : (s.mapSched b f).tally = s.tally := rfl
@[simp] theorem State.mapSched_port (b : Bay) (f : Sched → Sched) : (s.mapSched b f).port = s.port := rfl
@[simp] theorem State.mapSched_mirror (b : Bay) (f : Sched → Sched) : (s.mapSched b f).mirror = s.mirror := rfl
@[simp] theorem State.mapSched_link (b : Bay) (f : Sched → Sched) : (s.mapSched b f).link = s.link := rfl
@[simp] theorem State.mapSched_settings (b : Bay) (f : Sched → Sched) : (s.mapSched b f).settings = s.settings := rfl
@[simp] theorem State.mapSched_choices (b : Bay) (f : Sched → Sched) : (s.mapSched b f).choices = s.choices := rfl
@[simp] theorem State.mapSched_pending (b : Bay) (f : Sched → Sched) : (s.mapSched b f).pending = s.pending := rfl

@[simp] theorem State.withSlots_mech (x : List Slot) : (s.withSlots x).mech = s.mech := rfl
@[simp] theorem State.withSlots_sched (x : List Slot) : (s.withSlots x).sched = s.sched := rfl
@[simp] theorem State.withSlots_slots (x : List Slot) : (s.withSlots x).slots = x := rfl
@[simp] theorem State.withSlots_recs (x : List Slot) : (s.withSlots x).recs = s.recs := rfl
@[simp] theorem State.withSlots_counter (x : List Slot) : (s.withSlots x).counter = s.counter := rfl
@[simp] theorem State.withSlots_stream (x : List Slot) : (s.withSlots x).stream = s.stream := rfl
@[simp] theorem State.withSlots_tally (x : List Slot) : (s.withSlots x).tally = s.tally := rfl
@[simp] theorem State.withSlots_port (x : List Slot) : (s.withSlots x).port = s.port := rfl
@[simp] theorem State.withSlots_mirror (x : List Slot) : (s.withSlots x).mirror = s.mirror := rfl
@[simp] theorem State.withSlots_link (x : List Slot) : (s.withSlots x).link = s.link := rfl
@[simp] theorem State.withSlots_settings (x : List Slot) : (s.withSlots x).settings = s.settings := rfl
@[simp] theorem State.withSlots_choices (x : List Slot) : (s.withSlots x).choices = s.choices := rfl
@[simp] theorem State.withSlots_pending (x : List Slot) : (s.withSlots x).pending = s.pending := rfl

@[simp] theorem State.withRecs_mech (x : List Rec) : (s.withRecs x).mech = s.mech := rfl
@[simp] theorem State.withRecs_sched (x : List Rec) : (s.withRecs x).sched = s.sched := rfl
@[simp] theorem State.withRecs_slots (x : List Rec) : (s.withRecs x).slots = s.slots := rfl
@[simp] theorem State.withRecs_recs (x : List Rec) : (s.withRecs x).recs = x := rfl
@[simp] theorem State.withRecs_counter (x : List Rec) : (s.withRecs x).counter = s.counter := rfl
@[simp] theorem State.withRecs_stream (x : List Rec) : (s.withRecs x).stream = s.stream := rfl
@[simp] theorem State.withRecs_tally (x : List Rec) : (s.withRecs x).tally = s.tally := rfl
@[simp] theorem State.withRecs_port (x : List Rec) : (s.withRecs x).port = s.port := rfl
@[simp] theorem State.withRecs_mirror (x : List Rec) : (s.withRecs x).mirror = s.mirror := rfl
@[simp] theorem State.withRecs_link (x : List Rec) : (s.withRecs x).link = s.link := rfl
@[simp] theorem State.withRecs_settings (x : List Rec) : (s.withRecs x).settings = s.settings := rfl
@[simp] theorem State.withRecs_choices (x : List Rec) : (s.withRecs x).choices = s.choices := rfl
@[simp] theorem State.withRecs_pending (x : List Rec) : (s.withRecs x).pending = s.pending := rfl

@[simp] theorem State.withCounter_mech (n : BitVec 48) : (s.withCounter n).mech = s.mech := rfl
@[simp] theorem State.withCounter_sched (n : BitVec 48) : (s.withCounter n).sched = s.sched := rfl
@[simp] theorem State.withCounter_slots (n : BitVec 48) : (s.withCounter n).slots = s.slots := rfl
@[simp] theorem State.withCounter_recs (n : BitVec 48) : (s.withCounter n).recs = s.recs := rfl
@[simp] theorem State.withCounter_counter (n : BitVec 48) : (s.withCounter n).counter = n := rfl
@[simp] theorem State.withCounter_stream (n : BitVec 48) : (s.withCounter n).stream = s.stream := rfl
@[simp] theorem State.withCounter_tally (n : BitVec 48) : (s.withCounter n).tally = s.tally := rfl
@[simp] theorem State.withCounter_port (n : BitVec 48) : (s.withCounter n).port = s.port := rfl
@[simp] theorem State.withCounter_mirror (n : BitVec 48) : (s.withCounter n).mirror = s.mirror := rfl
@[simp] theorem State.withCounter_link (n : BitVec 48) : (s.withCounter n).link = s.link := rfl
@[simp] theorem State.withCounter_settings (n : BitVec 48) : (s.withCounter n).settings = s.settings := rfl
@[simp] theorem State.withCounter_choices (n : BitVec 48) : (s.withCounter n).choices = s.choices := rfl
@[simp] theorem State.withCounter_pending (n : BitVec 48) : (s.withCounter n).pending = s.pending := rfl

@[simp] theorem State.withStream_mech (x : Option Stream) : (s.withStream x).mech = s.mech := rfl
@[simp] theorem State.withStream_sched (x : Option Stream) : (s.withStream x).sched = s.sched := rfl
@[simp] theorem State.withStream_slots (x : Option Stream) : (s.withStream x).slots = s.slots := rfl
@[simp] theorem State.withStream_recs (x : Option Stream) : (s.withStream x).recs = s.recs := rfl
@[simp] theorem State.withStream_counter (x : Option Stream) : (s.withStream x).counter = s.counter := rfl
@[simp] theorem State.withStream_stream (x : Option Stream) : (s.withStream x).stream = x := rfl
@[simp] theorem State.withStream_tally (x : Option Stream) : (s.withStream x).tally = s.tally := rfl
@[simp] theorem State.withStream_port (x : Option Stream) : (s.withStream x).port = s.port := rfl
@[simp] theorem State.withStream_mirror (x : Option Stream) : (s.withStream x).mirror = s.mirror := rfl
@[simp] theorem State.withStream_link (x : Option Stream) : (s.withStream x).link = s.link := rfl
@[simp] theorem State.withStream_settings (x : Option Stream) : (s.withStream x).settings = s.settings := rfl
@[simp] theorem State.withStream_choices (x : Option Stream) : (s.withStream x).choices = s.choices := rfl
@[simp] theorem State.withStream_pending (x : Option Stream) : (s.withStream x).pending = s.pending := rfl

@[simp] theorem State.mapTally_mech (f : Tally → Tally) : (s.mapTally f).mech = s.mech := rfl
@[simp] theorem State.mapTally_sched (f : Tally → Tally) : (s.mapTally f).sched = s.sched := rfl
@[simp] theorem State.mapTally_slots (f : Tally → Tally) : (s.mapTally f).slots = s.slots := rfl
@[simp] theorem State.mapTally_recs (f : Tally → Tally) : (s.mapTally f).recs = s.recs := rfl
@[simp] theorem State.mapTally_counter (f : Tally → Tally) : (s.mapTally f).counter = s.counter := rfl
@[simp] theorem State.mapTally_stream (f : Tally → Tally) : (s.mapTally f).stream = s.stream := rfl
@[simp] theorem State.mapTally_tally (f : Tally → Tally) : (s.mapTally f).tally = f s.tally := rfl
@[simp] theorem State.mapTally_port (f : Tally → Tally) : (s.mapTally f).port = s.port := rfl
@[simp] theorem State.mapTally_mirror (f : Tally → Tally) : (s.mapTally f).mirror = s.mirror := rfl
@[simp] theorem State.mapTally_link (f : Tally → Tally) : (s.mapTally f).link = s.link := rfl
@[simp] theorem State.mapTally_settings (f : Tally → Tally) : (s.mapTally f).settings = s.settings := rfl
@[simp] theorem State.mapTally_choices (f : Tally → Tally) : (s.mapTally f).choices = s.choices := rfl
@[simp] theorem State.mapTally_pending (f : Tally → Tally) : (s.mapTally f).pending = s.pending := rfl

@[simp] theorem State.mapPort_mech (f : Port → Port) : (s.mapPort f).mech = s.mech := rfl
@[simp] theorem State.mapPort_sched (f : Port → Port) : (s.mapPort f).sched = s.sched := rfl
@[simp] theorem State.mapPort_slots (f : Port → Port) : (s.mapPort f).slots = s.slots := rfl
@[simp] theorem State.mapPort_recs (f : Port → Port) : (s.mapPort f).recs = s.recs := rfl
@[simp] theorem State.mapPort_counter (f : Port → Port) : (s.mapPort f).counter = s.counter := rfl
@[simp] theorem State.mapPort_stream (f : Port → Port) : (s.mapPort f).stream = s.stream := rfl
@[simp] theorem State.mapPort_tally (f : Port → Port) : (s.mapPort f).tally = s.tally := rfl
@[simp] theorem State.mapPort_port (f : Port → Port) : (s.mapPort f).port = f s.port := rfl
@[simp] theorem State.mapPort_mirror (f : Port → Port) : (s.mapPort f).mirror = s.mirror := rfl
@[simp] theorem State.mapPort_link (f : Port → Port) : (s.mapPort f).link = s.link := rfl
@[simp] theorem State.mapPort_settings (f : Port → Port) : (s.mapPort f).settings = s.settings := rfl
@[simp] theorem State.mapPort_choices (f : Port → Port) : (s.mapPort f).choices = s.choices := rfl
@[simp] theorem State.mapPort_pending (f : Port → Port) : (s.mapPort f).pending = s.pending := rfl

@[simp] theorem State.withMirror_mech (m : Mirror) : (s.withMirror m).mech = s.mech := rfl
@[simp] theorem State.withMirror_sched (m : Mirror) : (s.withMirror m).sched = s.sched := rfl
@[simp] theorem State.withMirror_slots (m : Mirror) : (s.withMirror m).slots = s.slots := rfl
@[simp] theorem State.withMirror_recs (m : Mirror) : (s.withMirror m).recs = s.recs := rfl
@[simp] theorem State.withMirror_counter (m : Mirror) : (s.withMirror m).counter = s.counter := rfl
@[simp] theorem State.withMirror_stream (m : Mirror) : (s.withMirror m).stream = s.stream := rfl
@[simp] theorem State.withMirror_tally (m : Mirror) : (s.withMirror m).tally = s.tally := rfl
@[simp] theorem State.withMirror_port (m : Mirror) : (s.withMirror m).port = s.port := rfl
@[simp] theorem State.withMirror_mirror (m : Mirror) : (s.withMirror m).mirror = m := rfl
@[simp] theorem State.withMirror_link (m : Mirror) : (s.withMirror m).link = s.link := rfl
@[simp] theorem State.withMirror_settings (m : Mirror) : (s.withMirror m).settings = s.settings := rfl
@[simp] theorem State.withMirror_choices (m : Mirror) : (s.withMirror m).choices = s.choices := rfl
@[simp] theorem State.withMirror_pending (m : Mirror) : (s.withMirror m).pending = s.pending := rfl

@[simp] theorem State.mapLink_mech (f : Link → Link) : (s.mapLink f).mech = s.mech := rfl
@[simp] theorem State.mapLink_sched (f : Link → Link) : (s.mapLink f).sched = s.sched := rfl
@[simp] theorem State.mapLink_slots (f : Link → Link) : (s.mapLink f).slots = s.slots := rfl
@[simp] theorem State.mapLink_recs (f : Link → Link) : (s.mapLink f).recs = s.recs := rfl
@[simp] theorem State.mapLink_counter (f : Link → Link) : (s.mapLink f).counter = s.counter := rfl
@[simp] theorem State.mapLink_stream (f : Link → Link) : (s.mapLink f).stream = s.stream := rfl
@[simp] theorem State.mapLink_tally (f : Link → Link) : (s.mapLink f).tally = s.tally := rfl
@[simp] theorem State.mapLink_port (f : Link → Link) : (s.mapLink f).port = s.port := rfl
@[simp] theorem State.mapLink_mirror (f : Link → Link) : (s.mapLink f).mirror = s.mirror := rfl
@[simp] theorem State.mapLink_link (f : Link → Link) : (s.mapLink f).link = f s.link := rfl
@[simp] theorem State.mapLink_settings (f : Link → Link) : (s.mapLink f).settings = s.settings := rfl
@[simp] theorem State.mapLink_choices (f : Link → Link) : (s.mapLink f).choices = s.choices := rfl
@[simp] theorem State.mapLink_pending (f : Link → Link) : (s.mapLink f).pending = s.pending := rfl

@[simp] theorem State.withSettings_mech (x : Settings) : (s.withSettings x).mech = s.mech := rfl
@[simp] theorem State.withSettings_sched (x : Settings) : (s.withSettings x).sched = s.sched := rfl
@[simp] theorem State.withSettings_slots (x : Settings) : (s.withSettings x).slots = s.slots := rfl
@[simp] theorem State.withSettings_recs (x : Settings) : (s.withSettings x).recs = s.recs := rfl
@[simp] theorem State.withSettings_counter (x : Settings) : (s.withSettings x).counter = s.counter := rfl
@[simp] theorem State.withSettings_stream (x : Settings) : (s.withSettings x).stream = s.stream := rfl
@[simp] theorem State.withSettings_tally (x : Settings) : (s.withSettings x).tally = s.tally := rfl
@[simp] theorem State.withSettings_port (x : Settings) : (s.withSettings x).port = s.port := rfl
@[simp] theorem State.withSettings_mirror (x : Settings) : (s.withSettings x).mirror = s.mirror := rfl
@[simp] theorem State.withSettings_link (x : Settings) : (s.withSettings x).link = s.link := rfl
@[simp] theorem State.withSettings_settings (x : Settings) : (s.withSettings x).settings = x := rfl
@[simp] theorem State.withSettings_choices (x : Settings) : (s.withSettings x).choices = s.choices := rfl
@[simp] theorem State.withSettings_pending (x : Settings) : (s.withSettings x).pending = s.pending := rfl

@[simp] theorem State.choose_mech : (s.choose).mech = s.mech := rfl
@[simp] theorem State.choose_sched : (s.choose).sched = s.sched := rfl
@[simp] theorem State.choose_slots : (s.choose).slots = s.slots := rfl
@[simp] theorem State.choose_recs : (s.choose).recs = s.recs := rfl
@[simp] theorem State.choose_counter : (s.choose).counter = s.counter := rfl
@[simp] theorem State.choose_stream : (s.choose).stream = s.stream := rfl
@[simp] theorem State.choose_tally : (s.choose).tally = s.tally := rfl
@[simp] theorem State.choose_port : (s.choose).port = s.port := rfl
@[simp] theorem State.choose_mirror : (s.choose).mirror = s.mirror := rfl
@[simp] theorem State.choose_link : (s.choose).link = s.link := rfl
@[simp] theorem State.choose_settings : (s.choose).settings = s.settings := rfl
@[simp] theorem State.choose_choices : (s.choose).choices = s.choices + 1 := rfl
@[simp] theorem State.choose_pending : (s.choose).pending = s.pending := rfl

@[simp] theorem State.withPending_mech (q : List Instr) : (s.withPending q).mech = s.mech := rfl
@[simp] theorem State.withPending_sched (q : List Instr) : (s.withPending q).sched = s.sched := rfl
@[simp] theorem State.withPending_slots (q : List Instr) : (s.withPending q).slots = s.slots := rfl
@[simp] theorem State.withPending_recs (q : List Instr) : (s.withPending q).recs = s.recs := rfl
@[simp] theorem State.withPending_counter (q : List Instr) : (s.withPending q).counter = s.counter := rfl
@[simp] theorem State.withPending_stream (q : List Instr) : (s.withPending q).stream = s.stream := rfl
@[simp] theorem State.withPending_tally (q : List Instr) : (s.withPending q).tally = s.tally := rfl
@[simp] theorem State.withPending_port (q : List Instr) : (s.withPending q).port = s.port := rfl
@[simp] theorem State.withPending_mirror (q : List Instr) : (s.withPending q).mirror = s.mirror := rfl
@[simp] theorem State.withPending_link (q : List Instr) : (s.withPending q).link = s.link := rfl
@[simp] theorem State.withPending_settings (q : List Instr) : (s.withPending q).settings = s.settings := rfl
@[simp] theorem State.withPending_choices (q : List Instr) : (s.withPending q).choices = s.choices := rfl
@[simp] theorem State.withPending_pending (q : List Instr) : (s.withPending q).pending = q := rfl

@[simp] theorem State.mapMech_mechOf (b : Bay) (f : Mech → Mech) : (s.mapMech b f).mechOf b = f (s.mechOf b) := by
  cases b <;> rfl

theorem State.mapMech_mechOf_ne (b c : Bay) (f : Mech → Mech) (h : c ≠ b) : (s.mapMech b f).mechOf c = s.mechOf c :=
  Two.get_upd_ne _ _ _ _ h

@[simp] theorem State.mapMech_schedOf (b c : Bay) (f : Mech → Mech) : (s.mapMech b f).schedOf c = s.schedOf c := rfl

@[simp] theorem State.mapSched_schedOf (b : Bay) (f : Sched → Sched) : (s.mapSched b f).schedOf b = f (s.schedOf b) := by
  cases b <;> rfl

theorem State.mapSched_schedOf_ne (b c : Bay) (f : Sched → Sched) (h : c ≠ b) :
    (s.mapSched b f).schedOf c = s.schedOf c :=
  Two.get_upd_ne _ _ _ _ h

@[simp] theorem State.mapSched_mechOf (b c : Bay) (f : Sched → Sched) : (s.mapSched b f).mechOf c = s.mechOf c := rfl

@[simp] theorem State.mapLink_mechOf (f : Link → Link) (c : Bay) : (s.mapLink f).mechOf c = s.mechOf c := rfl

@[simp] theorem State.mapLink_schedOf (f : Link → Link) (c : Bay) : (s.mapLink f).schedOf c = s.schedOf c := rfl

@[simp] theorem State.withRecs_mechOf (x : List Rec) (c : Bay) : (s.withRecs x).mechOf c = s.mechOf c := rfl

@[simp] theorem State.withRecs_schedOf (x : List Rec) (c : Bay) : (s.withRecs x).schedOf c = s.schedOf c := rfl

@[simp] theorem State.withSlots_mechOf (x : List Slot) (c : Bay) : (s.withSlots x).mechOf c = s.mechOf c := rfl

@[simp] theorem State.withSlots_schedOf (x : List Slot) (c : Bay) : (s.withSlots x).schedOf c = s.schedOf c := rfl

@[simp] theorem State.withStream_mechOf (x : Option Stream) (c : Bay) : (s.withStream x).mechOf c = s.mechOf c := rfl

@[simp] theorem State.withStream_schedOf (x : Option Stream) (c : Bay) : (s.withStream x).schedOf c = s.schedOf c := rfl

@[simp] theorem State.mapTally_mechOf (f : Tally → Tally) (c : Bay) : (s.mapTally f).mechOf c = s.mechOf c := rfl

@[simp] theorem State.mapPort_mechOf (f : Port → Port) (c : Bay) : (s.mapPort f).mechOf c = s.mechOf c := rfl

@[simp] theorem State.withMirror_mechOf (m : Mirror) (c : Bay) : (s.withMirror m).mechOf c = s.mechOf c := rfl

end Machine

end Sys2Proof
end

