-- ==== Sys2Proof/Laws/Ops.lean ====
section
/-! SUPPORT. What each small shared operation leaves alone, field by field, and what the operations over records, slots,
replies and reports do. -/

namespace Sys2Proof.Machine

variable (s : State)

@[simp] theorem trigger_mech (b : Bay) : (trigger b s).mech = s.mech := rfl
@[simp] theorem trigger_slots (b : Bay) : (trigger b s).slots = s.slots := rfl
@[simp] theorem trigger_recs (b : Bay) : (trigger b s).recs = s.recs := rfl
@[simp] theorem trigger_counter (b : Bay) : (trigger b s).counter = s.counter := rfl
@[simp] theorem trigger_stream (b : Bay) : (trigger b s).stream = s.stream := rfl
@[simp] theorem trigger_tally (b : Bay) : (trigger b s).tally = s.tally := rfl
@[simp] theorem trigger_port (b : Bay) : (trigger b s).port = s.port := rfl
@[simp] theorem trigger_mirror (b : Bay) : (trigger b s).mirror = s.mirror := rfl
@[simp] theorem trigger_link (b : Bay) : (trigger b s).link = s.link := rfl
@[simp] theorem trigger_settings (b : Bay) : (trigger b s).settings = s.settings := rfl
@[simp] theorem trigger_choices (b : Bay) : (trigger b s).choices = s.choices := rfl
@[simp] theorem trigger_pending (b : Bay) : (trigger b s).pending = s.pending := rfl

@[simp] theorem reply_mech (ch tag : Nat) (body : ReplyBody) (owner : Option Nat) : (reply ch tag body owner s).mech = s.mech := rfl
@[simp] theorem reply_sched (ch tag : Nat) (body : ReplyBody) (owner : Option Nat) : (reply ch tag body owner s).sched = s.sched := rfl
@[simp] theorem reply_slots (ch tag : Nat) (body : ReplyBody) (owner : Option Nat) : (reply ch tag body owner s).slots = s.slots := rfl
@[simp] theorem reply_recs (ch tag : Nat) (body : ReplyBody) (owner : Option Nat) : (reply ch tag body owner s).recs = s.recs := rfl
@[simp] theorem reply_counter (ch tag : Nat) (body : ReplyBody) (owner : Option Nat) : (reply ch tag body owner s).counter = s.counter := rfl
@[simp] theorem reply_stream (ch tag : Nat) (body : ReplyBody) (owner : Option Nat) : (reply ch tag body owner s).stream = s.stream := rfl
@[simp] theorem reply_tally (ch tag : Nat) (body : ReplyBody) (owner : Option Nat) : (reply ch tag body owner s).tally = s.tally := rfl
@[simp] theorem reply_port (ch tag : Nat) (body : ReplyBody) (owner : Option Nat) : (reply ch tag body owner s).port = s.port := rfl
@[simp] theorem reply_mirror (ch tag : Nat) (body : ReplyBody) (owner : Option Nat) : (reply ch tag body owner s).mirror = s.mirror := rfl
@[simp] theorem reply_settings (ch tag : Nat) (body : ReplyBody) (owner : Option Nat) : (reply ch tag body owner s).settings = s.settings := rfl
@[simp] theorem reply_choices (ch tag : Nat) (body : ReplyBody) (owner : Option Nat) : (reply ch tag body owner s).choices = s.choices := rfl
@[simp] theorem reply_pending (ch tag : Nat) (body : ReplyBody) (owner : Option Nat) : (reply ch tag body owner s).pending = s.pending := rfl

@[simp] theorem refuse_mech (ch tag : Nat) (c : Code) : (refuse ch tag c s).mech = s.mech := rfl
@[simp] theorem refuse_sched (ch tag : Nat) (c : Code) : (refuse ch tag c s).sched = s.sched := rfl
@[simp] theorem refuse_slots (ch tag : Nat) (c : Code) : (refuse ch tag c s).slots = s.slots := rfl
@[simp] theorem refuse_recs (ch tag : Nat) (c : Code) : (refuse ch tag c s).recs = s.recs := rfl
@[simp] theorem refuse_counter (ch tag : Nat) (c : Code) : (refuse ch tag c s).counter = s.counter := rfl
@[simp] theorem refuse_stream (ch tag : Nat) (c : Code) : (refuse ch tag c s).stream = s.stream := rfl
@[simp] theorem refuse_tally (ch tag : Nat) (c : Code) : (refuse ch tag c s).tally = s.tally := rfl
@[simp] theorem refuse_port (ch tag : Nat) (c : Code) : (refuse ch tag c s).port = s.port := rfl
@[simp] theorem refuse_mirror (ch tag : Nat) (c : Code) : (refuse ch tag c s).mirror = s.mirror := rfl
@[simp] theorem refuse_settings (ch tag : Nat) (c : Code) : (refuse ch tag c s).settings = s.settings := rfl
@[simp] theorem refuse_choices (ch tag : Nat) (c : Code) : (refuse ch tag c s).choices = s.choices := rfl
@[simp] theorem refuse_pending (ch tag : Nat) (c : Code) : (refuse ch tag c s).pending = s.pending := rfl

@[simp] theorem doneNow_mech (ch tag n : Nat) : (doneNow ch tag n s).mech = s.mech := rfl
@[simp] theorem doneNow_sched (ch tag n : Nat) : (doneNow ch tag n s).sched = s.sched := rfl
@[simp] theorem doneNow_slots (ch tag n : Nat) : (doneNow ch tag n s).slots = s.slots := rfl
@[simp] theorem doneNow_recs (ch tag n : Nat) : (doneNow ch tag n s).recs = s.recs := rfl
@[simp] theorem doneNow_counter (ch tag n : Nat) : (doneNow ch tag n s).counter = s.counter := rfl
@[simp] theorem doneNow_stream (ch tag n : Nat) : (doneNow ch tag n s).stream = s.stream := rfl
@[simp] theorem doneNow_tally (ch tag n : Nat) : (doneNow ch tag n s).tally = s.tally := rfl
@[simp] theorem doneNow_port (ch tag n : Nat) : (doneNow ch tag n s).port = s.port := rfl
@[simp] theorem doneNow_mirror (ch tag n : Nat) : (doneNow ch tag n s).mirror = s.mirror := rfl
@[simp] theorem doneNow_settings (ch tag n : Nat) : (doneNow ch tag n s).settings = s.settings := rfl
@[simp] theorem doneNow_choices (ch tag n : Nat) : (doneNow ch tag n s).choices = s.choices := rfl
@[simp] theorem doneNow_pending (ch tag n : Nat) : (doneNow ch tag n s).pending = s.pending := rfl

@[simp] theorem raise_mech (b : Bay) (body : ReportBody) : (raise b body s).mech = s.mech := rfl
@[simp] theorem raise_sched (b : Bay) (body : ReportBody) : (raise b body s).sched = s.sched := rfl
@[simp] theorem raise_slots (b : Bay) (body : ReportBody) : (raise b body s).slots = s.slots := rfl
@[simp] theorem raise_recs (b : Bay) (body : ReportBody) : (raise b body s).recs = s.recs := rfl
@[simp] theorem raise_counter (b : Bay) (body : ReportBody) : (raise b body s).counter = s.counter := rfl
@[simp] theorem raise_stream (b : Bay) (body : ReportBody) : (raise b body s).stream = s.stream := rfl
@[simp] theorem raise_tally (b : Bay) (body : ReportBody) : (raise b body s).tally = s.tally := rfl
@[simp] theorem raise_port (b : Bay) (body : ReportBody) : (raise b body s).port = s.port := rfl
@[simp] theorem raise_mirror (b : Bay) (body : ReportBody) : (raise b body s).mirror = s.mirror := rfl
@[simp] theorem raise_settings (b : Bay) (body : ReportBody) : (raise b body s).settings = s.settings := rfl
@[simp] theorem raise_choices (b : Bay) (body : ReportBody) : (raise b body s).choices = s.choices := rfl
@[simp] theorem raise_pending (b : Bay) (body : ReportBody) : (raise b body s).pending = s.pending := rfl

@[simp] theorem selectNext_mech : (selectNext s).mech = s.mech := rfl
@[simp] theorem selectNext_sched : (selectNext s).sched = s.sched := rfl
@[simp] theorem selectNext_slots : (selectNext s).slots = s.slots := rfl
@[simp] theorem selectNext_recs : (selectNext s).recs = s.recs := rfl
@[simp] theorem selectNext_counter : (selectNext s).counter = s.counter := rfl
@[simp] theorem selectNext_stream : (selectNext s).stream = s.stream := rfl
@[simp] theorem selectNext_tally : (selectNext s).tally = s.tally := rfl
@[simp] theorem selectNext_port : (selectNext s).port = s.port := rfl
@[simp] theorem selectNext_mirror : (selectNext s).mirror = s.mirror := rfl
@[simp] theorem selectNext_settings : (selectNext s).settings = s.settings := rfl
@[simp] theorem selectNext_choices : (selectNext s).choices = s.choices := rfl
@[simp] theorem selectNext_pending : (selectNext s).pending = s.pending := rfl

@[simp] theorem wake_sched (b : Bay) : (wake b s).sched = s.sched := rfl
@[simp] theorem wake_slots (b : Bay) : (wake b s).slots = s.slots := rfl
@[simp] theorem wake_recs (b : Bay) : (wake b s).recs = s.recs := rfl
@[simp] theorem wake_counter (b : Bay) : (wake b s).counter = s.counter := rfl
@[simp] theorem wake_stream (b : Bay) : (wake b s).stream = s.stream := rfl
@[simp] theorem wake_tally (b : Bay) : (wake b s).tally = s.tally := rfl
@[simp] theorem wake_port (b : Bay) : (wake b s).port = s.port := rfl
@[simp] theorem wake_mirror (b : Bay) : (wake b s).mirror = s.mirror := rfl
@[simp] theorem wake_link (b : Bay) : (wake b s).link = s.link := rfl
@[simp] theorem wake_settings (b : Bay) : (wake b s).settings = s.settings := rfl
@[simp] theorem wake_choices (b : Bay) : (wake b s).choices = s.choices := rfl
@[simp] theorem wake_pending (b : Bay) : (wake b s).pending = s.pending := rfl

@[simp] theorem fillSlot_mech (i : Nat) (d : Option Data) : (fillSlot i d s).mech = s.mech := rfl
@[simp] theorem fillSlot_sched (i : Nat) (d : Option Data) : (fillSlot i d s).sched = s.sched := rfl
@[simp] theorem fillSlot_recs (i : Nat) (d : Option Data) : (fillSlot i d s).recs = s.recs := rfl
@[simp] theorem fillSlot_counter (i : Nat) (d : Option Data) : (fillSlot i d s).counter = s.counter := rfl
@[simp] theorem fillSlot_stream (i : Nat) (d : Option Data) : (fillSlot i d s).stream = s.stream := rfl
@[simp] theorem fillSlot_tally (i : Nat) (d : Option Data) : (fillSlot i d s).tally = s.tally := rfl
@[simp] theorem fillSlot_port (i : Nat) (d : Option Data) : (fillSlot i d s).port = s.port := rfl
@[simp] theorem fillSlot_mirror (i : Nat) (d : Option Data) : (fillSlot i d s).mirror = s.mirror := rfl
@[simp] theorem fillSlot_link (i : Nat) (d : Option Data) : (fillSlot i d s).link = s.link := rfl
@[simp] theorem fillSlot_settings (i : Nat) (d : Option Data) : (fillSlot i d s).settings = s.settings := rfl
@[simp] theorem fillSlot_choices (i : Nat) (d : Option Data) : (fillSlot i d s).choices = s.choices := rfl
@[simp] theorem fillSlot_pending (i : Nat) (d : Option Data) : (fillSlot i d s).pending = s.pending := rfl

@[simp] theorem putSlots_mech (ids : List Nat) (x : Slot) : (putSlots ids x s).mech = s.mech := rfl
@[simp] theorem putSlots_sched (ids : List Nat) (x : Slot) : (putSlots ids x s).sched = s.sched := rfl
@[simp] theorem putSlots_recs (ids : List Nat) (x : Slot) : (putSlots ids x s).recs = s.recs := rfl
@[simp] theorem putSlots_counter (ids : List Nat) (x : Slot) : (putSlots ids x s).counter = s.counter := rfl
@[simp] theorem putSlots_stream (ids : List Nat) (x : Slot) : (putSlots ids x s).stream = s.stream := rfl
@[simp] theorem putSlots_tally (ids : List Nat) (x : Slot) : (putSlots ids x s).tally = s.tally := rfl
@[simp] theorem putSlots_port (ids : List Nat) (x : Slot) : (putSlots ids x s).port = s.port := rfl
@[simp] theorem putSlots_mirror (ids : List Nat) (x : Slot) : (putSlots ids x s).mirror = s.mirror := rfl
@[simp] theorem putSlots_link (ids : List Nat) (x : Slot) : (putSlots ids x s).link = s.link := rfl
@[simp] theorem putSlots_settings (ids : List Nat) (x : Slot) : (putSlots ids x s).settings = s.settings := rfl
@[simp] theorem putSlots_choices (ids : List Nat) (x : Slot) : (putSlots ids x s).choices = s.choices := rfl
@[simp] theorem putSlots_pending (ids : List Nat) (x : Slot) : (putSlots ids x s).pending = s.pending := rfl

@[simp] theorem shareSlots_mech (h : Holder) (ids : List Nat) : (shareSlots h ids s).mech = s.mech := rfl
@[simp] theorem shareSlots_sched (h : Holder) (ids : List Nat) : (shareSlots h ids s).sched = s.sched := rfl
@[simp] theorem shareSlots_recs (h : Holder) (ids : List Nat) : (shareSlots h ids s).recs = s.recs := rfl
@[simp] theorem shareSlots_counter (h : Holder) (ids : List Nat) : (shareSlots h ids s).counter = s.counter := rfl
@[simp] theorem shareSlots_stream (h : Holder) (ids : List Nat) : (shareSlots h ids s).stream = s.stream := rfl
@[simp] theorem shareSlots_tally (h : Holder) (ids : List Nat) : (shareSlots h ids s).tally = s.tally := rfl
@[simp] theorem shareSlots_port (h : Holder) (ids : List Nat) : (shareSlots h ids s).port = s.port := rfl
@[simp] theorem shareSlots_mirror (h : Holder) (ids : List Nat) : (shareSlots h ids s).mirror = s.mirror := rfl
@[simp] theorem shareSlots_link (h : Holder) (ids : List Nat) : (shareSlots h ids s).link = s.link := rfl
@[simp] theorem shareSlots_settings (h : Holder) (ids : List Nat) : (shareSlots h ids s).settings = s.settings := rfl
@[simp] theorem shareSlots_choices (h : Holder) (ids : List Nat) : (shareSlots h ids s).choices = s.choices := rfl
@[simp] theorem shareSlots_pending (h : Holder) (ids : List Nat) : (shareSlots h ids s).pending = s.pending := rfl

@[simp] theorem setAssembly_mech (x : Assembly) : (setAssembly x s).mech = s.mech := rfl
@[simp] theorem setAssembly_sched (x : Assembly) : (setAssembly x s).sched = s.sched := rfl
@[simp] theorem setAssembly_slots (x : Assembly) : (setAssembly x s).slots = s.slots := rfl
@[simp] theorem setAssembly_recs (x : Assembly) : (setAssembly x s).recs = s.recs := rfl
@[simp] theorem setAssembly_counter (x : Assembly) : (setAssembly x s).counter = s.counter := rfl
@[simp] theorem setAssembly_stream (x : Assembly) : (setAssembly x s).stream = s.stream := rfl
@[simp] theorem setAssembly_tally (x : Assembly) : (setAssembly x s).tally = s.tally := rfl
@[simp] theorem setAssembly_port (x : Assembly) : (setAssembly x s).port = s.port := rfl
@[simp] theorem setAssembly_mirror (x : Assembly) : (setAssembly x s).mirror = s.mirror := rfl
@[simp] theorem setAssembly_settings (x : Assembly) : (setAssembly x s).settings = s.settings := rfl
@[simp] theorem setAssembly_choices (x : Assembly) : (setAssembly x s).choices = s.choices := rfl
@[simp] theorem setAssembly_pending (x : Assembly) : (setAssembly x s).pending = s.pending := rfl

@[simp] theorem withhold_mech (x : Byte) : (withhold x s).mech = s.mech := rfl
@[simp] theorem withhold_sched (x : Byte) : (withhold x s).sched = s.sched := rfl
@[simp] theorem withhold_slots (x : Byte) : (withhold x s).slots = s.slots := rfl
@[simp] theorem withhold_recs (x : Byte) : (withhold x s).recs = s.recs := rfl
@[simp] theorem withhold_counter (x : Byte) : (withhold x s).counter = s.counter := rfl
@[simp] theorem withhold_stream (x : Byte) : (withhold x s).stream = s.stream := rfl
@[simp] theorem withhold_tally (x : Byte) : (withhold x s).tally = s.tally := rfl
@[simp] theorem withhold_port (x : Byte) : (withhold x s).port = s.port := rfl
@[simp] theorem withhold_mirror (x : Byte) : (withhold x s).mirror = s.mirror := rfl
@[simp] theorem withhold_settings (x : Byte) : (withhold x s).settings = s.settings := rfl
@[simp] theorem withhold_choices (x : Byte) : (withhold x s).choices = s.choices := rfl
@[simp] theorem withhold_pending (x : Byte) : (withhold x s).pending = s.pending := rfl

@[simp] theorem setResetLine_mech (x : Bool) : (setResetLine x s).mech = s.mech := rfl
@[simp] theorem setResetLine_sched (x : Bool) : (setResetLine x s).sched = s.sched := rfl
@[simp] theorem setResetLine_slots (x : Bool) : (setResetLine x s).slots = s.slots := rfl
@[simp] theorem setResetLine_recs (x : Bool) : (setResetLine x s).recs = s.recs := rfl
@[simp] theorem setResetLine_counter (x : Bool) : (setResetLine x s).counter = s.counter := rfl
@[simp] theorem setResetLine_stream (x : Bool) : (setResetLine x s).stream = s.stream := rfl
@[simp] theorem setResetLine_tally (x : Bool) : (setResetLine x s).tally = s.tally := rfl
@[simp] theorem setResetLine_port (x : Bool) : (setResetLine x s).port = s.port := rfl
@[simp] theorem setResetLine_mirror (x : Bool) : (setResetLine x s).mirror = s.mirror := rfl
@[simp] theorem setResetLine_settings (x : Bool) : (setResetLine x s).settings = s.settings := rfl
@[simp] theorem setResetLine_choices (x : Bool) : (setResetLine x s).choices = s.choices := rfl
@[simp] theorem setResetLine_pending (x : Bool) : (setResetLine x s).pending = s.pending := rfl

@[simp] theorem sendFill_mech (c : FillCause) (n : Nat) : (sendFill c n s).mech = s.mech := rfl
@[simp] theorem sendFill_sched (c : FillCause) (n : Nat) : (sendFill c n s).sched = s.sched := rfl
@[simp] theorem sendFill_slots (c : FillCause) (n : Nat) : (sendFill c n s).slots = s.slots := rfl
@[simp] theorem sendFill_recs (c : FillCause) (n : Nat) : (sendFill c n s).recs = s.recs := rfl
@[simp] theorem sendFill_counter (c : FillCause) (n : Nat) : (sendFill c n s).counter = s.counter := rfl
@[simp] theorem sendFill_stream (c : FillCause) (n : Nat) : (sendFill c n s).stream = s.stream := rfl
@[simp] theorem sendFill_tally (c : FillCause) (n : Nat) : (sendFill c n s).tally = s.tally := rfl
@[simp] theorem sendFill_mirror (c : FillCause) (n : Nat) : (sendFill c n s).mirror = s.mirror := rfl
@[simp] theorem sendFill_link (c : FillCause) (n : Nat) : (sendFill c n s).link = s.link := rfl
@[simp] theorem sendFill_settings (c : FillCause) (n : Nat) : (sendFill c n s).settings = s.settings := rfl
@[simp] theorem sendFill_choices (c : FillCause) (n : Nat) : (sendFill c n s).choices = s.choices := rfl
@[simp] theorem sendFill_pending (c : FillCause) (n : Nat) : (sendFill c n s).pending = s.pending := rfl

@[simp] theorem headHome_mech (b : Bay) : (headHome b s).mech = s.mech := rfl
@[simp] theorem headHome_slots (b : Bay) : (headHome b s).slots = s.slots := rfl
@[simp] theorem headHome_recs (b : Bay) : (headHome b s).recs = s.recs := rfl
@[simp] theorem headHome_counter (b : Bay) : (headHome b s).counter = s.counter := rfl
@[simp] theorem headHome_stream (b : Bay) : (headHome b s).stream = s.stream := rfl
@[simp] theorem headHome_tally (b : Bay) : (headHome b s).tally = s.tally := rfl
@[simp] theorem headHome_port (b : Bay) : (headHome b s).port = s.port := rfl
@[simp] theorem headHome_mirror (b : Bay) : (headHome b s).mirror = s.mirror := rfl
@[simp] theorem headHome_link (b : Bay) : (headHome b s).link = s.link := rfl
@[simp] theorem headHome_settings (b : Bay) : (headHome b s).settings = s.settings := rfl
@[simp] theorem headHome_choices (b : Bay) : (headHome b s).choices = s.choices := rfl
@[simp] theorem headHome_pending (b : Bay) : (headHome b s).pending = s.pending := rfl

@[simp] theorem State.mapRec_mech (q : Nat) (f : Rec → Rec) : (s.mapRec q f).mech = s.mech := rfl
@[simp] theorem State.mapRec_sched (q : Nat) (f : Rec → Rec) : (s.mapRec q f).sched = s.sched := rfl
@[simp] theorem State.mapRec_slots (q : Nat) (f : Rec → Rec) : (s.mapRec q f).slots = s.slots := rfl
@[simp] theorem State.mapRec_counter (q : Nat) (f : Rec → Rec) : (s.mapRec q f).counter = s.counter := rfl
@[simp] theorem State.mapRec_stream (q : Nat) (f : Rec → Rec) : (s.mapRec q f).stream = s.stream := rfl
@[simp] theorem State.mapRec_tally (q : Nat) (f : Rec → Rec) : (s.mapRec q f).tally = s.tally := rfl
@[simp] theorem State.mapRec_port (q : Nat) (f : Rec → Rec) : (s.mapRec q f).port = s.port := rfl
@[simp] theorem State.mapRec_mirror (q : Nat) (f : Rec → Rec) : (s.mapRec q f).mirror = s.mirror := rfl
@[simp] theorem State.mapRec_link (q : Nat) (f : Rec → Rec) : (s.mapRec q f).link = s.link := rfl
@[simp] theorem State.mapRec_settings (q : Nat) (f : Rec → Rec) : (s.mapRec q f).settings = s.settings := rfl
@[simp] theorem State.mapRec_choices (q : Nat) (f : Rec → Rec) : (s.mapRec q f).choices = s.choices := rfl
@[simp] theorem State.mapRec_pending (q : Nat) (f : Rec → Rec) : (s.mapRec q f).pending = s.pending := rfl

@[simp] theorem State.mapMap_sched (b : Bay) (f : DefectMap → DefectMap) : (s.mapMap b f).sched = s.sched := rfl
@[simp] theorem State.mapMap_slots (b : Bay) (f : DefectMap → DefectMap) : (s.mapMap b f).slots = s.slots := rfl
@[simp] theorem State.mapMap_recs (b : Bay) (f : DefectMap → DefectMap) : (s.mapMap b f).recs = s.recs := rfl
@[simp] theorem State.mapMap_counter (b : Bay) (f : DefectMap → DefectMap) : (s.mapMap b f).counter = s.counter := rfl
@[simp] theorem State.mapMap_stream (b : Bay) (f : DefectMap → DefectMap) : (s.mapMap b f).stream = s.stream := rfl
@[simp] theorem State.mapMap_tally (b : Bay) (f : DefectMap → DefectMap) : (s.mapMap b f).tally = s.tally := rfl
@[simp] theorem State.mapMap_port (b : Bay) (f : DefectMap → DefectMap) : (s.mapMap b f).port = s.port := rfl
@[simp] theorem State.mapMap_mirror (b : Bay) (f : DefectMap → DefectMap) : (s.mapMap b f).mirror = s.mirror := rfl
@[simp] theorem State.mapMap_link (b : Bay) (f : DefectMap → DefectMap) : (s.mapMap b f).link = s.link := rfl
@[simp] theorem State.mapMap_settings (b : Bay) (f : DefectMap → DefectMap) : (s.mapMap b f).settings = s.settings := rfl
@[simp] theorem State.mapMap_choices (b : Bay) (f : DefectMap → DefectMap) : (s.mapMap b f).choices = s.choices := rfl
@[simp] theorem State.mapMap_pending (b : Bay) (f : DefectMap → DefectMap) : (s.mapMap b f).pending = s.pending := rfl

@[simp] theorem State.mapStream_mech (f : Stream → Stream) : (s.mapStream f).mech = s.mech := rfl
@[simp] theorem State.mapStream_sched (f : Stream → Stream) : (s.mapStream f).sched = s.sched := rfl
@[simp] theorem State.mapStream_slots (f : Stream → Stream) : (s.mapStream f).slots = s.slots := rfl
@[simp] theorem State.mapStream_recs (f : Stream → Stream) : (s.mapStream f).recs = s.recs := rfl
@[simp] theorem State.mapStream_counter (f : Stream → Stream) : (s.mapStream f).counter = s.counter := rfl
@[simp] theorem State.mapStream_tally (f : Stream → Stream) : (s.mapStream f).tally = s.tally := rfl
@[simp] theorem State.mapStream_port (f : Stream → Stream) : (s.mapStream f).port = s.port := rfl
@[simp] theorem State.mapStream_mirror (f : Stream → Stream) : (s.mapStream f).mirror = s.mirror := rfl
@[simp] theorem State.mapStream_link (f : Stream → Stream) : (s.mapStream f).link = s.link := rfl
@[simp] theorem State.mapStream_settings (f : Stream → Stream) : (s.mapStream f).settings = s.settings := rfl
@[simp] theorem State.mapStream_choices (f : Stream → Stream) : (s.mapStream f).choices = s.choices := rfl
@[simp] theorem State.mapStream_pending (f : Stream → Stream) : (s.mapStream f).pending = s.pending := rfl

/-! ### Replies and the Link Port -/

/-- A reply joins the end of the queue (R184). -/
@[simp] theorem reply_replies (ch tag : Nat) (body : ReplyBody) (owner : Option Nat) :
    (reply ch tag body owner s).link.replies = s.link.replies ++ [⟨ch, tag, body, owner⟩] := rfl

/-- The selection leaves the receiving side of the Link Port alone (R186). -/
theorem selectFrame_inbound (pattern : List Slice) (l : Link) :
    (selectFrame pattern l).assembly = l.assembly ∧ (selectFrame pattern l).waiting = l.waiting ∧
      (selectFrame pattern l).resetLine = l.resetLine := by
  unfold selectFrame
  split
  · exact ⟨rfl, rfl, rfl⟩
  · split <;> first
      | exact ⟨rfl, rfl, rfl⟩
      | (split <;> exact ⟨rfl, rfl, rfl⟩)

/-- Nothing is selected while a frame is in sending (R186). -/
theorem selectFrame_busy (pattern : List Slice) (l : Link) (h : l.sending.isSome) : selectFrame pattern l = l := by
  unfold selectFrame
  simp [h]

/-- A report raised is in the set with its key, merged where an entry had the key (R185). -/
theorem putReport_key (l : List Report) (r : Report) : (putReport l r).any fun t => t.sameKey r := by
  have hr : r.sameKey r := by simp [Report.sameKey]
  induction l with
  | nil => simp [putReport, hr]
  | cons x xs ih =>
    unfold putReport
    split
    · rename_i h
      have hk : (mergeReport x r).sameKey r := by
        unfold mergeReport
        split
        · rename_i h1 h2
          simp [Report.sameKey, h2, ReportBody.kind]
        · exact hr
      simp [hk]
    · simp only [List.any_cons, ih, Bool.or_true]

/-! ### Records -/

/-- Creation appends one record that has the counter's value (R52). -/
@[simp] theorem createRec_recs (r : Rec) : (createRec r s).recs = s.recs ++ [{ r with seq := s.nextSeq }] := by
  unfold createRec
  split
  · rfl
  · simp only [trigger_recs]
    split <;> rfl

/-- Creation advances the counter by one (R52). -/
@[simp] theorem createRec_counter (r : Rec) : (createRec r s).counter = s.counter + 1 := by
  unfold createRec
  split
  · rfl
  · simp only [trigger_counter]
    split <;> rfl

/-- Creation claims no slot. -/
@[simp] theorem createRec_slots (r : Rec) : (createRec r s).slots = s.slots := by
  unfold createRec
  split
  · rfl
  · simp only [trigger_slots]
    split <;> rfl

/-- Creation leaves the stream alone. -/
@[simp] theorem createRec_stream (r : Rec) : (createRec r s).stream = s.stream := by
  unfold createRec
  split
  · rfl
  · simp only [trigger_stream]
    split <;> rfl

/-- Creation leaves the mirror alone. -/
@[simp] theorem createRec_mirror (r : Rec) : (createRec r s).mirror = s.mirror := by
  unfold createRec
  split
  · rfl
  · simp only [trigger_mirror]
    split <;> rfl

/-- Creation leaves the Link Port alone. -/
@[simp] theorem createRec_link (r : Rec) : (createRec r s).link = s.link := by
  unfold createRec
  split
  · rfl
  · simp only [trigger_link]
    split <;> rfl

/-- Creation leaves the settings alone. -/
@[simp] theorem createRec_settings (r : Rec) : (createRec r s).settings = s.settings := by
  unfold createRec
  split
  · rfl
  · simp only [trigger_settings]
    split <;> rfl

/-- Creation leaves the Exposure Port alone. -/
@[simp] theorem createRec_port (r : Rec) : (createRec r s).port = s.port := by
  unfold createRec
  split
  · rfl
  · simp only [trigger_port]
    split <;> rfl

/-- A record's leaving changes the records alone (R68). -/
theorem removeRec_eq (q : Nat) : removeRec q s = { s with recs := (removeRec q s).recs } := rfl

/-- A deferred flush that is made is the creation of its MAP_FLUSH (R54). -/
theorem makeFlush_cases (b : Bay) : makeFlush b s = s ∨ makeFlush b s = createFlush b s := by
  unfold makeFlush
  split
  · exact .inr rfl
  · exact .inl rfl

/-- A deferred step that is made is the creation of the BUILD_STEP (R54, R160). -/
theorem makeStep_cases : makeStep s = s ∨ makeStep s = createStep s := by
  unfold makeStep
  split
  · exact .inr rfl
  · exact .inl rfl

/-- A property that the creation of a flush and of a step keep is kept by the deferred creations (R54). -/
theorem deferredCreations_keeps {P : State → Prop} (hf : ∀ b t, P t → P (createFlush b t))
    (hs : ∀ t, P t → P (createStep t)) (h : P s) : P (deferredCreations s) := by
  have flush : ∀ b t, P t → P (makeFlush b t) := fun b t ht => by
    rcases makeFlush_cases t b with e | e <;> rw [e]
    · exact ht
    · exact hf b t ht
  rcases makeStep_cases (makeFlush .B (makeFlush .A s)) with e | e
  · exact (congrArg P e).mpr (flush .B _ (flush .A s h))
  · exact (congrArg P e).mpr (hs _ (flush .B _ (flush .A s h)))

/-! ### Slots -/

/-- Setting numbered slots keeps their number. -/
theorem foldl_set_length (ids : List Nat) (x : Slot) (l : List Slot) :
    (ids.foldl (fun acc i => acc.set i x) l).length = l.length := by
  induction ids generalizing l with
  | nil => rfl
  | cons i is ih => simp [List.foldl_cons, ih]

/-- A claim keeps the number of slots (R37). -/
@[simp] theorem claim_length (h : Holder) (k : Nat) : (claim h k s).1.slots.length = s.slots.length := by
  simp [claim, putSlots, foldl_set_length]

/-- A claim of `k` slots with `k` free gives `k` numbers (R38). -/
theorem claim_numbers (h : Holder) (k : Nat) : (claim h k s).2 = (freeIds s).take k := rfl

/-- The release signal only sets triggers. -/
theorem signalRelease_slots (before : State) : (signalRelease before s).slots = s.slots := by
  unfold signalRelease
  split <;> rfl

/-- Giving up slots keeps their number (R37). -/
@[simp] theorem dropAll_length (h : Holder) : (dropAll h s).slots.length = s.slots.length := by
  simp [dropAll, signalRelease_slots]

/-- Giving up one slot keeps their number (R37). -/
@[simp] theorem dropOne_length (h : Holder) (i : Nat) : (dropOne h i s).slots.length = s.slots.length := by
  simp [dropOne, signalRelease_slots]

/-- The ring's return keeps the number of slots (R45). -/
@[simp] theorem freeRing_length : (freeRing s).slots.length = s.slots.length := by
  simp [freeRing, signalRelease_slots]

/-- A slot that its last holder gives up is free (R37). -/
theorem dropFrom_last (h : Holder) (d : Option Data) : dropFrom h (.held [h] d) = .free := by simp [dropFrom]

/-! ### The stream -/

/-- The ready line follows the state that a stream is put in (R138). -/
theorem setPhase_ready (ph : StreamPhase) (t : Stream) (h : s.stream = some t) :
    (setPhase ph s).port.ready = decide (ph = .running) := by
  simp [setPhase, h]

/-- The state that a stream is put in (R126). -/
theorem setPhase_stream (ph : StreamPhase) : (setPhase ph s).stream = s.stream.map fun t => { t with phase := ph } := by
  unfold setPhase
  split <;> rename_i h <;> simp [h]

end Sys2Proof.Machine
end

