-- ==== Sys2Proof/Laws/Medium.lean ====
section
/-! SUPPORT. The surface of a cartridge: read after write, and that every operation on it keeps the canonical form. -/

namespace Sys2Proof.Machine

/-- A canonical surface from a bound is canonical from any lower one. -/
theorem surfaceFrom_mono {lo lo' : Nat} (h : lo' ≤ lo) : ∀ {m : Medium}, surfaceFrom lo m → surfaceFrom lo' m
  | [], _ => rfl
  | (k, c) :: m, hm => by
    simp only [surfaceFrom, Bool.and_eq_true, decide_eq_true_eq] at hm ⊢
    exact ⟨⟨by omega, hm.1.2⟩, hm.2⟩

/-- A sector below every key listed is BLANK. -/
theorem conditionAt_below {lo n : Nat} (h : n < lo) : ∀ {m : Medium}, surfaceFrom lo m → conditionAt m n = .blank
  | [], _ => rfl
  | (k, c) :: m, hm => by
    simp only [surfaceFrom, Bool.and_eq_true, decide_eq_true_eq] at hm
    have hk : k ≠ n := by omega
    simp only [conditionAt, hk, if_false]
    exact conditionAt_below (by omega) hm.2

/-- Giving a sector a condition keeps the canonical form. -/
theorem setCondition_from {lo n : Nat} (c : Condition) (hn : lo ≤ n) :
    ∀ {m : Medium}, surfaceFrom lo m → surfaceFrom lo (setCondition m n c)
  | [], _ => by
    unfold setCondition
    split
    · rfl
    · rename_i hc
      simp [surfaceFrom, hn, hc]
  | (k, d) :: m, hm => by
    simp only [surfaceFrom, Bool.and_eq_true, decide_eq_true_eq] at hm
    unfold setCondition
    split
    · rename_i hk
      split
      · simp only [surfaceFrom, Bool.and_eq_true, decide_eq_true_eq]
        exact hm
      · rename_i hc
        simp only [surfaceFrom, Bool.and_eq_true, decide_eq_true_eq]
        exact ⟨⟨hn, hc⟩, ⟨by omega, hm.1.2⟩, hm.2⟩
    · split
      · rename_i hk
        subst hk
        split
        · exact surfaceFrom_mono (by omega) hm.2
        · rename_i hc
          simp only [surfaceFrom, Bool.and_eq_true, decide_eq_true_eq]
          exact ⟨⟨hn, hc⟩, hm.2⟩
      · simp only [surfaceFrom, Bool.and_eq_true, decide_eq_true_eq]
        exact ⟨hm.1, setCondition_from c (by omega) hm.2⟩

/-- Giving a sector a condition keeps the canonical form. -/
theorem setCondition_wf {m : Medium} (n : Nat) (c : Condition) (h : surfaceWf m) : surfaceWf (setCondition m n c) :=
  setCondition_from c (Nat.zero_le n) h

/-- Read after write: a sector given a condition has it, and every other sector is as before. -/
theorem conditionAt_setFrom {lo : Nat} (n k : Nat) (c : Condition) :
    ∀ {m : Medium}, surfaceFrom lo m → conditionAt (setCondition m n c) k = if k = n then c else conditionAt m k
  | [], _ => by
    unfold setCondition
    by_cases hk : k = n
    · by_cases hc : c = .blank <;> simp [hc, hk, conditionAt]
    · have hk' : ¬n = k := fun h => hk h.symm
      by_cases hc : c = .blank <;> simp [hc, hk, hk', conditionAt]
  | (j, d) :: m, hm => by
    simp only [surfaceFrom, Bool.and_eq_true, decide_eq_true_eq] at hm
    unfold setCondition
    split
    · rename_i hj
      by_cases hc : c = .blank
      · by_cases hk : k = n
        · have hjn : j ≠ n := by omega
          subst hk
          simp only [hc, if_true, conditionAt, hjn, if_false]
          exact conditionAt_below (by omega) hm.2
        · simp [hc, hk]
      · by_cases hk : k = n
        · simp [hc, hk, conditionAt]
        · have hk' : ¬n = k := fun h => hk h.symm
          simp [hc, hk, hk', conditionAt]
    · split
      · rename_i hj
        subst hj
        by_cases hc : c = .blank
        · by_cases hk : k = n
          · subst hk
            simp only [hc, if_true]
            exact conditionAt_below (by omega) hm.2
          · have hk' : ¬n = k := fun h => hk h.symm
            simp [hc, hk, hk', conditionAt]
        · by_cases hk : k = n
          · simp [hc, hk, conditionAt]
          · have hk' : ¬n = k := fun h => hk h.symm
            simp [hc, hk, hk', conditionAt]
      · rename_i h1 h2
        have hjn : j ≠ n := fun h => h2 h.symm
        simp only [conditionAt]
        by_cases hk : j = k
        · have hkn : k ≠ n := by omega
          simp [hk, hkn]
        · simp only [hk, if_false]
          exact conditionAt_setFrom n k c hm.2

/-- Read after write on a canonical surface. -/
theorem conditionAt_setCondition {m : Medium} (n k : Nat) (c : Condition) (h : surfaceWf m) :
    conditionAt (setCondition m n c) k = if k = n then c else conditionAt m k :=
  conditionAt_setFrom n k c h

/-- An ERASE keeps the canonical form. -/
theorem afterErase_wf (keys : List Nat) : ∀ {m : Medium}, surfaceWf m → surfaceWf (afterErase m keys) := by
  induction keys with
  | nil => exact fun h => h
  | cons k ks ih => exact fun h => ih (setCondition_wf k .blank h)

/-- A WRITE keeps the canonical form. -/
theorem afterWrite_wf (items : List (Nat × Data × WriteResponse)) :
    ∀ {m : Medium}, surfaceWf m → surfaceWf (afterWrite m items) := by
  induction items with
  | nil => exact fun h => h
  | cons x xs ih => exact fun h => ih (setCondition_wf x.1 _ h)

/-- Any pass keeps the canonical form. -/
theorem mediumAfter_wf (p : Pass) (rs : List SectorResponse) {m : Medium} (h : surfaceWf m) :
    surfaceWf (mediumAfter p rs m) := by
  unfold mediumAfter
  split
  · exact afterErase_wf _ h
  · exact afterWrite_wf _ h
  · exact h

/-- A pass cut short keeps the canonical form (R8). -/
theorem cutMedium_wf (p : Pass) (c : Cut) {m : Medium} (h : surfaceWf m) : surfaceWf (cutMedium p c m) := by
  unfold cutMedium
  split
  · exact setCondition_wf _ _ (mediumAfter_wf _ _ h)
  · exact mediumAfter_wf _ _ h

/-- Settling conditions one by one keeps the canonical form. -/
theorem foldl_setCondition_wf (l : List (Nat × Condition)) :
    ∀ {m : Medium}, surfaceWf m → surfaceWf (l.foldl (fun acc p => setCondition acc p.1 (wholeSector p.2)) m) := by
  induction l with
  | nil => exact fun h => h
  | cons x xs ih => exact fun h => ih (setCondition_wf x.1 _ h)

/-- An inserted cartridge's surface is in canonical form (log entry 27). -/
theorem surfaceOf_wf (m : Medium) : surfaceWf (surfaceOf m) := foldl_setCondition_wf _ rfl

/-- The state after reset holds no surface that is not canonical: it holds none. -/
theorem reset_mediumLaw : mediumLaw State.reset := by
  intro b m h
  cases b <;> cases h

end Sys2Proof.Machine
end

