-- ==== Sys2Proof/Laws/Outbound.lean ====
section
/-! SUPPORT. The lengths of what the Link Port sends (R184, R188), and what each form of a STATUS's items comes to. -/

namespace Sys2Proof.Machine

/-- A number sent in `k` bytes takes `k` bytes. -/
@[simp] theorem toBytes_length (k n : Nat) : (toBytes k n).length = k := by
  induction k with
  | zero => rfl
  | succ k ih => simp [toBytes, ih]

@[simp] theorem flagByte_length (x : Bool) : (flagByte x).length = 1 := toBytes_length 1 _

@[simp] theorem maybeBytes_none {α : Type} (f : α → Data) : maybeBytes f none = flagByte false := rfl

@[simp] theorem maybeBytes_some {α : Type} (f : α → Data) (x : α) : maybeBytes f (some x) = flagByte true ++ f x := rfl

@[simp] theorem listBytes_nil {α : Type} (f : α → Data) : listBytes f [] = [0x00#8] := by
  simp [listBytes, toBytes]

/-- A list whose members take `k` bytes each takes one byte and `k` for each. -/
theorem listBytes_length {α : Type} (f : α → Data) (k : Nat) (xs : List α) (h : ∀ x ∈ xs, (f x).length = k) :
    (listBytes f xs).length = 1 + k * xs.length := by
  have hs : (xs.flatMap f).length = k * xs.length := by
    induction xs with
    | nil => rfl
    | cons x xs ih =>
      have hx := h x (by simp)
      have := ih fun y hy => h y (List.mem_cons_of_mem x hy)
      simp [List.flatMap_cons, hx, this, Nat.mul_succ, Nat.add_comm]
  simp [listBytes, hs]

/-- A frame is its header of five bytes and its body (Table 13-2). -/
@[simp] theorem frameOf_length (kind : Byte) (ch tag : Nat) (body : Data) : (frameOf kind ch tag body).length = 5 + body.length := by
  simp [frameOf]; omega

/-- A reply frame is five bytes and the fields of its body (R184). -/
theorem replyBytes_length (p : Reply) : (replyBytes p).length = 5 + (replyFields p.body).length := frameOf_length _ _ _ _

/-- The settings take one byte each but for the slices of the pattern, one byte each too (R181). -/
theorem settingsBytes_length (x : SettingsStatus) : (settingsBytes x).length = 8 + x.settings.pattern.length := by
  simp [settingsBytes, twoBytes, List.length_flatMap]; omega

/-- A Defect Map takes eleven bytes (R111). -/
theorem mapStatusBytes_length (x : MapStatus) : (mapStatusBytes x).length = 11 := by simp [mapStatusBytes]

end Sys2Proof.Machine
end

