-- ==== Sys2Proof/Laws/Settle.lean ====
section
/-! SUPPORT. What follows at once: a property kept by each thing that follows is kept by all of them. -/

namespace Sys2Proof.Machine

/-- A property that every next thing keeps is kept by any number of them. -/
theorem settleFor_keeps {P : State → Prop} (h : ∀ s t, nextStep s = some t → P s → P t) :
    ∀ (n : Nat) (s : State), P s → P (settleFor n s)
  | 0, _, hs => hs
  | n + 1, s, hs => by
    unfold settleFor
    split
    · rename_i t ht
      exact settleFor_keeps h n t (h s t ht hs)
    · exact hs

/-- A property that every next thing keeps is kept by settling. -/
theorem settle_keeps {P : State → Prop} (h : ∀ s t, nextStep s = some t → P s → P t) (s : State) (hs : P s) :
    P (settle s) :=
  settleFor_keeps h 300 s hs

/-- A property kept by each next thing, by the timers and by the selection is kept by a command's conclusion. -/
theorem conclude_keeps {P : State → Prop} (h : ∀ s t, nextStep s = some t → P s → P t)
    (ht : ∀ b s, P s → P (setTimer b s)) (hn : ∀ s, P s → P (selectNext s)) (s : State) (hs : P s) : P (conclude s) :=
  hn _ (ht .B _ (ht .A _ (settle_keeps h s hs)))

/-- Folding an operation that keeps a property keeps it. -/
theorem foldl_keeps {α : Type} {P : State → Prop} {f : State → α → State} (h : ∀ s x, P s → P (f s x)) :
    ∀ (l : List α) (s : State), P s → P (l.foldl f s)
  | [], _, hs => hs
  | x :: xs, s, hs => foldl_keeps h xs (f s x) (h s x hs)

/-- The next thing is a creation, a leaving, a step of an ejection, or a decision. -/
theorem nextStep_cases {s t : State} (h : nextStep s = some t) :
    creationStep s = some t ∨ leaveStep s = some t ∨ (∃ b, ejectStep b s = some t) ∨ decisionStep s = some t := by
  unfold nextStep at h
  split at h
  · rename_i u hu
    exact .inl (by rw [hu]; exact h)
  · split at h
    · rename_i u hu
      exact .inr (.inl (by rw [hu]; exact h))
    · split at h
      · rename_i u hu
        exact .inr (.inr (.inl ⟨.A, by rw [hu]; exact h⟩))
      · split at h
        · rename_i u hu
          exact .inr (.inr (.inl ⟨.B, by rw [hu]; exact h⟩))
        · exact .inr (.inr (.inr h))

/-- A decision is made on one bay, after a free choice or without one (log entry 4). -/
theorem decisionStep_cases {s t : State} (h : decisionStep s = some t) :
    ∃ b, t = makeDecision b s ∨ t = makeDecision b s.choose := by
  unfold decisionStep at h
  split at h
  · split at h
    · exact ⟨.A, .inr (Option.some.inj h).symm⟩
    · exact ⟨.B, .inr (Option.some.inj h).symm⟩
  · split at h
    · exact ⟨.A, .inl (Option.some.inj h).symm⟩
    · split at h
      · exact ⟨.B, .inl (Option.some.inj h).symm⟩
      · exact nomatch h

/-- A leaving is that of one record of the table that is ready to leave, after a free choice or without one. -/
theorem leaveStep_cases {s t : State} (h : leaveStep s = some t) : ∃ q, t = leaveTable q s ∨ t = leaveTable q s.choose := by
  unfold leaveStep at h
  split at h
  · exact ⟨_, .inl (Option.some.inj h).symm⟩
  · split at h
    · exact nomatch h
    · exact ⟨_, .inl (Option.some.inj h).symm⟩
    · rw [Option.map_eq_some_iff] at h
      obtain ⟨q, _, hq⟩ := h
      exact ⟨q, .inr hq.symm⟩

end Sys2Proof.Machine
end

