-- ==== Sys2Proof/Tests/Slice0.lean ====
section
/-! SUPPORT. The model's own tests: an ill-formed command for each check of WellFormed, small tests of single commands with
values taken from the spec, and a witness for the hypotheses of each statement that has any. -/

namespace Sys2Proof.Machine

set_option Elab.async false

/-! ### States the tests start from -/

/-- The state a command leaves. -/
def got (o : Host.Outcome State Fault Refusal) : Option State :=
  match o with
  | .next t => some t
  | _ => none

/-- A label. -/
def label0 : Label := ⟨7#32, List.replicate 16 0x41#8, 1⟩

/-- A mounted bay with an empty map and this surface. -/
def mounted (m : Medium) : Mech :=
  { Mech.reset with
    mode := .ready
    spindle := .turning
    locked := true
    medium := some m
    label := some label0
    zones := some []
    map := some emptyMap }

/-- Bay A mounted and bay B empty, with 20 slots free. -/
def ready0 : State :=
  { State.reset with
    mech := ⟨mounted [(17, .data [0x5A#8] false)], Mech.reset⟩
    slots := List.replicate 20 .free }

/-- Both bays mounted, with 20 slots free. -/
def both0 : State := ready0.mapMech .B fun _ => mounted []

/-- Bay A in another state. -/
def bayIn (m : BayMode) (sp : Spindle) : State := ready0.mapMech .A fun k => { k with mode := m, spindle := sp }

/-- The reset line asserted. -/
def lineOn : State := ready0.mapLink fun l => { l with resetLine := true }

/-- A record of bay A at arrival sequence `q`, on channel 1 and tag 7. -/
def rec0 (kind : Kind) (q count : Nat) (sectors : List Sector) : Rec :=
  { newRec kind (some (1, 7)) .A 3 0 count sectors [] with seq := q }

/-- Bay A mounted and these records in the table, the bays not triggered. -/
def with0 (rs : List Rec) : State := { ready0 with recs := rs, counter := 50 }

/-- A sector of a record. -/
def sec (p : Progress) (j : Nat) : Sector := ⟨p, 0, some j, false, none⟩

/-- A WRITE of one sector waiting for its data, its slot held. -/
def writing0 : State :=
  { with0 [rec0 .write 4 1 [sec .pending 0]] with slots := .held [.record 4] none :: List.replicate 19 .free }

/-- The pass of record 4 over its first sector on track 1. -/
def pass0 (a : Action) : Pass := ⟨.record 4, a, 1, 0, [0], [4], [[0x5A#8]], [0], false⟩

/-- A READ of one sector with its pass in flight. -/
def reading0 : State :=
  { with0 [{ rec0 .read 4 1 [sec .unread 0] with state := .active, started := true }] with
    slots := .held [.record 4] none :: List.replicate 19 .free
    sched := ⟨{ Sched.reset with pass := some (pass0 .read), active := some 4 }, Sched.reset⟩ }

/-- A band of two lines of 16 bytes at the head of a list. -/
def band0 (sent : Nat) (st : BandState) : Band := ⟨1, 1, 0, 32, 1, sent, 0, st, false⟩

/-- A stream of bay A with one band, its segment of 32 bytes. -/
def stream0 (ph : StreamPhase) (x : Band) : Stream :=
  { newStream .A 16 16 16 none with
    phase := ph
    bands := [x]
    segments := [⟨1, List.replicate 32 0x11#8, x.sent * 16⟩]
    nextBand := 2 }

/-- Bay A mounted, with a stream. -/
def streaming (t : Stream) : State := { ready0 with stream := some t, port := { Port.reset with ready := decide (t.phase = .running) } }

/-- A reply standing in the queue. -/
def reply0 : Reply := ⟨1, 7, .grant, none⟩

/-- A band of two lines of which nothing is fetched. -/
def unfetched0 : Band := { band0 0 .queued with fetched := 0 }

/-- Fifteen ENDING ejections, to fill a table. -/
def full0 : List Rec := (List.range 15).map fun k => { newRec (.eject false) none .B 0 0 0 [] [] with seq := 10 + k, state := .ending }

/-- Bay A's map changed. -/
def mapped (f : DefectMap → DefectMap) (s : State) : State := s.mapMap .A f

/-- A fallback read of bay B for sector 3 of record 4, ENDING. -/
def fallen (p : Progress) : Rec := { newRec .fallbackRead none .B 3 0 1 [newSector p] [4] with seq := 5, state := .ending }

/-- The frame that a command's outcome has in sending. -/
def sends (i : Instr) (s : State) : Option Outbound := (got (exec i s)).bind fun t => t.link.sending

/-- Action, track, first sector and sectors of the pass in flight on a bay after a command. -/
def passAfter (i : Instr) (s : State) (b : Bay) : Option (Action × Nat × Nat × List Nat) :=
  (got (exec i s)).bind fun t => (t.schedOf b).pass.map fun p => (p.action, p.track, p.first, p.items)

/-! ### Ill-formed commands -/

theorem test_ill_powerOnReset : (Instr.powerOnReset ⟨⟨18, [], .kept⟩, ⟨0, [], .kept⟩⟩).wellFormed = false := by decide
theorem test_ill_cut_data : (Instr.powerOnReset ⟨⟨0, [], .kept⟩, ⟨0, [], .data [1#8]⟩⟩).wellFormed = false := by decide
theorem test_ill_cut_response :
    (Instr.powerOnReset ⟨⟨1, [⟨0, .differs []⟩], .kept⟩, ⟨0, [], .kept⟩⟩).wellFormed = false := by decide
theorem test_ill_read_first : (Instr.read 0 0 (some .A) 16777216 1 0).wellFormed = false := by decide
theorem test_ill_read_count : (Instr.read 0 0 (some .A) 0 256 0).wellFormed = false := by decide
theorem test_ill_write_level : (Instr.write 0 0 (some .A) 0 1 256).wellFormed = false := by decide
theorem test_ill_sector_index : (Instr.sector 0 0 256 (some .blank) []).wellFormed = false := by decide
theorem test_ill_sector_data : (Instr.sector 0 0 0 (some .blank) [1#8]).wellFormed = false := by decide
theorem test_ill_setup_number :
    (Instr.setup 0 0 ⟨some 65536, none, none, ⟨none, none⟩, ⟨none, none⟩, ⟨none, none⟩⟩).wellFormed = false := by decide
theorem test_ill_setup_pattern :
    (Instr.setup 0 0 ⟨none, none, some [], ⟨none, none⟩, ⟨none, none⟩, ⟨none, none⟩⟩).wellFormed = false := by decide
theorem test_ill_prepare_name : (Instr.prepare 0 0 (some .A) 0#32 []).wellFormed = false := by decide
theorem test_ill_eject_level : (Instr.ejectNormal 0 0 (some .A) 256).wellFormed = false := by decide
theorem test_ill_eject_forced_level : (Instr.ejectForced 0 0 (some .A) 256).wellFormed = false := by decide
theorem test_ill_setZones_level : (Instr.setZones 0 0 (some .A) 256 []).wellFormed = false := by decide
theorem test_ill_setZones_zone :
    (Instr.setZones 0 0 (some .A) 0 [⟨0, 16777216, 0#8, 0#8⟩]).wellFormed = false := by decide
theorem test_ill_openStream_line : (Instr.openStream 0 0 (some .A) 16 65536 1 none).wellFormed = false := by decide
theorem test_ill_openStream_marks :
    (Instr.openStream 0 0 (some .A) 16 16 1 (some ⟨1, 256, 1⟩)).wellFormed = false := by decide
theorem test_ill_setMarks : (Instr.setMarks 0 0 ⟨256, 2, 1⟩).wellFormed = false := by decide
theorem test_ill_appendBand : (Instr.appendBand 0 0 0 16777216).wellFormed = false := by decide
theorem test_ill_insertion_order :
    (Instr.cartridgeInsertion .A [(5, .unreadable), (5, .unreadable)]).wellFormed = false := by decide
theorem test_ill_insertion_key : (Instr.cartridgeInsertion .A [(278528, .unreadable)]).wellFormed = false := by decide
theorem test_ill_insertion_data : (Instr.cartridgeInsertion .A [(5, .data [] false)]).wellFormed = false := by decide
theorem test_ill_mountRead : (Instr.mountReadCompletion .A (List.replicate 7 0)).wellFormed = false := by decide
theorem test_ill_pass_length :
    (Instr.passCompletion .A (List.replicate 18 ⟨0, .took⟩)).wellFormed = false := by decide
theorem test_ill_pass_data : (Instr.passCompletion .A [⟨0, .differs []⟩]).wellFormed = false := by decide
theorem test_ill_medium_track : (Instr.mediumSectorChange .A 16384 0 .weak).wellFormed = false := by decide
theorem test_ill_medium_sector : (Instr.mediumSectorChange .A 0 17 .weak).wellFormed = false := by decide

/-! ### Decoding: no row of the table has bits -/

theorem test_decode_none : decodeTableWord 8 1 = none := by decide

/-! ### Arithmetic, with the values that the rules' own examples give -/

theorem test_seekCost : [0, 1, 128, 129, 16256, 16257, 16383].map seekCost = [0, 7, 7, 8, 133, 134, 134] := by decide
theorem test_marks_default : [16, 192].map defaultMarks = [⟨4, 14, 14⟩, ⟨48, 190, 190⟩] := by decide
theorem test_marks_clamped : clampMarks 16 ⟨20, 40, 0⟩ = ⟨15, 16, 15⟩ := by decide
theorem test_checkWord : (labelSector [0x01#8, 0x02#8]).length = 1024 ∧ passesCheck (labelSector [0x01#8, 0x02#8]) = true := by
  decide +kernel

/-! ### Single commands -/

theorem test_powerOn_loads :
    (got (exec (.powerOnReset ⟨⟨0, [], .kept⟩, ⟨0, [], .kept⟩⟩) reading0)).map
      (fun t => ((t.mechOf .A).mode, (t.mechOf .A).spindle, t.recs, t.counter)) =
      some (.loading, .starting, [], 0) := by decide +kernel
theorem test_reset_done_first : sends (.reset 0 9) reading0 = some (.reply ⟨0, 9, .done (plainDone 0), none⟩) := by
  decide +kernel
theorem test_reset_channel : sends (.reset 1 9) ready0 = some (.reply ⟨1, 9, .refuse .notPrivileged, none⟩) := by
  decide +kernel
theorem test_line_asserted :
    (got (exec .linkResetLineAsserted writing0)).map (fun t => (t.link.resetLine, t.recs, t.counter, freeCount t)) =
      some (true, [], 50, 20) := by decide +kernel
theorem test_line_released :
    sends .linkResetLineReleased (lineOn.mapLink fun l => { l with replies := [reply0] }) = some (.reply reply0) := by
  decide +kernel
theorem test_byte_begins :
    (got (exec (.byteArrival 0x00#8) ready0)).map (fun t => t.link.assembly) = some (.collecting [0x00#8]) := by
  decide +kernel
theorem test_byte_waits :
    (got (exec (.byteArrival 0x00#8) lineOn)).map (fun t => (t.link.assembly, t.link.waiting)) =
      some (.idle, some 0x00#8) := by decide +kernel
theorem test_frame_unbind :
    sends (.byteArrival 0x09#8) (setAssembly (.collecting [0x00#8, 0x00#8, 0x0B#8, 0x02#8]) ready0) =
      some (.reply ⟨2, 9, .done (plainDone 0), none⟩) := by decide +kernel
theorem test_first_byte :
    (got (exec .firstByteTaken (ready0.mapLink fun l => { l with waiting := some 0x01#8 }))).map
      (fun t => (t.link.assembly, t.link.waiting)) = some (.collecting [0x01#8], none) := by decide +kernel
theorem test_incomplete :
    (got (exec .incompleteFrameTimeout (setAssembly (.collecting [0x00#8]) ready0))).map (fun t => t.link.assembly) =
      some .idle := by decide +kernel
theorem test_discard :
    (got (exec .discardQuietTimeout (setAssembly .discarding ready0))).map (fun t => t.link.assembly) = some .idle := by
  decide +kernel
theorem test_read_pass : passAfter (.read 1 7 (some .A) 16 3 3) ready0 .A = some (.read, 1, 16, [0]) := by decide +kernel
theorem test_read_refused : sends (.read 1 7 (some .A) 277422 2 3) ready0 = some (.reply ⟨1, 7, .refuse .badField, none⟩) := by
  decide +kernel
theorem test_write_granted : sends (.write 1 7 (some .A) 0 2 3) ready0 = some (.reply ⟨1, 7, .grant, some 0⟩) := by
  decide +kernel
theorem test_write_erases : passAfter (.write 1 7 (some .A) 0 2 3) ready0 .A = some (.erase, 1, 0, [0, 1]) := by
  decide +kernel
theorem test_sector_fills :
    (got (exec (.sector 1 7 0 (some .data) (List.replicate 1024 0x33#8)) writing0)).map (fun t => slotData t 0) =
      some (some (List.replicate 1024 0x33#8)) := by decide +kernel
theorem test_sector_status :
    sends (.sector 1 7 0 (some .blank) []) writing0 = some (.reply ⟨1, 7, .refuse .badField, none⟩) := by decide +kernel
theorem test_cancel_waiting :
    (got (exec (.cancel 1 8 7) writing0)).map (fun t => (t.recs, freeCount t, t.link.sending)) =
      some ([], 20, some (.reply ⟨1, 8, .done (plainDone 0), none⟩)) := by decide +kernel
theorem test_cancel_none : sends (.cancel 2 8 7) writing0 = some (.reply ⟨2, 8, .refuse .noSuchTag, none⟩) := by
  decide +kernel
theorem test_query_device :
    (match sends (.queryDevice 1 2) writing0 with
     | some (.reply ⟨1, 2, .status (.device d), none⟩) => decide ((d.free, d.held, d.records, d.waiting) = (19, 1, 1, 1))
     | _ => false) = true := by decide +kernel
theorem test_query_bay :
    (match sends (.queryBay 1 2 (some .A)) ready0 with
     | some (.reply ⟨1, 2, .status (.bay x), none⟩) => decide ((x.mode, x.head, x.level, x.label) = (.ready, 0, 8, some label0))
     | _ => false) = true := by decide +kernel
theorem test_query_operation :
    (match sends (.queryOperation 1 2 7) writing0 with
     | some (.reply ⟨1, 2, .status (.operation x), none⟩) => decide ((x.kind, x.count, x.slots, x.state) = (.write, 1, 1, .waiting))
     | _ => false) = true := by decide +kernel
theorem test_query_stream :
    (match sends (.queryStream 1 2) ready0 with
     | some (.reply ⟨1, 2, .status (.stream x), none⟩) => decide (x.opened = none)
     | _ => false) = true := by decide +kernel
theorem test_query_mirror :
    (match sends (.queryMirror 1 2) ready0 with
     | some (.reply ⟨1, 2, .status (.mirror x), none⟩) => decide (x.mirror = .unbound)
     | _ => false) = true := by decide +kernel
theorem test_status_bytes :
    replyBytes ⟨2, 9, .status (.mirror (mirrorStatus ready0)), none⟩ =
      [0x00#8, 0x05#8, 0x84#8, 0x02#8, 0x09#8, 0x04#8, 0x00#8, 0x00#8, 0x00#8, 0x00#8] := by decide
/-- The default settings in R181's order: cap 24, margin 8, slice 0 REPORT, both modes NESTED, both times 120, both ON (R188). -/
theorem test_status_bytes_setup :
    statusFields (.setup (settingsStatus ready0)) =
      [0x18#8, 0x08#8, 0x01#8, 0x00#8, 0x00#8, 0x00#8, 0x00#8, 0x00#8, 0x00#8, 0x00#8, 0x00#8, 0x00#8, 0x78#8, 0x78#8, 0x00#8,
        0x00#8] := by decide
/-- A READY bay at rest: the items of R18, R13 and R15, then of R75, R111 (1,088 free spares) and R171 (R188). -/
theorem test_status_bytes_bay :
    statusFields (.bay (bayStatus ready0 .A)) =
      [0x02#8, 0x00#8, 0x02#8, 0x00#8, 0x00#8, 0x00#8, 0x78#8, 0x00#8, 0x00#8] ++
        [0x01#8, 0x00#8, 0x00#8, 0x00#8, 0x07#8] ++ List.replicate 16 0x41#8 ++ [0x00#8, 0x01#8, 0x01#8, 0x00#8, 0x00#8] ++
        [0x00#8, 0x00#8, 0x00#8, 0x00#8, 0x00#8, 0x08#8, 0x00#8, 0x00#8, 0x03#8] ++
        [0x01#8, 0x00#8, 0x00#8, 0x00#8, 0x00#8, 0x04#8, 0x40#8, 0x00#8, 0x00#8, 0x00#8, 0x00#8, 0x00#8] ++
        [0x01#8, 0x00#8] := by decide +kernel
/-- A stream OPEN with one band fetched and 15,360 bytes reserved: the items of R126's table, F and S of R130 with them, the
reserved bytes in two bytes, since a feed pass brings at most 17 sectors (R134, R188). -/
theorem test_status_bytes_stream :
    (statusFields (.stream (streamStatus (streaming { stream0 .opened (band0 0 .fetched) with reserved := 15360 })))).take 54 =
      [0x01#8, 0x00#8, 0x10#8, 0x00#8, 0x10#8, 0x00#8, 0x10#8, 0x04#8, 0x0E#8, 0x0E#8] ++
        [0x01#8, 0x00#8, 0x01#8, 0x00#8, 0x00#8, 0x20#8, 0x00#8, 0x00#8, 0x00#8] ++
        [0x00#8, 0x00#8, 0x20#8, 0x00#8, 0x00#8, 0x00#8, 0x3C#8, 0x00#8, 0x00#8, 0x03#8, 0xE0#8] ++
        [0x01#8, 0x00#8, 0x01#8, 0x00#8, 0x00#8, 0x00#8, 0x00#8, 0x00#8, 0x20#8, 0x01#8, 0x00#8, 0x02#8, 0x01#8, 0x00#8,
          0x00#8, 0x00#8, 0x02#8, 0x00#8] ++
        [0x00#8, 0x02#8, 0x00#8] ++ [0x00#8, 0x00#8, 0x00#8] := by decide +kernel
theorem test_setup_clamps :
    (got (exec (.setup 1 2 ⟨some 100, some 300, none, ⟨none, none⟩, ⟨some 0, none⟩, ⟨none, some (some false)⟩⟩) ready0)).map
      (fun t => (t.settings.readCap, t.settings.margin, t.settings.spinDown, t.settings.weak)) =
      some (64, 255, ⟨0, 120⟩, ⟨true, false⟩) := by decide +kernel
theorem test_prepare_pass :
    passAfter (.prepare 0 7 (some .A) 1#32 (List.replicate 16 0x42#8)) ready0 .A =
      some (.erase, 0, 0, List.range 17) := by decide +kernel
/-- In DAMAGED too a stream still bound to the bay bars a PREPARE (check 9 of R55, log entry 18). -/
theorem test_prepare_damaged :
    sends (.prepare 0 7 (some .A) 1#32 (List.replicate 16 0x42#8))
      ((streaming (stream0 (.halted .eject) (band0 0 .fetched))).mapMech .A fun k => { k with mode := .damaged, map := none }) =
        some (.reply ⟨0, 7, .refuse .streamState, none⟩) := by decide +kernel
theorem test_setZones_pass : passAfter (.setZones 0 7 (some .A) 3 [⟨0, 9, 1#8, 1#8⟩]) ready0 .A = some (.erase, 0, 1, [0]) := by
  decide +kernel
theorem test_eject_idle :
    (got (exec (.ejectNormal 1 7 (some .A) 3) ready0)).map
      (fun t => ((t.mechOf .A).mode, (t.mechOf .A).spindle, t.recs.map Rec.state)) =
      some (.ejecting .normal .ready, .stopping, [.active]) := by decide +kernel
theorem test_eject_forced :
    (got (exec (.ejectForced 1 8 (some .A) 3) writing0)).map
      (fun t => ((t.mechOf .A).mode, t.recs.map Rec.kind, freeCount t)) =
      some (.ejecting .forced .ready, [.eject true], 20) := by decide +kernel
/-- An ENDING read that waits for its fallback is not ended by a forced EJECT of its bay (R33, R67, R104). -/
theorem test_ending_read_keeps_fallback :
    ((acceptForced (ejectAsk true 0 1 (some .A) 0) .A
      (with0 [{ rec0 .read 4 1 [sec .awaitingFallback 0] with state := .ending, partners := [5] },
        { newRec .fallbackRead none .B 3 0 1 [newSector .unread] [4] with seq := 5 }])).recs.map Rec.endCause).take 2 =
      [none, none] := by decide
/-- A BUILD_STEP that has not started covers its sectors on its own bay, and not on the primary (R54, R60, R117). -/
theorem test_unstarted_step_covers_secondary :
    [coveredByWrite (with0 [{ newRec .buildStep none .B 7 0 17 [] [] with seq := 4 }]) .B 16,
      coveredByWrite (with0 [{ newRec .buildStep none .B 7 0 17 [] [] with seq := 4 }]) .A 16] = [true, false] := by decide
/-- A fallback ended by its cause makes the sector of an ACTIVE read FAILED, the read's own end cause set or not (R50, R167). -/
theorem test_cancelled_fallback_of_active_read :
    ((fallbackOutcome { fallen .unread with endCause := some .cancelled }
      (with0 [{ rec0 .read 4 1 [sec .awaitingFallback 0] with state := .active, endCause := some .cancelled }])).link.replies).map
      Reply.body = [.sector 0 .unreadable []] := by decide
theorem test_eject_faulted :
    (got (exec (.ejectForced 1 8 (some .A) 3) (bayIn .faulted .stopped))).map (fun t => ((t.mechOf .A).mode, t.recs)) =
      some (.empty, []) := by decide +kernel
theorem test_bind_step : passAfter (.bind 1 7 (some .A)) both0 .A = some (.read, 1, 0, List.range 17) := by decide +kernel
theorem test_unbind :
    (got (exec (.unbind 1 7) (ready0.withMirror (.paired .A 34 0 .bound)))).map (fun t => (t.mirror, t.link.reports)) =
      some (.unbound, []) := by decide +kernel
theorem test_open :
    (got (exec (.openStream 1 7 (some .A) 16 16 16 none) ready0)).map
      (fun t => (freeCount t, ringCount t, t.port.line, t.stream.map Stream.marks)) =
      some (4, 16, 16, some ⟨4, 14, 14⟩) := by decide +kernel
theorem test_setMarks :
    (got (exec (.setMarks 1 7 ⟨20, 40, 0⟩) (streaming (stream0 .opened (band0 0 .fetched))))).map
      (fun t => t.stream.map Stream.marks) = some (some ⟨15, 16, 15⟩) := by decide +kernel
theorem test_append :
    (got (exec (.appendBand 1 7 100 32) (streaming (stream0 .opened (band0 0 .fetched))))).map
      (fun t => (t.link.sending, t.stream.map fun x => (x.bands.length, x.nextBand))) =
      some (some (.reply ⟨1, 7, .done (plainDone 2), none⟩), some (2, 3)) := by decide +kernel
theorem test_start_primes :
    (got (exec (.startStream 1 7) (streaming (stream0 (.halted .stop) (band0 1 .exposing))))).map
      (fun t => (t.port.ready, t.stream.map fun x => (x.phase, x.bands.map Band.sent, unsent x))) =
      some (true, some (.running, [0], 32)) := by decide +kernel
theorem test_stop :
    (got (exec (.stopStream 1 7) (streaming (stream0 .running (band0 1 .exposing))))).map
      (fun t => (t.port.ready, t.stream.map Stream.phase, t.link.reports)) =
      some (false, some (.halted .stop), []) := by decide +kernel
theorem test_flush :
    (got (exec (.flushStream 1 7) (streaming (stream0 (.halted .eject) (band0 1 .exposing))))).map
      (fun t => t.stream.map fun x => (x.phase, x.bands, x.segments, x.nextBand)) =
      some (some (.opened, [], [], 2)) := by decide +kernel
theorem test_close :
    (got (exec (.closeStream 1 7)
      { streaming (stream0 .opened (band0 0 .fetched)) with slots := [.free, .ring, .ring] })).map
      (fun t => (t.stream, freeCount t)) = some (none, 3) := by decide +kernel
theorem test_insertion :
    (got (exec (.cartridgeInsertion .A []) State.reset)).map
      (fun t => ((t.mechOf .A).mode, (t.mechOf .A).locked, (t.mechOf .A).spindle)) =
      some (.loading, true, .starting) := by decide +kernel
theorem test_spinUp_waking :
    (got (exec (.spinUpCompletion .A) (bayIn .waking .starting))).map (fun t => ((t.mechOf .A).mode, (t.mechOf .A).spindle)) =
      some (.ready, .turning) := by decide +kernel
theorem test_spinUp_fails :
    (got (exec (.spinUpFailure .A) (bayIn .loading .starting))).map
      (fun t => ((t.mechOf .A).mode, (t.mechOf .A).spindle, t.link.sending)) =
      some (.faulted, .stopped, some (.report ⟨.A, .cartridgeIn .faulted⟩)) := by decide +kernel
theorem test_mount_blank :
    (got (exec (.mountReadCompletion .B []) (both0.mapMech .B fun k => { k with mode := .loading }))).map
      (fun t => (t.mechOf .B).mode) = some .unlabelled := by decide +kernel
theorem test_timer :
    (got (exec (.spinDownTimerExpiry .A) (ready0.mapMech .A fun k => { k with timer := some 120 }))).map
      (fun t => ((t.mechOf .A).mode, (t.mechOf .A).spindle)) = some (.resting, .stopping) := by decide +kernel
theorem test_spindleStop :
    (got (exec (.spindleStop .A) (bayIn (.ejecting .normal .ready) .turning))).map (fun t => (t.mechOf .A).spindle) =
      some .stopping := by decide +kernel
theorem test_stop_releases :
    (got (exec (.stopCompletion .A) (bayIn (.ejecting .normal .ready) .stopping))).map
      (fun t => ((t.mechOf .A).mode, (t.mechOf .A).medium, t.link.sending)) =
      some (.empty, none, some (.report ⟨.A, .cartridgeOut⟩)) := by decide +kernel
theorem test_stop_waking :
    (got (exec (.stopCompletion .A) (bayIn .waking .stopping))).map (fun t => (t.mechOf .A).spindle) = some .starting := by
  decide +kernel
theorem test_pass_delivers :
    sends (.passCompletion .A []) reading0 = some (.reply ⟨1, 7, .sector 0 .data [0x5A#8], some 4⟩) := by decide +kernel
theorem test_pass_unreadable :
    sends (.passCompletion .A [⟨4, .took⟩]) reading0 = some (.reply ⟨1, 7, .sector 0 .unreadable [], some 4⟩) := by
  decide +kernel
/-- A pass left by a controller reset gives up the slot that it alone uses (R48). -/
theorem test_pass_reset_owner :
    (got (exec (.passCompletion .A []) ({ ready0 with slots := [.held [.passes true false] none, .held [.passes true true] none] }.mapSched .A
      fun c => { c with pass := some { pass0 .read with owner := .discarded } }))).map State.slots =
      some [.free, .held [.passes false true] none] := by decide +kernel
theorem test_leaves :
    sends (.recordLeavesTable 4) (with0 [{ rec0 (.eject false) 4 0 [] with state := .ending }]) =
      some (.reply ⟨1, 7, .done (plainDone 0), none⟩) := by decide +kernel
/-- A fallback read that leaves a full table makes place for the deferred flush before its repair (R54, R68, R167). -/
theorem test_fallback_serves_deferred_flush :
    ((leaveTable 5 (mapped (fun m => { m with pending := .deferred }) (with0 (
      [{ rec0 .read 4 1 [sec .awaitingFallback 0] with state := .active }, fallen .read] ++ full0.take 14)))).recs.drop 15).map
      Rec.kind = [.mapFlush] := by decide +kernel
theorem test_deferred_flush :
    passAfter .deferredCreation (ready0.mapMap .A fun m => { m with dirty := true }) .A =
      some (.erase, 0, 2, [0, 1, 2, 3]) := by decide +kernel
theorem test_frame_sent :
    sends .frameSent (ready0.mapLink fun l => { l with sending := some (.report ⟨.A, .mediaAlert⟩), replies := [reply0] }) =
      some (.reply reply0) := by decide +kernel
theorem test_line_not_running :
    (got (exec .lineRequest ready0)).map (fun t => (t.port.fillNotRunning, t.port.lastLine)) =
      some (1#32, some (List.replicate 16 0#8)) := by decide +kernel
theorem test_line_data :
    (got (exec .lineRequest (streaming (stream0 .running (band0 0 .fetched))))).map
      (fun t => (t.port.lastLine, t.stream.map fun x => (unsent x, retained x), t.tally.linesSent)) =
      some (some (List.replicate 16 0x11#8), some (16, 16), 1) := by decide +kernel
theorem test_accept_last :
    (got (exec .bandAccept (streaming (stream0 .running (band0 2 .exposing))))).map
      (fun t => (t.stream.map fun x => (x.phase, x.bands), t.tally.bandsAccepted, t.port.ready)) =
      some (some (.opened, []), 1, false) := by decide +kernel
theorem test_repeat_rewinds :
    (got (exec .bandRepeat (streaming (stream0 .running (band0 2 .exposing))))).map
      (fun t => t.stream.map fun x => (unsent x, x.bands.map fun y => (y.sent, y.repeats))) =
      some (some (32, [(0, 1)])) := by decide +kernel
theorem test_medium_change :
    (got (exec (.mediumSectorChange .A 1 0 .unreadable) ready0)).map (fun t => (t.mechOf .A).medium) =
      some (some [(17, .unreadable)]) := by decide +kernel
/-- Also with a pass in flight, as between it and the one before (log entry 43). -/
theorem test_medium_change_in_flight :
    (got (exec (.mediumSectorChange .A 1 0 .weak) reading0)).map (fun t => (t.mechOf .A).medium) =
      some (some [(17, .data [0x5A#8] true)]) := by decide +kernel

/-! ### Witnesses: states and operands that meet the hypotheses of each statement, clause by clause -/

/-- A surface of one DATA sector, at sector 0 of track 1. -/
def medium0 : Medium := [(17, .data [0x5A#8] false)]

/-- The mirror of the two mounted bays, BOUND with bay A as primary. -/
def mirror0 : State := both0.withMirror (.paired .A 277423 0 .bound)

/-- A zone over logical sectors 10 to 19 that lets channel 0 alone read. -/
def zone0 : Zone := ⟨10, 19, 1#8, 1#8⟩

/-- A record that has failed no attempt, READING its one sector, its pass gone. -/
def readSector : State := with0 [{ rec0 .read 4 1 [⟨.unread, 1, some 0, false, none⟩] with state := .active }]

/-- A MAP_FLUSH of bay A, its four sectors PENDING. -/
def flush0 : Rec := { newRec .mapFlush none .A 3 0 0 (List.replicate 4 (newSector .pending)) [] with seq := 4 }

/-- A BUILD_STEP of bay B over the sectors 0 to 16, its read phase not started. -/
def step0 : Rec := { newRec .buildStep none .B 7 0 17 (List.replicate 17 (newSector .unread)) [] with seq := 4 }

/-- Both bays mounted, a mirror BUILDING with bay A as primary and the build cursor at 17, and these records. -/
def building (x : StepItem) (rs : List Rec) : State :=
  { both0.withMirror (.paired .A 17 0 (.building x)) with recs := rs, counter := 50 }

/-- A pass in flight on bay A. -/
def flying (p : Pass) (s : State) : State := s.mapSched .A fun c => { c with pass := some p, active := some 4 }

/-- A frame of channel 3 and tag 9 (R178). -/
def framed (kind : Byte) (body : Data) : Data := toBytes 2 body.length ++ [kind, 3#8, 9#8] ++ body

/-- A WRITE whose first sector is RELOCATING, `n` spares tried and the last of them this one. -/
def tried (n : Nat) (x : Option Nat) : Rec :=
  { rec0 .write 4 1 [sec .relocating 0] with relocations := [⟨0, n, x, .written, 1⟩] }

/-- An active READ of track 1, a READ of level 2 whose one sector a WRITE of level 7 holds, and one free slot. -/
def spent0 : State :=
  let r4 := { rec0 .read 4 1 [newSector .unread] with first := 17, state := RecState.active, started := true }
  let r5 := { rec0 .read 5 1 [newSector .unread] with level := 2, link := some (1, 8) }
  let w6 := { rec0 .write 6 1 [{ sec .pending 0 with arrived := true }] with level := 7, link := some (1, 9) }
  { with0 [r4, r5, w6] with
    slots := [.held [.record 6] (some [7#8]), .free]
    sched := ⟨{ Sched.reset with active := some 4 }, Sched.reset⟩ }

/-- A READ of level 3 active over a suspended one of level 5. -/
def stacked0 : State :=
  { with0 [{ rec0 .read 4 1 [newSector .unread] with state := .active, started := true },
      { rec0 .read 5 1 [newSector .unread] with state := .suspended, started := true, level := 5 }] with
    sched := ⟨{ Sched.reset with active := some 4, stack := [5], modeSet := .runToEnd }, Sched.reset⟩ }

/-- A WRITE whose relocation's VERIFY of spare 0 is in flight, the map's cursor at 1. -/
def relocating0 : State :=
  { mapped (fun m => { m with cursor := 1 }) (with0 [{ tried 1 (some 0) with state := .active, started := true }]) with
    slots := .held [.record 4] (some [7#8]) :: List.replicate 19 .free
    sched := ⟨{ Sched.reset with
      pass := some ⟨.record 4, .verify, 16320, 0, [0], [4], [[7#8]], [0], true⟩, active := some 4 }, Sched.reset⟩ }

/-- A READ of two sectors, one queued and one not, both with their slots, its end cause set. -/
def kept0 : State :=
  { with0 [{ rec0 .read 4 2 [sec .read 0, sec .unread 1] with state := .active, started := true, queued := 1, endCause := some .cancelled }] with
    slots := .held [.record 4] (some [7#8]) :: .held [.record 4] none :: List.replicate 18 .free
    sched := ⟨{ Sched.reset with active := some 4 }, Sched.reset⟩ }

theorem witness_StepTakesFront : State.reset.pending = [] := rfl

theorem witness_SeekCost : 16383 ≤ 16383 ∧ (1 : Nat) ≤ 16383 := by decide

theorem witness_Locations :
    277422 ≤ Config.lastLogical ∧ 1087 < Config.spares ∧ hasEntry { emptyMap with entries := [(5, 9)] } 4 = false ∧
      ([(5, 9)] : List (Nat × Nat)).find? (fun e => decide (e.1 = 5)) = some (5, 9) := by decide

theorem witness_PassEffects_erase :
    surfaceWf medium0 = true ∧ (pass0 .erase).action = .erase ∧ 0 < (pass0 .erase).items.length ∧
      18 ≠ passKey (pass0 .erase) 0 := by decide

theorem witness_PassEffects_write :
    surfaceWf medium0 = true ∧ (pass0 .write).action = .write ∧ 0 < (pass0 .write).items.length ∧
      conditionAt medium0 (passKey (pass0 .write) 0) ≠ .blank ∧ conditionAt [] (passKey (pass0 .write) 0) = .blank ∧
      (responseAt [] 0).wrote = .took ∧ (responseAt [⟨0, .differs [0x5B#8]⟩] 0).wrote = .differs [0x5B#8] ∧
      padTo 1024 [0x5B#8] ≠ (pass0 .write).data.getD 0 [] ∧ (responseAt [⟨0, .unreadable⟩] 0).wrote = .unreadable ∧
      18 ≠ passKey (pass0 .write) 0 := by decide +kernel

theorem witness_AttemptsSettle : 1 ≤ 1 := by decide

theorem witness_LabelTrackReadsBack :
    label0.name.length = 16 ∧ label0.preparations < 65536 ∧ [zone0, ⟨20, 277422, 15#8, 0#8⟩].length ≤ 8 ∧
      [zone0, ⟨20, 277422, 15#8, 0#8⟩].all zoneInBounds = true ∧ anyOverlap [zone0, ⟨20, 277422, 15#8, 0#8⟩] = false ∧
      sortZones [zone0, ⟨20, 277422, 15#8, 0#8⟩] = [zone0, ⟨20, 277422, 15#8, 0#8⟩] ∧
      mapSound { emptyMap with entries := [(3, 1087), (277422, 0)], cursor := 1088 } = true ∧ 65535 < 65536 := by
  decide +kernel

theorem witness_PowerOnBays :
    ((ready0.mechOf .B).medium = none ∧ (ready0.mechOf .A).medium = some medium0 ∧ surfaceWf medium0 = true ∧
        (ready0.schedOf .A).pass = none) ∧
      ((reading0.mechOf .A).medium = some medium0 ∧ (reading0.schedOf .A).pass = some (pass0 .read) ∧
        ((flying { pass0 .write with items := [0, 1, 2] } ready0).schedOf .A).pass =
          some { pass0 .write with items := [0, 1, 2] } ∧ 0 < 1 ∧ 1 < 2 ∧ 2 < [0, 1, 2].length) ∧
      ((⟨⟨1, [], .data [7#8]⟩, ⟨0, [], .kept⟩⟩ : Two Cut).get .A).under = .data [7#8] ∧
      ((⟨⟨1, [], .blank⟩, ⟨0, [], .kept⟩⟩ : Two Cut).get .A).under ≠ .kept ∧ (pass0 .erase).action = .erase := by decide

theorem witness_ControllerResets :
    ready0.link.resetLine = false ∧ (3 : Fin 4) ≠ 0 ∧ lineOn.link.resetLine = true := by decide

theorem witness_ControllerResets_keeps :
    ((ready0.schedOf .A).pass = none ∧ (ready0.schedOf .B).pass = none) ∧
      ((reading0.schedOf .A).pass = some (pass0 .read) ∧ (pass0 .read).owner = .record 4 ∧
        (reading0.rec? 4).map isFlush = some false) ∧
      (((flying (pass0 .erase) (with0 [flush0])).rec? 4).map isFlush = some true) ∧
      reading0.slots[0]? = some (.held [.record 4] none) ∧ reading0.slots[1]? = some .free ∧
      passUses reading0 .A 0 [.record 4] = true ∧
      passUses (flying { pass0 .read with slots := [] } reading0) .A 0 [.record 4] = false ∧
      { ready0 with slots := [.ring] }.slots[0]? = some .ring ∧ fillingOn { ready0 with slots := [.ring] } .A = 0 ∧
      0 < fillingOn (flying { pass0 .read with owner := .feed 1 } { ready0 with slots := [.ring] }) .A := by decide

theorem witness_BytesTaken :
    (ready0.link.waiting = none ∧ lineOn.link.waiting = none ∧ lineOn.link.resetLine = true) ∧
      (ready0.link.resetLine = false ∧ replyHeld ready0.link = false ∧ ready0.link.assembly = .idle) ∧
      ([0#8, 0#8, 1#8].length + 1 ≠ 5 ∧
        [0#8, 0#8, 1#8].length + 1 ≠ 5 + declared ([0#8, 0#8, 1#8] ++ [0#8])) ∧
      (setAssembly (.collecting [0#8, 0#8, 1#8]) ready0).link.assembly = .collecting [0#8, 0#8, 1#8] ∧
      (setAssembly .discarding ready0).link.assembly = .discarding ∧
      (withhold 1#8 ready0).link.waiting = some 1#8 ∧ (withhold 1#8 ready0).link.resetLine = false ∧
      replyHeld (withhold 1#8 ready0).link = false ∧ (withhold 1#8 ready0).link.assembly = .idle ∧
      (withhold 1#8 lineOn).link.waiting = some 1#8 ∧ (withhold 1#8 lineOn).link.resetLine = true := by decide

theorem witness_BytesTaken_hold :
    (ready0.mapLink fun l => { l with replies := List.replicate 64 reply0 }).link.waiting = none ∧
      replyHeld (ready0.mapLink fun l => { l with replies := List.replicate 64 reply0 }).link = true := by decide +kernel

theorem witness_BytesTaken_long :
    (setAssembly (.collecting [4#8, 3#8, 1#8, 0#8]) ready0).link.assembly = .collecting [4#8, 3#8, 1#8, 0#8] ∧
      1026 < (4#8).toNat * 256 + (3#8).toNat := by decide

theorem witness_FramesHandedOn :
    (setAssembly (.collecting [0#8, 0#8, 0x0B#8, 3#8]) ready0).link.assembly =
        .collecting [0#8, 0#8, 0x0B#8, BitVec.ofNat 8 (3 : Fin 4).val] ∧
      (setAssembly (.collecting [0#8, 1#8, 4#8, 0#8, 255#8]) ready0).link.assembly =
        .collecting [0#8, 1#8, 4#8, BitVec.ofNat 8 (0 : Fin 4).val, 255#8] ∧
      (setAssembly (.collecting [0#8, 1#8, 0x0A#8, 0#8, 9#8]) ready0).link.assembly =
        .collecting [0#8, 1#8, 0x0A#8, BitVec.ofNat 8 (0 : Fin 4).val, 9#8] ∧
      (setAssembly (.collecting [0#8, 6#8, 1#8, 3#8, 9#8, 1#8, 4#8, 0x3B#8, 0xAE#8, 1#8]) ready0).link.assembly =
        .collecting [0#8, 6#8, 1#8, BitVec.ofNat 8 (3 : Fin 4).val, 9#8, BitVec.ofNat 8 (bayPosition .B), 4#8, 0x3B#8,
          0xAE#8, 1#8] ∧
      (setAssembly (.collecting [0#8, 6#8, 2#8, 3#8, 9#8, 0#8, 4#8, 0x3B#8, 0xAE#8, 1#8]) ready0).link.assembly =
        .collecting [0#8, 6#8, 2#8, BitVec.ofNat 8 (3 : Fin 4).val, 9#8, BitVec.ofNat 8 (bayPosition .A), 4#8, 0x3B#8,
          0xAE#8, 1#8] ∧
      3 < (4#8).toNat ∧
      (setAssembly (.collecting [0#8, 0#8, 1#8, 4#8]) ready0).link.assembly = .collecting [0#8, 0#8, 1#8, 4#8] ∧
      (setAssembly (.collecting [0#8, 0#8, 0x20#8, 3#8]) ready0).link.assembly =
        .collecting [0#8, 0#8, 0x20#8, BitVec.ofNat 8 (3 : Fin 4).val] ∧
      0x20 ≤ (0x20#8).toNat := by decide

theorem witness_OutboundOrder :
    (ready0.link.resetLine = false ∧ ready0.link.sending = none ∧ ready0.link.replies = [] ∧ ready0.link.reports = []) ∧
      (ready0.mapLink fun l => { l with replies := [reply0], cursor := 7 }).link.replies = [reply0] ∧
      Settings.reset.pattern.getD 7 .reply = .reply ∧
      (ready0.mapLink fun l => { l with replies := [reply0], reports := [⟨.A, .mediaAlert⟩] }).link.reports ≠ [] ∧
      Settings.reset.pattern.getD 0 .reply = .report := by decide

theorem witness_OutboundOrder_merge :
    keysDistinct [⟨.A, .bandDone 1 2⟩, ⟨.B, .mediaAlert⟩] = true ∧
      (Report.sameKey ⟨.B, .mediaAlert⟩ ⟨.A, .bandDone 3 1⟩) = false ∧
      (Report.sameKey ⟨.A, .bandDone 1 2⟩ ⟨.A, .bandDone 3 1⟩) = true ∧
      (Report.sameKey ⟨.B, .mediaAlert⟩ ⟨.B, .mediaAlert⟩) = true := by decide

theorem witness_FrameSentEffect :
    ((ready0.mapLink fun l => { l with sending := some (.report ⟨.A, .mediaAlert⟩) }).link.sending =
        some (.report ⟨.A, .mediaAlert⟩)) ∧
      (ready0.mapLink fun l => { l with sending := some (.reply reply0) }).link.sending = some (.reply reply0) ∧
      reading0.rec? 4 = some { rec0 .read 4 1 [sec .unread 0] with state := .active, started := true } ∧
      [sec .unread 0][0]? = some (sec .unread 0) ∧ (sec .unread 0).slot = some 0 ∧ ready0.link.sending = none := by decide

theorem witness_FirstCheckRefuses :
    ready0.link.resetLine = false ∧ requestCode ready0 (readAsk 0 1 (some .A) 277422 2 7) = some .badField ∧
      requestCode ready0 (writeAsk 0 1 (some .B) 0 1 0) = some .bayEmpty ∧
      requestCode ready0 (prepareAsk 1 1 (some .A) 0#32 label0.name) = some .notPrivileged ∧ label0.name.length = 16 ∧
      requestCode ready0 (ejectAsk false 0 1 (some .A) 8) = some .badField ∧
      requestCode ready0 (ejectAsk true 0 1 none 0) = some .badField ∧
      requestCode ready0 (setZonesAsk 0 1 (some .A) 0 [zone0, zone0]) = some .zoneOverlap := by decide +kernel

theorem witness_ClaimsAndCounts : 20 ≤ freeCount ready0 := by decide

theorem witness_TransferTaken_read :
    ready0.link.resetLine = false ∧ requestCode ready0 (readAsk 3 255 (some .A) 277391 32 7) = none := by decide +kernel

theorem witness_TransferTaken_write :
    ready0.link.resetLine = false ∧ requestCode ready0 (writeAsk 0 0 (some .A) 277422 1 0) = none ∧
      mirrorPrimary ready0 ≠ some .A := by decide +kernel

theorem witness_MirroredWriteTaken :
    mirror0.link.resetLine = false ∧ seqLaw mirror0 ∧ requestCode mirror0 (writeAsk 0 0 (some .A) 0 20 7) = none ∧
      mirrorPrimary mirror0 = some .A ∧ forcedOut (mirror0.mechOf .B).mode = false :=
  ⟨rfl, trivial, by decide +kernel, rfl, rfl⟩

theorem witness_LabelWriterTaken_prepare :
    (ready0.link.resetLine = false ∧ label0.name.length = 16 ∧ (ready0.mechOf .A).mode = .ready ∧ ready0.recs = [] ∧
        flushDeferred ready0 .A = false ∧ streamOn ready0 .A = false ∧ ready0.mirror = .unbound) ∧
      (1 : Fin 4) ≠ 0 ∧ [0x41#8].length ≠ 16 := by decide

theorem witness_LabelWriterTaken_setZones :
    ready0.link.resetLine = false ∧ 7 ≤ 7 ∧ [zone0, ⟨20, 277422, 15#8, 0#8⟩].length ≤ 8 ∧
      (∀ z ∈ [zone0, ⟨20, 277422, 15#8, 0#8⟩], z.first ≤ z.last ∧ z.last ≤ 277422) ∧
      anyOverlap [zone0, ⟨20, 277422, 15#8, 0#8⟩] = false ∧ (ready0.mechOf .A).mode = .ready ∧
      (ready0.mechOf .A).inhibit = false ∧ ready0.recs = [] ∧ (3 : Fin 4) ≠ 0 := by decide

theorem witness_EjectTaken :
    requestCode ready0 (ejectAsk false 3 255 (some .A) 7) = none ∧ requestCode ready0 (ejectAsk true 0 0 (some .A) 0) = none ∧
      ((bayIn .resting .stopping).mechOf .A).mode = .resting ∧ ((bayIn .resting .stopping).mechOf .A).spindle ≠ .stopped ∧
      ((bayIn (.ejecting .normal .damaged) .turning).mechOf .A).mode = .ejecting .normal .damaged ∧
      ((bayIn .faulted .stopped).mechOf .A).mode = .faulted ∧
      ((bayIn .resting .stopped).mechOf .A).mode = .resting ∧ ((bayIn .resting .stopped).mechOf .A).spindle = .stopped ∧
      requestCode (bayIn (.ejecting .normal .ready) .turning) (ejectAsk true 0 0 (some .A) 0) = none ∧
      requestCode (bayIn (.ejecting .normal .ready) .turning) (ejectAsk false 0 0 (some .A) 0) = some .bayNotReady := by
  decide +kernel

theorem witness_EjectTaken_law : seqLaw (bayIn .faulted .stopped) ∧ seqLaw (bayIn .resting .stopped) := ⟨trivial, trivial⟩

theorem witness_EjectTaken_forced :
    seqLaw (with0 [rec0 .write 4 1 [sec .pending 0], { rec0 .mapFlush 5 0 [] with link := none }]) ∧
      (rec0 .write 4 1 [sec .pending 0]).bay = .A ∧ isFlush (rec0 .write 4 1 [sec .pending 0]) = false ∧
      isEject (rec0 .write 4 1 [sec .pending 0]) = false ∧ isFlush { rec0 .mapFlush 5 0 [] with link := none } = true := by
  refine ⟨⟨by decide, by decide, by decide, by decide, trivial⟩, by decide, by decide, by decide, by decide⟩

theorem witness_WakeAndTrigger :
    ((bayIn .resting .stopped).mechOf .A).mode = .resting ∧ (ready0.mechOf .A).mode ≠ .resting ∧
      passInFlight reading0 .A = true ∧ passInFlight ready0 .B = false ∧ canStart ready0 .B = false := by decide

theorem witness_SectorTaken :
    writing0.link.resetLine = false ∧ writing0.linkRec? 1 7 = some (rec0 .write 4 1 [sec .pending 0]) ∧
      (rec0 .write 4 1 [sec .pending 0]).state ≠ .ending ∧ 0 < (rec0 .write 4 1 [sec .pending 0]).count ∧
      (sec .pending 0).arrived = false ∧ (sec .pending 0).slot = some 0 ∧ writing0.linkRec? 1 8 = none ∧
      reading0.linkRec? 1 7 ≠ none ∧ SectorStatus.blank ≠ .data ∧ (rec0 .write 4 1 [sec .pending 0]).count ≤ 1 ∧
      [0x00#8].length ≠ 1024 := by decide

theorem witness_SectorTaken_length : (List.replicate 1024 0x00#8).length = 1024 := List.length_replicate

theorem witness_CancelTaken :
    (writing0.link.resetLine = false ∧ writing0.linkRec? 2 7 = none ∧
        writing0.linkRec? 1 7 = some (rec0 .write 4 1 [sec .pending 0])) ∧
      seqLaw writing0 ∧ (rec0 .write 4 1 [sec .pending 0]).endCause = none ∧
      (rec0 .write 4 1 [sec .pending 0]).state ≠ .ending ∧
      (isSetZones (rec0 .write 4 1 [sec .pending 0]) && (rec0 .write 4 1 [sec .pending 0]).started) = false ∧
      { rec0 .write 4 1 [] with endCause := some .abandoned }.endCause.isSome = true ∧
      isSetZones { rec0 (.setZones []) 4 0 [] with started := true } = true := by
  refine ⟨by decide, ⟨by decide, by decide, trivial⟩, by decide, by decide, by decide, by decide, by decide⟩

theorem witness_QueriesAnswered :
    ready0.link.resetLine = false ∧ writing0.linkRec? 1 7 = some (rec0 .write 4 1 [sec .pending 0]) ∧
      writing0.linkRec? 0 7 = none ∧ (ready0.mechOf .A).mode = .ready ∧ (ready0.mechOf .B).mode ≠ .ready ∧
      (ready0.mechOf .B).mode ≠ .resting ∧ (ready0.mechOf .B).mode ≠ .waking := by decide

theorem witness_SetupTaken :
    ready0.link.resetLine = false ∧ patternSuits (some (List.replicate 8 (some .reply))) = true ∧ patternSuits none = true ∧
      badSetup ⟨some 0, some 256, some (List.replicate 8 (some .reply)), ⟨some (some .runToEnd), none⟩, ⟨some 256, none⟩,
        ⟨none, some (some true)⟩⟩ = false ∧
      badSetup ⟨none, none, none, ⟨some none, none⟩, ⟨none, none⟩, ⟨none, none⟩⟩ = true ∧ patternSuits (some []) = false := by
  decide

theorem witness_MirrorRequests :
    (both0.link.resetLine = false ∧ mirrorPrimary both0 = none ∧ (both0.mechOf .A).mode = .ready ∧
        (both0.mechOf .B).mode = .ready ∧ both0.recs = [] ∧ (both0.mechOf .A).inhibit = false ∧
        (both0.mechOf .B).inhibit = false ∧ streamOn both0 .B = false) ∧
      firstCode (bindChecks mirror0 .A) = some .mirrorState ∧ both0.mirror = .unbound ∧ mirror0.mirror ≠ .unbound := by
  decide

theorem witness_MirrorRequests_order : seqLaw mirror0 := trivial

theorem witness_StreamOpenedAndMarked :
    (ready0.link.resetLine = false ∧ ready0.stream = none ∧ 16 * 4096 ≤ 196608 ∧ 8192 * 24 ≤ 196608 ∧
        (ready0.mechOf .A).mode = .ready ∧ ready0.recs = [] ∧ mirrorPrimary ready0 ≠ some (Bay.other .A) ∧
        16 ≤ freeCount ready0) ∧
      (streaming (stream0 .opened (band0 0 .fetched))).stream ≠ none ∧ 196608 < 8192 * 25 ∧
      (ready0.mechOf .B).mode = .empty ∧ ((bayIn .waking .starting).mechOf .A).mode ≠ .ready ∧
      mirrorPrimary mirror0 = some (Bay.other .B) ∧ freeCount ready0 < 21 := by decide

theorem witness_StreamOpenedAndMarked_marks :
    ready0.stream = none ∧ (streaming (stream0 .opened (band0 0 .fetched))).stream ≠ none ∧ 16 ≤ 16 ∧ 192 ≤ 192 := by
  decide

theorem witness_AppendTaken :
    (streaming (stream0 .opened (band0 0 .fetched))).link.resetLine = false ∧
      firstCode (bandChecks (streaming (stream0 .opened (band0 0 .fetched))) (stream0 .opened (band0 0 .fetched)) 0 0 0) =
        some .bandShape ∧
      (16 : Nat) ∣ 15360 ∧ 15360 ≤ ((stream0 .opened (band0 0 .fetched)).ring - 1) * 1024 ∧
      277408 + (15360 + 1023) / 1024 ≤ 277423 ∧ (ready0.mechOf .A).mode = .ready ∧
      (ready0.mechOf .A).zones.getD [] = [] ∧ ready0.recs = [] ∧ (stream0 .opened (band0 0 .fetched)).bands.length < 32 := by
  decide

theorem witness_StreamRequestsTaken_start :
    (streaming (stream0 .opened (band0 0 .fetched))).link.resetLine = false ∧ ready0.stream = none ∧
      (stream0 .opened (band0 0 .fetched)).phase = .opened ∧ (stream0 .opened (band0 0 .fetched)).bands ≠ [] ∧
      (stream0 (.halted .stop) (band0 1 .exposing)).phase = .halted .stop ∧ (ready0.mechOf .A).mode = .ready ∧
      (stream0 .running (band0 1 .exposing)).phase = .running ∧ (stream0 .priming (band0 0 .fetched)).phase = .priming ∧
      ((bayIn .resting .stopped).mechOf .A).mode ≠ .ready ∧ ((bayIn .resting .stopped).mechOf .A).mode ≠ .waking := by
  decide

theorem witness_RewindsAndLines :
    (stream0 (.halted .stop) (band0 2 .exposing)).bands = [band0 2 .exposing] ∧ (band0 2 .exposing).state = .exposing ∧
      (band0 2 (.spoiled .underrun)).state = .spoiled .underrun ∧
      (band0 0 .queued).state ∈ [BandState.queued, .fetching, .fetched] ∧
      ((stream0 .running (band0 1 .exposing)).segments.map Segment.band).Nodup ∧
      segmentOf (stream0 .running (band0 1 .exposing)) 1 = some ⟨1, List.replicate 32 0x11#8, 16⟩ ∧
      16 ≤ (List.replicate 32 0x11#8).length ∧ 16 ≤ (List.replicate 32 0x11#8).length - 16 := by decide

theorem witness_StreamRequestsTaken_flush :
    ready0.stream = none ∧ { stream0 .opened (band0 0 .queued) with bands := [] }.bands = [] ∧
      (stream0 .opened (band0 0 .queued)).bands ≠ [] ∧ (stream0 (.halted .eject) (band0 0 .queued)).phase = .halted .eject ∧
      feedInFlight (streaming (stream0 .opened (band0 0 .queued))) .A = false ∧
      feedInFlight { streaming (stream0 (.halted .stop) (band0 0 .queued)) with
        sched := ⟨{ Sched.reset with pass := some { pass0 .read with owner := .feed 1 } }, Sched.reset⟩ } .A = true := by
  decide

theorem witness_ImagesetterAnswered :
    ready0.stream = none ∧ (streaming (stream0 .running (band0 2 .exposing))).stream = some (stream0 .running (band0 2 .exposing)) ∧
      (band0 2 .exposing).length / 16 ≤ (band0 2 .exposing).sent ∧ (band0 1 .exposing).sent < (band0 1 .exposing).length / 16 ∧
      (band0 1 (.spoiled .underrun)).state = .spoiled .underrun ∧
      segmentOf (stream0 .running (band0 1 .exposing)) 1 = some ⟨1, List.replicate 32 0x11#8, 16⟩ ∧
      16 ≤ (List.replicate 32 0x11#8).length - 16 ∧
      segmentOf { stream0 .running (band0 0 .queued) with segments := [] } 1 = none := by decide

theorem witness_ImagesetterAnswered_band :
    ready0.stream = none ∧ (stream0 .running (band0 2 .exposing)).phase = .running ∧
      (band0 1 .exposing).sent < (band0 1 .exposing).length / 16 ∧ (band0 0 .queued).state ≠ .exposing ∧
      (band0 2 .exposing).length / 16 ≤ (band0 2 .exposing).sent ∧
      (band0 2 (.spoiled .repeatLimit)).state = .spoiled .repeatLimit ∧ (band0 2 .exposing).repeats < 2 ∧
      2 ≤ { band0 2 .exposing with repeats := 2 }.repeats := by decide

theorem witness_BudgetAndGuard :
    196608 ≤ 196608 ∧ 1 ≤ 16 * 1 ∧ 8192 * 24 ≤ 196608 ∧ 65536 * (16 * 48) ≤ 196608 * 256 ∧
      196608 * 256 < (65536 + 1) * (16 * 48) ∧ 16 * 48 = 768 ∧ 769 * 1 = 769 := by decide

theorem witness_BudgetAndGuard_guard : 0 ≤ 16383 ∧ 16383 ≤ 16383 ∧ 255 ≤ 255 := by decide

theorem witness_AdmissionLaw :
    (streaming (stream0 .running (band0 1 .exposing))).stream = some (stream0 .running (band0 1 .exposing)) ∧
      unsent (stream0 .running (band0 1 .exposing)) < (stream0 .running (band0 1 .exposing)).marks.low * 1024 ∧
      { stream0 .running (band0 1 .exposing) with marks := ⟨0, 2, 2⟩ }.marks.low * 1024 ≤
        unsent { stream0 .running (band0 1 .exposing) with marks := ⟨0, 2, 2⟩ } ∧
      budget 16 16 16 ≤ guardOf 0 1 none 8 ∧ guardOf 0 1 none 8 < budget 16 16 1 ∧ runningOn ready0 .A = false ∧
      reading0.rec? 4 ≠ none := by decide

theorem witness_CartridgeEvents :
    (State.reset.mechOf .A).mode = .empty ∧ (ready0.mechOf .A).mode ≠ .empty ∧
      ((bayIn .loading .starting).mechOf .A).spindle = .starting ∧ ((bayIn .loading .starting).mechOf .A).mode ≠ .waking ∧
      ((bayIn .waking .starting).mechOf .A).mode = .waking ∧ (ready0.mechOf .A).spindle ≠ .starting ∧
      ((bayIn .loading .turning).mechOf .A).mode = .loading ∧ ((bayIn .loading .turning).mechOf .A).spindle = .turning ∧
      ((bayIn .loading .turning).mechOf .A).medium = some medium0 ∧ (ready0.mechOf .A).mode ≠ .loading ∧
      classOf [.blank, .data [] 1, .blank, .blank, .blank, .blank] = .faulty := by decide

theorem witness_CartridgeEvents_sound :
    (match classOf ((labelImage label0 :: zonesImage [] :: mapImages (mapBytes emptyMap 0)).map fun d => Found.data d 1) with
     | .sound l _ _ => decide (l = label0)
     | _ => false) = true := by decide +kernel

theorem witness_RestAndStop :
    ((ready0.mapMech .A fun k => { k with timer := some 255 }).mechOf .A).timer = some 255 ∧ (ready0.mechOf .A).timer = none ∧
      releaseHolds (bayIn (.ejecting .normal .ready) .turning) .A = true ∧ releaseHolds ready0 .A = false ∧
      ((bayIn .waking .stopping).mechOf .A).spindle = .stopping ∧ (ready0.mechOf .A).spindle ≠ .stopping ∧
      (reading0.mechOf .A).medium = some medium0 ∧ surfaceWf medium0 = true ∧ 16383 < 16384 ∧ 16 < 17 ∧
      conditionAt medium0 (17 * 1 + 0) = .data [0x5A#8] false ∧ conditionAt medium0 (17 * 16383 + 16) = .blank := by decide

theorem witness_PassCompletes : (ready0.schedOf .A).pass = none ∧ (reading0.schedOf .A).pass = some (pass0 .read) := by decide

theorem witness_SectorOutcomes :
    (pass0 .erase).relocation = false ∧ (pass0 .write).action = .write ∧ reading0.recs[0]? ≠ none ∧
      readSector.rec? 4 ≠ none ∧
      (readSector.rec? 4).bind (fun r => r.sectors[0]?) = some ⟨.unread, 1, some 0, false, none⟩ ∧ 1 + 2 < 4 ∧ 4 ≤ 1 + 3 ∧
      mirrorPrimary readSector ≠ some .A := by decide

theorem witness_SectorOutcomes_order : seqLaw readSector := ⟨by decide, by decide, trivial⟩

theorem witness_LeavingAndCreation :
    (with0 [{ rec0 (.eject false) 4 0 [] with state := .ending }]).rec? 4 ≠ none ∧
      ([.eject false, .fallbackRead, .buildStep, .relocate .weak] : List Kind).all (fun k =>
        readyToLeave (with0 [{ newRec k none .A 3 0 0 [] [] with seq := 4, state := .ending }])
          { newRec k none .A 3 0 0 [] [] with seq := 4, state := .ending }) = true ∧
      readyToLeave (with0 [{ rec0 (.eject false) 4 0 [] with state := .ending }])
        { rec0 (.eject false) 4 0 [] with state := .ending } = true ∧
      ready0.rec? 4 = none ∧ readyToLeave writing0 (rec0 .write 4 1 [sec .pending 0]) = false := by decide

theorem witness_LeavingAndCreation_flush :
    ((mapped (fun m => { m with pending := .deferred }) ready0).mechOf .A).map =
        some { emptyMap with pending := .deferred } ∧
      ((mapped (fun m => { m with dirty := true }) ready0).mechOf .A).map = some { emptyMap with dirty := true } ∧
      emptyMap.pending = .none ∧ (ready0.mechOf .A).inhibit = false ∧ ready0.recs.length < 16 ∧
      16 ≤ (with0 (flush0 :: full0)).recs.length ∧ needsFlush both0 .A = false ∧ needsFlush both0 .B = false ∧
      flushDeferred both0 .A = false ∧ flushDeferred both0 .B = false := by decide

theorem witness_LeavingAndCreation_step :
    (building .deferred []).mirror = .paired .A 17 0 (.building .deferred) ∧ (building .deferred []).recs.length < 16 ∧
      forcedOut ((building .deferred []).mechOf .B).mode = false ∧ (∃ r ∈ (building .deferred [step0]).recs, isStep r = true) ∧
      needsFlush (building .deferred []) .A = false ∧ flushDeferred (building .deferred []) .B = false ∧
      ready0.mirror = .unbound := by decide

theorem witness_StepTakesFront_request :
    requestRow (.unbind 0 0) = true ∧ lineOn.link.resetLine = true ∧ ready0.link.resetLine = false := by decide

theorem witness_TableAndSlotLawsKept :
    tableLaw State.reset ∧ slotLaw State.reset ∧ step State.reset = .next State.reset :=
  ⟨⟨by decide, by decide⟩, List.length_replicate, rfl⟩

theorem witness_StreamLawsKept :
    readyLaw State.reset ∧ bandLaw State.reset ∧ step State.reset = .next State.reset :=
  ⟨rfl, (fun _ h => nomatch h), rfl⟩

theorem witness_LinkLawsKept :
    reportLaw State.reset ∧ settingsLaw State.reset ∧ step State.reset = .next State.reset :=
  ⟨rfl, ⟨by decide, by decide, by decide, by decide, by decide, by decide⟩, rfl⟩

theorem witness_CartridgeLawsKept :
    mapLaw ready0 ∧ mediumLaw ready0 ∧ step ready0 = .next ready0 := by
  refine ⟨fun b m h => ?_, fun b m h => ?_, rfl⟩
  · cases b
    · cases h; rfl
    · cases h
  · cases b
    · cases h; rfl
    · cases h

theorem witness_RecordLawsKept :
    seqLaw mirror0 ∧ mirrorLaw mirror0 ∧ mirror0.counter.toNat + 4096 ≤ 2 ^ 48 ∧ step mirror0 = .next mirror0 :=
  ⟨trivial, (fun _ _ _ h => nomatch h), by decide, rfl⟩

theorem witness_BytesTaken_fifth :
    ([0x04#8, 0x02#8, 3#8, 1#8].length = 4 ∧ (0x04#8).toNat * 256 + (0x02#8).toNat = 1026 ∧
        [0x04#8, 0x02#8, 3#8, 1#8].length + 1 ≠ 5 + ((0x04#8).toNat * 256 + (0x02#8).toNat)) ∧
      (0x04#8).toNat * 256 + (0x03#8).toNat = 1027 ∧
      ([0x00#8, 0x01#8, 4#8, 1#8].length = 4 ∧ [0x00#8, 0x01#8, 4#8, 1#8].length + 1 ≠ 5 + 1) := by decide

theorem witness_FramesHandedOn_body :
    ([(0x03#8, [0xFF#8, 0x01#8]), (0x05#8, [0x00#8]), (0x05#8, [0x01#8, 0x01#8]), (0x05#8, [0x02#8, 0xFF#8]),
      (0x05#8, [0x05#8, 0x07#8]), (0x06#8, List.replicate 9 0x00#8), (0x06#8, List.replicate 10 0x00#8),
      (0x06#8, [0x01#8, 0x00#8, 0x40#8] ++ List.replicate 8 0x00#8), (0x07#8, [0x00#8, 1#8, 2#8, 3#8, 4#8] ++ label0.name),
      (0x08#8, [0x01#8, 0x00#8, 0x07#8]), (0x08#8, [0x01#8, 0x02#8, 0x07#8]), (0x09#8, [0x00#8, 0x07#8, 0x00#8]),
      (0x10#8, [0x00#8, 0x10#8, 0x00#8, 0x10#8, 0x10#8, 0x00#8, 0x00#8]), (0x11#8, [0x01#8, 0x02#8, 0x03#8]),
      (0x12#8, [0x04#8, 0x3B#8, 0xAE#8, 0x00#8, 0x04#8, 0x00#8]), (0x01#8, List.replicate 7 0x00#8), (0x03#8, []),
      (0x05#8, [0x00#8, 0x00#8]), (0x09#8, [0x00#8, 0x07#8, 0x01#8]), (0x10#8, List.replicate 10 0x00#8)] :
        List (Byte × Data)).all (fun p =>
      decide (p.2.length ≤ 1026) && decide ((framed p.1 p.2).dropLast ++ [(framed p.1 p.2).getLastD 0] = framed p.1 p.2) &&
        decide ((setAssembly (.collecting (framed p.1 p.2).dropLast) ready0).link.assembly =
          .collecting (framed p.1 p.2).dropLast) && decide (ready0.link.waiting = none)) = true := by decide +kernel

theorem witness_FramesHandedOn_zones :
    [zone0].length ≤ 127 ∧ (∀ z ∈ [zone0], z.first < 16777216 ∧ z.last < 16777216) ∧
      (List.replicate 1024 0x33#8).length = 1024 ∧ (0x02#8 : Byte) ≠ 0x00#8 ∧ 5 ≤ (0x05#8 : Byte).toNat ∧
      1 < (0x02#8 : Byte).toNat ∧ (6, 7) = (6, [0x00#8, 0x00#8, 0x00#8, 0x00#8, 0x00#8, 0x00#8, 0x00#8].length) := by
  decide +kernel

theorem witness_TransferChecks :
    requestCode ready0 (readAsk 3 255 (some .A) 277391 32 7) = none ∧
      requestCode ready0 (readAsk 3 255 (some .A) 277392 32 7) ≠ none ∧
      requestCode ready0 (writeAsk 0 0 (some .A) 277422 1 0) = none ∧
      requestCode ready0 (writeAsk 0 0 (some .A) 0 21 0) = some .noBuffer := by decide +kernel

theorem witness_QueriesAnswered_items :
    ready0.stream = none ∧
      (streaming (stream0 .running (band0 1 .exposing))).stream = some (stream0 .running (band0 1 .exposing)) ∧
      (stream0 .opened (band0 0 .queued)).phase ≠ .running ∧
      (building .present [step0]).mirror = .paired .A 17 0 (.building .present) ∧
      (building .present [step0]).recs.find? isStep = some step0 ∧
      ((ready0.schedOf .A).active = none ∧ (ready0.schedOf .A).stack = [] ∧ (ready0.schedOf .A).pass = none) ∧
      ((reading0.schedOf .A).active = some 4 ∧ (reading0.rec? 4).isSome = true ∧
        (reading0.schedOf .A).pass = some (pass0 .read) ∧ (pass0 .read).owner = .record 4) ∧
      ((reading0.mapSched .A fun c => { c with active := none, stack := [4] }).schedOf .A).stack = [4] ∧
      ((flying { pass0 .read with owner := .feed 1 } ready0).schedOf .A).pass = some { pass0 .read with owner := .feed 1 } ∧
      ((flying { pass0 .read with owner := .discarded } ready0).schedOf .A).pass =
        some { pass0 .read with owner := .discarded } ∧
      (ready0.mechOf .B).map = none ∧ (ready0.mechOf .A).map = some emptyMap := by decide

theorem witness_MirrorRequests_checks :
    mirrorPrimary mirror0 ≠ none ∧
      (mirrorPrimary ready0 = none ∧ (ready0.mechOf .B).mode ≠ .ready ∧ (ready0.mechOf .B).mode ≠ .resting) ∧
      (∃ r ∈ { both0 with recs := [rec0 (.prepare 1#32 label0.name) 4 0 []] }.recs, isPrepare r = true) ∧
      ((both0.mapMech .B fun m => { m with inhibit := true }).mechOf .B).inhibit = true ∧
      streamOn { both0 with stream := some { stream0 .opened (band0 0 .queued) with bay := .B } } .B = true ∧
      (∃ r ∈ { both0 with recs := [{ rec0 .write 4 1 [] with bay := .B }] }.recs, r.bay = .B ∧ r.kind = .write) := by decide

theorem witness_AppendTaken_checks :
    15360 % 16 = 0 ∧ 15361 % 16 ≠ 0 ∧ ((stream0 .opened (band0 0 .fetched)).ring - 1) * 1024 = 15360 ∧
      (277408 + (15360 + 1023) / 1024 = 277423 ∧ 277423 < 277409 + (15360 + 1023) / 1024) ∧
      (((bayIn .resting .stopped).mechOf .A).mode ≠ .ready ∧ ((bayIn .resting .stopped).mechOf .A).mode ≠ .waking) ∧
      (zone0.first < 0 + (10256 + 1023) / 1024 ∧ 0 ≤ zone0.last ∧ zone0.readMask.getLsbD 1 = false) ∧
      (∃ r ∈ writing0.recs, r.kind = .write ∧ r.state ≠ .ending ∧ r.bay = .A ∧ r.first < 0 + (16 + 1023) / 1024 ∧
        0 < r.first + r.count) ∧
      32 ≤ { stream0 .opened (band0 0 .fetched) with bands := List.replicate 32 (band0 0 .fetched) }.bands.length := by decide

theorem witness_CandidateOrder :
    4 ≠ 5 ∧ (flush0.kind = .mapFlush ∧ flush0.link = none) ∧ (step0.kind = .buildStep ∧ step0.writePhase = false) ∧
      step0.started = false ∧ { step0 with started := true }.started = true ∧ isWriter (rec0 .write 4 1 []) = true ∧
      (rec0 .read 4 1 []).kind = .read ∧ (rec0 .read 4 1 []).link ≠ none ∧ (fallen .unread).kind = .fallbackRead ∧
      isSetZones (rec0 (.setZones []) 4 0 []) = true ∧ isEject (rec0 (.eject false) 4 0 []) = true ∧
      newestWriter writing0 .A 0 = some (rec0 .write 4 1 [sec .pending 0]) ∧ newestWriter writing0 .A 1 = none ∧
      (newRec (.relocate .weak) none .A 6 0 1 [] [4]).kind = .relocate .weak := by decide

/-- The bay's decision starts from a table with two reads waiting and nothing active (R82, R83). -/
theorem witness_DecisionTaken :
    let s := with0 [rec0 .read 4 1 [newSector .unread], { rec0 .read 5 1 [newSector .unread] with level := 2 }]
    let u := considered .A s
    passInFlight s .A = false ∧ canStart s .A = true ∧ streamOn u .A = false ∧ (u.schedOf .A).active = none ∧
      (u.schedOf .A).stack = [] ∧ candidates u .A 8 = [5, 4] ∧
      (planRec 5 u).2 = .pass ⟨.read, 1, 0, [0], true, false⟩ ∧ admission (planRec 5 u).1 .A 1 1 = some 1 ∧
      candidates (considered .A ready0) .A 8 = [] := by decide +kernel

/-- An active read is preempted by a waiting one of a lower level, goes on in RUN_TO_END, stalls with the read cap spent, or
has no pass left (R82, R85, R86). -/
theorem witness_DecisionTaken_active :
    let act (s : State) := s.mapSched .A fun c => { c with active := some 4 }
    let r4 := { rec0 .read 4 1 [newSector .unread] with state := RecState.active }
    let u := considered .A (act (with0 [r4, { rec0 .read 5 1 [newSector .unread] with level := 2 }]))
    let w := considered .A (act (with0 [r4]))
    let n := considered .A { act (with0 [r4]) with slots := [] }
    let z := considered .A (act (with0 [{ rec0 .read 4 1 [newSector .read] with state := RecState.active }]))
    ((u.schedOf .A).active = some 4 ∧ (planRec 4 u).2 = .pass ⟨.read, 1, 0, [0], true, false⟩ ∧
        ((planRec 4 u).1.schedOf .A).mode = .nested ∧ candidates (planRec 4 u).1 .A (levelOf (planRec 4 u).1 (some 4)) = [5] ∧
        (planRec 5 (planRec 4 u).1).2 = .pass ⟨.read, 1, 0, [0], true, false⟩ ∧
        admission (planRec 5 (planRec 4 u).1).1 .A 1 1 = some 1) ∧
      (candidates (planRec 4 w).1 .A (levelOf (planRec 4 w).1 (some 4)) = [] ∧
        (planRec 4 w).2 = .pass ⟨.read, 1, 0, [0], true, false⟩) ∧
      ((n.schedOf .A).active = some 4 ∧ (planRec 4 n).2 = .stalled) ∧
      ((z.schedOf .A).active = some 4 ∧ (planRec 4 z).2 = .finished) := by decide +kernel

/-- A suspended read on the stack goes on, or gives way to a waiting one of a lower level (R84). -/
theorem witness_DecisionTaken_stack :
    let put (s : State) := s.mapSched .A fun c => { c with stack := [4] }
    let r4 := { rec0 .read 4 1 [newSector .unread] with state := RecState.suspended }
    let u := considered .A (put (with0 [r4]))
    let w := considered .A (put (with0 [r4, { rec0 .read 5 1 [newSector .unread] with level := 2 }]))
    ((u.schedOf .A).active = none ∧ (u.schedOf .A).stack = [4] ∧ candidates u .A (levelOf u (some 4)) = [] ∧
        (planRec 4 u).2 = .pass ⟨.read, 1, 0, [0], true, false⟩) ∧
      (w.schedOf .A).stack = [4] ∧ candidates w .A (levelOf w (some 4)) = [5] ∧ finishRecord 4 u ≠ u ∧ 5 ≠ 4 ∧
      (u.rec? 4).isSome = true := by decide +kernel

/-- An eligible feed goes before everything, and a running stream's guard can refuse a pass (R80, R90). -/
theorem witness_DecisionTaken_feed :
    let feed := considered .A (streaming (stream0 .priming unfetched0))
    let low := { streaming { stream0 .running (band0 1 .exposing) with marks := ⟨15, 15, 15⟩ } with
      recs := [rec0 .read 4 1 [newSector .unread]], counter := 50 }
    passInFlight (streaming (stream0 .priming unfetched0)) .A = false ∧ streamOn feed .A = true ∧
      feedEligible feed = true ∧ admission low .A 1 1 = none := by decide +kernel

theorem witness_PlansMade :
    (tried 1 (some 0)).relocations = [⟨0, 1, some 0, .written, 1⟩] ∧ (tried 0 none).relocations ≠ [] ∧
      (rec0 .write 4 1 [sec .pending 0]).relocations = [] ∧
      writeNeed writing0 (rec0 .write 4 1 [sec .pending 0]) 0 (sec .pending 0) = some .erase ∧
      (sec .pending 0).attempts = 0 ∧ 0 < { sec .written 0 with attempts := 2 }.attempts ∧
      writeNeed writing0 (rec0 .write 4 1 [sec .erased 0]) 0 (sec .erased 0) = none ∧
      writeFinished (rec0 .write 4 1 [sec .erased 0]) 0 (sec .erased 0) = false ∧
      writeFinished (rec0 .write 4 1 [sec .verified 0]) 0 (sec .verified 0) = true ∧
      isReading (rec0 .read 4 1 []) = true ∧ isReading (rec0 .write 4 1 []) = false := by decide

/-- A read with a slot to claim, one whose cap is spent, one retried, and ones whose sector a newer write holds, with and
without a slot of their own (R41, R96, R98). -/
theorem witness_PlansMade_read :
    let through (x : Option Nat) := { with0 [{ rec0 .write 4 1 [{ sec .pending 0 with arrived := true }] with bay := .A },
        rec0 .read 5 1 [⟨.unread, 1, x, false, none⟩]] with
      slots := .held [.record 4] (some [7#8]) :: .held [.record 5] none :: List.replicate 18 .free }
    (throughData (with0 [rec0 .read 4 1 [newSector .unread]]) .A 0 = none ∧ min (freeCount ready0) (24 - holdings ready0) = 20) ∧
      throughData (through none) .A 0 = some [7#8] ∧ throughData (through (some 1)) .A 0 = some [7#8] ∧
      min (freeCount (through none)) ((through none).settings.readCap - holdings (through none)) ≠ 0 ∧
      min (freeCount { through none with slots := [.held [.record 4] (some [7#8])] })
        (24 - holdings { through none with slots := [.held [.record 4] (some [7#8])] }) = 0 ∧
      freeIds (through none) = 2 :: (List.range 17).map (fun k => 3 + k) ∧ freeCount { ready0 with slots := [] } < 17 ∧
      0 < (⟨.unread, 1, some 0, false, none⟩ : Sector).attempts ∧ step0.started = false := by decide +kernel

theorem witness_FramesQueued :
    let r := { rec0 .read 4 2 [sec .read 0, { sec .failed 1 with cause := some .blank }] with queued := 0 }
    (with0 [r]).rec? 4 = some r ∧ r.kind = .read ∧ r.link = some (1, 7) ∧
      (r.sectors.drop r.queued).takeWhile
        (fun x => decide (x.progress = .read) || decide (x.progress = .failed)) = r.sectors ∧ r.sectors ≠ [] ∧
      (reading0.rec? 4).map (fun x => (x.sectors.drop x.queued).takeWhile
        (fun y => decide (y.progress = .read) || decide (y.progress = .failed))) = some [] ∧
      (writing0.rec? 4).map Rec.kind = some .write := by decide

theorem witness_SparesAssigned :
    (with0 [tried 0 none]).rec? 4 = some (tried 0 none) ∧
      (tried 2 (some 1)).relocations.find? (fun t => decide (t.index = 0)) = some ⟨0, 2, some 1, .written, 1⟩ ∧
      { tried 0 none with endCause := some .cancelled }.endCause ≠ none ∧ ((with0 []).mechOf .A).map = some emptyMap ∧
      3 ≤ 3 ∧ 2 < 3 ∧ 1088 ≤ { emptyMap with cursor := 1088 }.cursor ∧ emptyMap.cursor < 1088 ∧ emptyMap.entries.length < 512 ∧
      (tried 0 none).kind ≠ .mirrorCopy ∧ { tried 0 none with kind := .mirrorCopy, partners := [9] }.partners = [9] ∧
      ascending [(3, 0), (5, 1)] = true ∧ ([8#8] : Data) ≠ [7#8] ∧ 4 ≤ 1 + 3 ∧ 1 + 2 < 4 ∧ 1 < 2 ∧
      1088 - { emptyMap with cursor := 1057 }.cursor < 32 ∧ 32 ≤ 1088 - { emptyMap with cursor := 1056 }.cursor := by decide

theorem witness_SparesAssigned_full :
    512 ≤ { emptyMap with entries := (List.range 512).map fun k => (k, k) }.entries.length ∧
      (∀ e ∈ (List.range 512).map fun k => (k, k), e.1 ≠ 512) ∧ (∃ e ∈ [(7, 3)], e.1 = 7) ∧
      480 ≤ ((List.range 480).map fun k => (k, k)).length := by decide +kernel

theorem witness_RelocateRequested :
    ((ready0.mapMech .A fun m => { m with inhibit := true }).mechOf .A).inhibit = true ∧
      (∃ r ∈ writing0.recs, r.state ≠ .ending ∧ r.first ≤ 0 ∧ 0 < r.first + r.count ∧ r.kind = .write ∧ r.bay = .A) ∧
      (∃ r ∈ (building .present [step0]).recs, r.state ≠ .ending ∧ r.first ≤ 16 ∧ 16 < r.first + r.count ∧
        r.kind = .buildStep ∧ r.started = false ∧ r.bay = .B) ∧
      (ready0.mechOf .B).map = none ∧ 1088 ≤ { emptyMap with cursor := 1088 }.cursor ∧
      16 ≤ (with0 (flush0 :: full0)).recs.length ∧ freeCount { ready0 with slots := [] } = 0 ∧
      ((ready0.mechOf .A).inhibit = false ∧ ready0.recs = [] ∧ (ready0.mechOf .A).map = some emptyMap ∧
        freeIds ready0 = 0 :: (List.range 19).map (fun k => 1 + k) ∧ forcedOut (ready0.mechOf .A).mode = false) ∧
      (forcedOut ((bayIn (.ejecting .forced .ready) .turning).mechOf .A).mode = true ∧
        ((bayIn (.ejecting .forced .ready) .turning).mechOf .A).map = some emptyMap) ∧
      ((readSector.rec? 4).bind (fun r => r.sectors[0]?) = some ⟨.unread, 1, some 0, false, none⟩ ∧ 1 < 1 + 1 ∧
        readSector.settings.weak.get .A = true ∧ 0 + 1 ≤ 1) := by decide +kernel

theorem witness_RelocateRequested_order : seqLaw (bayIn (.ejecting .forced .ready) .turning) := trivial

theorem witness_FlushAndLabelEnds :
    let prep (p : Progress) (n : Nat) := { rec0 (.prepare 1#32 label0.name) 4 0 (List.replicate 17 (newSector p)) with round := n }
    let zones (p : Progress) := { rec0 (.setZones [zone0]) 4 0 [newSector p] with round := 2 }
    let flush (p : Progress) := { flush0 with sectors := List.replicate 4 (newSector p), round := 2 }
    ([prep .verified 1, prep .failed 1, prep .failed 2, zones .verified, zones .failed, flush .verified, flush .failed] :
        List Rec).all (fun r => isLabelWriter r && decide (r.endCause = none) && ((with0 [r]).rec? 4).isSome) = true ∧
      (∀ x ∈ (prep .verified 1).sectors.take 6, x.progress = .verified) ∧
      (∃ x ∈ (prep .failed 1).sectors.take 6, x.progress = .failed) ∧
      (∀ x ∈ (prep .failed 1).sectors.take 6, x.progress = .verified ∨ x.progress = .failed) ∧
      (∃ x ∈ (prep .written 1).sectors.take 6, x.progress ≠ .verified ∧ x.progress ≠ .failed) ∧ (prep .failed 2).round ≠ 1 ∧
      6 ≤ (prep .verified 1).sectors.length ∧ (∀ x ∈ (zones .failed).sectors.take 1, x.progress = .failed) ∧
      isLabelWriter (rec0 .write 4 1 []) = false := by decide

theorem witness_FlushAndLabelEnds_start :
    ((with0 [flush0]).mechOf .A).map = some emptyMap ∧
      ({ with0 [step0] with slots := List.replicate 17 .free }).rec? 4 = some step0 ∧ step0.sectors.length = 17 ∧
      17 ≤ freeCount { with0 [step0] with slots := List.replicate 17 .free } ∧ flush0.started = false ∧
      flush0.state = .waiting ∧ (both0.mechOf .B).inhibit = false ∧ isSecondary ready0 .A = false ∧
      (building .none []).mirror = .paired .A 17 0 (.building .none) := by decide

theorem witness_FlushAndLabelEnds_order : seqLaw (with0 [flush0]) ∧ seqLaw (with0 [step0]) :=
  ⟨⟨by decide, by decide, trivial⟩, by decide, by decide, trivial⟩

theorem witness_FeedPlanned :
    let t := stream0 .priming unfetched0
    let s := streaming t
    let w := { s with
      recs := [rec0 .write 4 1 [{ sec .pending 0 with arrived := true }]]
      slots := [.held [.record 4] (some (List.replicate 1024 7#8))] }
    s.stream = some t ∧ feedBand t = some unfetched0 ∧ feedEligible s = true ∧ throughData s .A 0 = none ∧
      (feedEligible w = true ∧ throughData w .A 0 = some (List.replicate 1024 7#8)) ∧
      feedEligible (streaming (stream0 .opened unfetched0)) = false ∧
      1 ≤ (band0 0 .queued).length ∧ 0 < ((band0 0 .queued).length + 1023) / 1024 ∧
      0 + 1 = ((band0 0 .queued).length + 1023) / 1024 ∧ 0 + 1 < (1040 + 1023) / 1024 := by decide +kernel

theorem witness_FeedCompleted :
    let x := unfetched0
    let t := { stream0 .priming x with reserved := 32 }
    ready0.stream = none ∧ (streaming t).stream = some t ∧ (∀ y ∈ t.bands, y.serial = 9 → ∃ c, y.state = .spoiled c) ∧
      x ∈ t.bands ∧ x.serial = 1 ∧ (∀ c : SpoilCause, x.state ≠ .spoiled c) ∧
      t.bands.Pairwise (fun y z => y.serial ≠ z.serial ∧ y.number ≠ z.number) ∧
      ([(0, .data [7#8] 1)] : List (Nat × Found)).any (fun p => feedDamaged p.2) = false ∧
      ([(0, .blank)] : List (Nat × Found)).any (fun p => feedDamaged p.2) = true ∧ t.phase = .priming ∧
      { t with marks := ⟨0, 1, 0⟩ }.marks.prime * 1024 ≤ unsent t ∧ unsent t < t.marks.prime * 1024 ∧
      (∃ y ∈ t.bands, y.fetched < (y.length + 1023) / 1024) ∧ t.lowArmed = true ∧ unsent t < t.marks.low * 1024 := by
  refine ⟨rfl, rfl, ?_, ?_, rfl, ?_, ?_, by decide, by decide, rfl, by decide, by decide, ?_, rfl, by decide⟩
  · intro y h e
    cases List.mem_singleton.mp h
    exact absurd e (by decide)
  · exact List.mem_singleton_self _
  · exact fun _ h => nomatch h
  · exact List.pairwise_singleton _ _
  · exact ⟨_, List.mem_singleton_self _, by decide⟩

theorem witness_MirrorOutcomes :
    (building .present []).mirror = .paired .A 17 0 (.building .present) ∧
      { step0 with endCause := some .abandoned }.endCause ≠ none ∧ step0.endCause = none ∧
      (∃ x ∈ { step0 with sectors := [newSector .failed] }.sectors, x.progress = .failed) ∧
      (∀ x ∈ step0.sectors, x.progress ≠ .failed) ∧ 17 + 17 < 277423 ∧ 277423 ≤ 277406 + 17 ∧ ready0.mirror = .unbound ∧
      ready0.mirror ≠ .paired .A 17 0 (.building .present) ∧
      (∃ r ∈ (building .present [{ rec0 .mirrorCopy 4 1 [] with partners := [3] }]).recs,
        r.kind = .mirrorCopy ∧ r.state = .waiting) ∧ (∃ r ∈ (building .present [step0]).recs, r.kind = .buildStep) := by decide

theorem witness_MirrorOutcomes_order : seqLaw (building .present [step0]) ∧ ∀ x : DegradeCause, MirrorPhase.bound ≠ .degraded x :=
  ⟨⟨by decide, by decide, trivial⟩, fun _ h => nomatch h⟩

theorem witness_FallbackOutcomes :
    let r := { rec0 .read 4 1 [sec .awaitingFallback 0] with state := RecState.ending }
    let n := { rec0 .read 4 1 [⟨.unread, 1, some 0, false, none⟩] with state := RecState.active }
    let s := building .none [n]
    (s.rec? 4 = some n ∧ n.sectors[0]? = some ⟨.unread, 1, some 0, false, none⟩ ∧ n.kind = .read ∧ 4 ≤ 1 + 3 ∧
        mirrorPrimary s = some n.bay ∧ n.first + 0 < buildCursor s ∧ s.recs.length < 16 ∧
        forcedOut (s.mechOf .B).mode = false ∧ mirrorPrimary readSector ≠ some .A ∧
        buildCursor s ≤ 17 ∧ 16 ≤ (building .none (n :: full0)).recs.length) ∧
      ((fallen .read).partners.head?.bind ready0.rec?) = none ∧
      ((fallen .read).partners = [4] ∧ (with0 [r]).rec? 4 = some r ∧ 0 = (fallen .read).first - r.first ∧
        r.sectors[0]? = some (sec .awaitingFallback 0) ∧ r.endCause = none ∧
        ({ r with endCause := some .cancelled }.endCause ≠ none ∧ { r with state := RecState.active }.state ≠ .ending)) ∧
      (fallen .read).endCause = none ∧ (∀ y ∈ (fallen .read).sectors, y.progress = .read) ∧
      (∃ y ∈ (fallen .failed).sectors, y.progress ≠ .read) ∧ ready0.settings.weak.get .A = true := by decide

theorem witness_StreamLawsKept_ring :
    ringLaw (streaming { stream0 .running (band0 1 .exposing) with appended := 2 }) := by
  refine ⟨fun t h => ?_, fun b p n h ho => ?_⟩
  · cases h
    refine ⟨by decide, fun g hg => ?_, by decide, by decide, by decide⟩
    cases List.mem_singleton.mp hg
    exact ⟨by decide, fun _ => rfl, _, List.mem_singleton_self _, rfl⟩
  · cases b <;> cases h

theorem witness_CartridgeLawsKept_spares :
    spareLaw ready0 ∧ triedLaw ready0 ∧ sparesKept { emptyMap with entries := [(3, 0)], cursor := 2 } = true ∧ 1 < 2 ∧
      (∀ e ∈ [(3, 0)], e.2 ≠ 1) := by
  refine ⟨fun b m h => ?_, fun b p q r m h => ?_, by decide, by decide, by decide⟩
  · cases b
    · cases h; rfl
    · cases h
  · cases b <;> cases h

theorem witness_CartridgeLawsKept_sound :
    (match classOf ((labelImage label0 :: zonesImage [] :: mapImages (mapBytes { emptyMap with entries := [(3, 0)], cursor := 1 } 0)).map
        fun d => Found.data d 1) with
     | .sound _ _ m => sparesKept m
     | _ => false) = true := by decide +kernel

theorem witness_WhatFollowsKeeps : ready0.counter.toNat + 4096 ≤ 2 ^ 48 := by decide

/-- The conditions of R22 hold after `conclude` on an idle READY bay, and each of them fails somewhere. -/
theorem witness_RestAndStop_timer :
    let t := conclude ready0
    ((t.mechOf .A).mode = .ready ∧ t.recs.length = 0 ∧ (t.schedOf .A).pass = none ∧ t.stream.isNone = true ∧
        ((t.mechOf .A).map.map DefectMap.dirty) = some false ∧ t.settings.spinDown.get .A = 120) ∧
      (t.mechOf .B).mode ≠ .ready ∧ ((conclude reading0).schedOf .A).pass = some (pass0 .read) ∧
      (conclude (streaming (stream0 .opened (band0 0 .fetched)))).stream.isSome = true := by decide +kernel

/-- A stop completes on an ejecting bay with nothing else due (R32). -/
theorem witness_RestAndStop_release :
    let u := bayIn (.ejecting .normal .ready) .stopped
    seqLaw u ∧ releaseHolds u .A = true ∧ (u.mechOf .B).mode = .empty ∧ (creationStep u).isNone = true ∧
      (leaveStep u).isNone = true ∧ ((bayIn (.ejecting .normal .ready) .stopping).mechOf .A).spindle = .stopping :=
  ⟨trivial, by decide, by decide, by decide, by decide, by decide⟩

/-- The stream bound to a READY and to a DAMAGED bay, and a mirror with no stream (R55). -/
theorem witness_LabelWriterTaken_bound :
    let s := streaming (stream0 (.halted .stop) (band0 0 .fetched))
    (s.link.resetLine = false ∧ (s.mechOf .A).mode = .ready ∧ s.recs = [] ∧ flushDeferred s .A = false ∧
        (s.stream.map Stream.bay) = some .A) ∧
      mirror0.mirror ≠ .unbound ∧ mirror0.stream = none ∧ (mirror0.mechOf .A).mode = .ready ∧
      ((s.mapMech .A fun k => { k with mode := .damaged }).mechOf .A).mode = .damaged := by decide

/-- A normal and a forced EJECT on one bay, of which either may be cancelled, and one of them alone (R34). -/
theorem witness_CancelTaken_eject :
    let e4 := rec0 (.eject false) 4 0 []
    let e5 := { rec0 (.eject true) 5 0 [] with link := some (1, 8) }
    let s := (with0 [e4, e5]).mapMech .A fun k => { k with mode := .ejecting .forced .ready }
    seqLaw s ∧ isEject e4 = true ∧ e4.endCause = none ∧ e4.state = .waiting ∧ e5.state = .waiting ∧
      (s.mechOf .A).mode = .ejecting .forced .ready ∧ e5.kind = .eject true ∧ e4.seq ≠ e5.seq ∧
      { e4 with state := .active }.state ≠ .waiting :=
  ⟨⟨by decide, by decide, by decide, by decide, trivial⟩, by decide, by decide, by decide, by decide, by decide, by decide,
    by decide, by decide⟩

/-- A WRITE with its copy, and a READ with a FALLBACK_READ (R63, R67). -/
theorem witness_CancelTaken_partner :
    let w := { rec0 .write 4 1 [sec .pending 0] with partners := [5] }
    let c := { newRec .mirrorCopy none .B 3 0 1 [sec .pending 0] [4] with seq := 5 }
    let f := { newRec .fallbackRead none .B 3 0 1 [newSector .unread] [4] with seq := 5 }
    seqLaw (with0 [w, c]) ∧ seqLaw (with0 [rec0 .read 4 1 [sec .awaitingFallback 0], f]) ∧ c.seq ∈ w.partners ∧
      (rec0 .read 4 1 [sec .awaitingFallback 0]).seq ∈ f.partners ∧ c.state ≠ .ending ∧ f.endCause = none :=
  ⟨⟨by decide, by decide, by decide, by decide, trivial⟩, ⟨by decide, by decide, by decide, by decide, trivial⟩, by decide,
    by decide, by decide, by decide⟩

/-- Frames with a body, of a channel above 3 and of kinds that no workstation sends (R178, checks 2 and 3). -/
theorem witness_FramesHandedOn_kinds :
    toBytes 2 2 ++ [0x01#8, 0x04#8, 9#8] ++ [7#8, 8#8] = [0x00#8, 0x02#8, 0x01#8, 0x04#8, 9#8, 7#8] ++ [8#8] ∧
      3 < (0x04#8 : Byte).toNat ∧ (0x03#8 : Byte).toNat ≤ 3 ∧
      (∀ k ∈ [0x00#8, 0x0C#8, 0x0F#8, 0x17#8, 0x1E#8, 0x20#8, 0x81#8, 0xFF#8],
        k ∉ ([0x01#8, 0x02#8, 0x03#8, 0x04#8, 0x05#8, 0x06#8, 0x07#8, 0x08#8, 0x09#8, 0x0A#8, 0x0B#8, 0x10#8, 0x11#8, 0x12#8,
          0x13#8, 0x14#8, 0x15#8, 0x16#8, 0x1F#8] : List Byte)) := by decide

/-- The active READ can be planned first, and no more at its turn, a waiting READ having taken the last slot by read-through
(R82, R84, R98, log entry 45). -/
theorem witness_DecisionTaken_spent :
    let u := considered .A spent0
    let v := (planRec 4 u).1
    let t := tryWaiting .A (candidates v .A (levelOf v (some 4))) false v
    (passInFlight spent0 .A = false ∧ canStart spent0 .A = true ∧ (u.schedOf .A).active = some 4 ∧
        (planRec 4 u).2 = .pass ⟨.read, 2, 0, [0], true, false⟩ ∧ (v.schedOf .A).mode = .nested) ∧
      candidates v .A (levelOf v (some 4)) = [5] ∧ t.started = false ∧ (planRec 4 t.state).2 = .stalled := by decide +kernel

/-- A stack top that stalls or has no pass left, over an empty rest and over another record (R82, R85). -/
theorem witness_DecisionTaken_top :
    let r4 := { rec0 .read 4 1 [newSector .unread] with state := RecState.suspended, started := true }
    let r5 := { rec0 .read 5 1 [newSector .unread] with state := RecState.suspended, started := true, level := 5 }
    let z4 := { rec0 .read 4 1 [newSector .read] with state := RecState.suspended, started := true }
    let put (qs : List Nat) (rs : List Rec) : State :=
      { with0 rs with slots := [], sched := ⟨{ Sched.reset with stack := qs }, Sched.reset⟩ }
    (tryWaiting .A (candidates (put [4] [r4]) .A (levelOf (put [4] [r4]) (some 4))) false (put [4] [r4])).started = false ∧
      (planRec 4 (put [4] [r4])).2 = .stalled ∧ ((stall .A 4 (put [4] [r4])).schedOf .A).stack = [] ∧
      (planRec 4 (put [4, 5] [r4, r5])).2 = .stalled ∧ ((stall .A 4 (put [4, 5] [r4, r5])).schedOf .A).stack = [5] ∧
      (planRec 4 (put [4] [z4])).2 = .finished ∧ ((finishRecord 4 (put [4] [z4])).schedOf .A).stack = [] := by decide +kernel

/-- A list of candidates of which the second starts, the first having been stalled, and one of which none starts. -/
theorem witness_DecisionTaken_list :
    let s := { with0 [rec0 .write 4 1 [sec .erased 0], { rec0 .write 5 1 [sec .pending 1] with first := 20 }] with
      slots := [.held [.record 4] none, .held [.record 5] none] }
    (tryWaiting .A [4, 5] false s).started = true ∧ (tryWaiting .A [4] false s).started = false ∧
      (planRec 4 s).2 = .stalled ∧ (tryWaiting .A [4] false s).refused = false := by decide +kernel

theorem witness_StackLawKept :
    stackLaw stacked0 ∧ stacked0.counter.toNat + 4096 ≤ 2 ^ 48 ∧ step stacked0 = .next stacked0 := by
  refine ⟨⟨⟨by decide, by decide, by decide, by decide, trivial⟩, by decide, fun b => ?_⟩, by decide, rfl⟩
  cases b
  · refine ⟨fun q h => ?_, fun q h => ?_, by decide, by decide, by decide⟩
    · cases h
      exact ⟨_, rfl, rfl, rfl, rfl, rfl⟩
    · cases List.mem_singleton.mp h
      exact ⟨_, rfl, rfl, rfl, rfl, rfl⟩
  · exact ⟨(fun q h => nomatch h), (fun q h => nomatch h), by decide, by decide, by decide⟩

theorem witness_WriteLawKept :
    writeLaw stacked0 ∧ (rec0 .write 4 1 [sec .pending 0]).started = false ∧
      clash (rec0 .write 4 1 [sec .pending 0]) (rec0 .write 5 1 [sec .pending 0]) = true :=
  ⟨⟨witness_StackLawKept.1, by unfold startsApart; decide, by decide, (fun _ _ _ _ h => nomatch h)⟩, by decide, by decide⟩

theorem witness_TableAndSlotLawsKept_holders :
    holderLaw writing0 ∧ writing0.counter.toNat + 4096 ≤ 2 ^ 48 ∧ holdings writing0 = 0 := by
  refine ⟨⟨⟨by decide, by decide, trivial⟩, fun x hx q hq => ?_⟩, by decide, by decide⟩
  cases List.mem_cons.mp hx with
  | inl h =>
    subst h
    cases List.mem_singleton.mp hq
    decide
  | inr h =>
    rw [List.eq_of_mem_replicate h] at hq
    cases hq

/-- The law holds with a relocation's VERIFY in flight, and no command comes. -/
theorem witness_RelocationLawKept :
    relocationLaw relocating0 ∧ relocating0.counter.toNat + 4096 ≤ 2 ^ 48 ∧ step relocating0 = .next relocating0 := by
  refine ⟨⟨⟨⟨by decide, by decide, trivial⟩, by decide, fun b => ?_⟩, fun b m h => ?_, fun b => ?_, fun b => ?_, ⟨?_, ?_⟩,
    fun b p q h ho => ?_, ?_⟩, by decide, rfl⟩
  · cases b
    · refine ⟨fun q h => ?_, (fun q h => nomatch h), by decide, by decide, by decide⟩
      cases h
      exact ⟨_, rfl, rfl, rfl, rfl, rfl⟩
    · exact ⟨(fun q h => nomatch h), (fun q h => nomatch h), by decide, by decide, by decide⟩
  · cases b
    · cases h; rfl
    · cases h
  · cases b <;> exact ⟨by decide, by decide, by decide, by decide⟩
  · intro r hr hb
    cases List.mem_singleton.mp hr
    cases hb
    exact ⟨fun _ => ⟨by decide, by decide, fun _ => ⟨by decide, (fun h => nomatch h)⟩⟩, (fun h => nomatch h)⟩
  · exact fun h => absurd rfl h
  · decide
  · cases b
    · cases h; cases ho
      refine ⟨by decide, fun r hr => ?_⟩
      cases hr
      refine ⟨rfl, fun _ => ⟨0, rfl, fun t ht => ?_⟩⟩
      cases ht
      decide
    · cases h
  · intro r hr t ht x hx
    cases List.mem_singleton.mp hr
    cases List.mem_singleton.mp ht
    cases hx
    refine ⟨rfl, fun _ => ⟨_, rfl, by decide, by decide, ?_⟩⟩
    decide

/-- Passes of the feed and of discarded work in flight; a record with an end cause, one with no pass left, and one with one. -/
theorem witness_PassCompletes_owners :
    ((flying { pass0 .read with owner := .feed 1 } ready0).schedOf .A).pass = some { pass0 .read with owner := .feed 1 } ∧
      ((flying { pass0 .read with owner := .discarded } ready0).schedOf .A).pass = some { pass0 .read with owner := .discarded } ∧
      (kept0.rec? 4).map Rec.endCause = some (some .cancelled) ∧ noPassLeft (rec0 .read 4 1 [sec .read 0]) = true ∧
      noPassLeft (rec0 .read 4 1 [sec .unread 0]) = false ∧ isReading (rec0 .write 4 1 [sec .verified 0]) = false ∧
      freeCount { ready0 with slots := [.held [.passes true false] none] } <
        freeCount (releasePass .A { ready0 with slots := [.held [.passes true false] none] }) := by decide

/-- A sector of a WRITE, of a label-track writer and of a build step, found other, BLANK, failed a fourth time and a third; passes of
each action. -/
theorem witness_SectorOutcomes_verify :
    (with0 [tried 0 none]).rec? 4 = some (tried 0 none) ∧ isLabelWriter (tried 0 none) = false ∧ isLabelWriter flush0 = true ∧
      step0.kind = .buildStep ∧ (tried 0 none).kind ≠ .buildStep ∧ ([8#8] : Data) ≠ [7#8] ∧
      (readSector.rec? 4).bind (fun r => r.sectors[0]?.map Sector.attempts) = some 1 ∧ 4 ≤ 1 + 3 ∧ 1 + 2 < 4 ∧
      (pass0 .verify).action = .verify ∧ { pass0 .verify with relocation := true }.relocation = true ∧
      (pass0 .read).owner = .record 4 ∧
      (tried 1 (some 0)).relocations.find? (fun t => decide (t.index = 0)) = some ⟨0, 1, some 0, .written, 1⟩ := by decide

/-- A creation due, a record ready to leave, an ejection going on, one bay or both to decide, and nothing due. -/
theorem witness_WhatFollowsKeeps_order :
    let due := mapped (fun m => { m with dirty := true }) ready0
    let gone := with0 [{ rec0 (.eject false) 4 0 [] with state := .ending }]
    let out := bayIn (.ejecting .normal .ready) .turning
    let both := triggerBoth both0
    ((creationStep due).isSome = true ∧ (leaveStep gone).isSome = true ∧ (creationStep gone).isNone = true) ∧
      ((ejectStep .A out).isSome = true ∧ (creationStep out).isNone = true ∧ (leaveStep out).isNone = true) ∧
      (mustDecide (trigger .A ready0) .A = true ∧ mustDecide (trigger .A ready0) .B = false ∧ mustDecide both .A = true ∧
        mustDecide both .B = true ∧ (mayStart both .A && mayStart both .B) = true ∧
        (mayStart (triggerBoth ready0) .A && mayStart (triggerBoth ready0) .B) = false) ∧
      mustDecide ready0 .A = false ∧ (reading0.schedOf .A).pass ≠ none ∧ canStart ready0 .B = false ∧
      (ejectStep .A both).isNone = true ∧ (ejectStep .B both).isNone = true ∧ (creationStep both).isNone = true ∧
      (leaveStep both).isNone = true := by decide

/-- A READ's first pass with free slots for it, and records that claim none at theirs. -/
theorem witness_AdmissionLaw_start :
    let p : Plan := ⟨.read, 1, 0, [0, 1], true, false⟩
    let s := with0 [rec0 .read 4 2 [newSector .unread, newSector .unread]]
    s.rec? 4 = some (rec0 .read 4 2 [newSector .unread, newSector .unread]) ∧ p.claims = true ∧ (p.items.take 2).Nodup ∧
      (p.items.take 2).length ≤ freeCount s ∧ (∀ i ∈ p.items.take 2, i < 2) ∧ (freeIds s)[1]? = some 1 ∧
      Action.erase ≠ .write ∧ (rec0 .write 4 1 [sec .pending 0]).kind ≠ .read ∧
      isLabelWriter (rec0 .write 4 1 [sec .pending 0]) = false ∧ 19 ∉ (freeIds s).take 2 := by decide

/-- A READ with an end cause that is its bay's active record, one sector queued and one not; a WRITE; and a stacked READ. -/
theorem witness_CancelTaken_gives :
    (seqLaw kept0 ∧ seqLaw writing0 ∧ seqLaw stacked0) ∧ (kept0.rec? 4).map Rec.state = some .active ∧
      (kept0.schedOf .A).active = some 4 ∧ (writing0.rec? 4).map Rec.kind = some .write ∧
      ((stacked0.schedOf .A).active ≠ some 5 ∧ 5 ∈ (stacked0.schedOf .A).stack) ∧
      (kept0.rec? 4).bind (fun r => r.sectors[1]?.bind Sector.slot) = some 1 ∧ kept0.slots[0]? = some (.held [.record 4] (some [7#8])) ∧
      freeCount writing0 < freeCount (enterEnding 4 writing0) ∧ (∃ x ∈ [Holder.record 4, .record 5], x ≠ .record 4) :=
  ⟨⟨⟨by decide, by decide, trivial⟩, ⟨by decide, by decide, trivial⟩, ⟨by decide, by decide, by decide, by decide, trivial⟩⟩,
    by decide, by decide, by decide, by decide, by decide, by decide, by decide, by decide⟩

/-- A stream of the bay not yet HALTED, one HALTED, one of the other bay, and a mirror to unbind (R147, R168). -/
theorem witness_EjectTaken_halt :
    let t := stream0 .running (band0 1 .exposing)
    ((streaming t).stream = some t ∧ t.bay = .A ∧ t.phase = .running ∧ t.bay ≠ .B) ∧
      (∀ c : HaltCause, StreamPhase.running ≠ .halted c) ∧ (∃ c : HaltCause, StreamPhase.halted .stop = .halted c) ∧
      ready0.stream = none ∧ mirror0.mirror = .paired .A 277423 0 .bound :=
  ⟨by decide, (fun _ h => nomatch h), ⟨_, rfl⟩, rfl, rfl⟩

end Sys2Proof.Machine
end

section
/-! What an operation keeps, walked through the model once. A property of states that a few basic changes keep is kept
by every operation made of them; each invariant then names only what it says of the basic changes. `Quiet` serves what
happens within one event, `Settles` what follows at once, `Labels` and `Completes` the completion of a pass. -/

namespace Sys2Proof.Machine

/-! ### Records that stay the same request -/

/-- What no operation changes of a record in the table (R50): its number, kind, source and extent. -/
structure SameAsk (r r' : Rec) : Prop where
  seq : r'.seq = r.seq
  kind : r'.kind = r.kind
  link : r'.link = r.link
  bay : r'.bay = r.bay
  level : r'.level = r.level
  first : r'.first = r.first
  count : r'.count = r.count

theorem SameAsk.refl (r : Rec) : SameAsk r r := ⟨rfl, rfl, rfl, rfl, rfl, rfl, rfl⟩

theorem SameAsk.ite {r r' : Rec} (c : Prop) [Decidable c] (h : SameAsk r r') : SameAsk r (if c then r' else r) := by
  split
  · exact h
  · exact .refl r

theorem SameAsk.isPrepare {r r' : Rec} (h : SameAsk r r') : Machine.isPrepare r' = Machine.isPrepare r := by
  simp only [Machine.isPrepare, h.kind]

/-- A kind whose records the block makes of its own (R49). -/
def Kind.internal : Kind → Bool
  | .mirrorCopy => true
  | .buildStep => true
  | .fallbackRead => true
  | .relocate _ => true
  | .mapFlush => true
  | _ => false

theorem isPrepare_internal {r : Rec} (h : r.kind.internal = true) : isPrepare r = false := by
  unfold isPrepare
  split
  · rename_i e
    rw [e] at h
    exact nomatch h
  · rfl

/-- A PREPARE found in the table is on its bay (R26). -/
theorem prepareOn_of_rec {s : State} {q : Nat} {r : Rec} (h : s.rec? q = some r) (hp : isPrepare r = true) :
    prepareOn s r.bay = true :=
  List.any_eq_true.2 ⟨r, List.mem_of_find?_eq_some h, by simp [hp]⟩

/-- A change of records that leaves the requests alone leaves the PREPARE records on their bays. -/
theorem prepareOn_map (s : State) (b : Bay) {f : Rec → Rec} (hf : ∀ r, SameAsk r (f r)) :
    prepareOn (s.withRecs (s.recs.map f)) b = prepareOn s b := by
  simp only [prepareOn, State.withRecs_recs, List.any_map]
  congr 1
  funext r
  simp [(hf r).isPrepare, (hf r).bay]

/-! ### Defect Maps that follow one another -/

/-- What an operation other than a move's recording makes of a bay's Defect Map (R111, R113): the entries stay, and the
cursor stays or moves up within the spares. -/
def MapFollows (m m' : Option DefectMap) : Prop :=
  ∀ d', m' = some d' → ∃ d, m = some d ∧ d'.entries = d.entries ∧ d.cursor ≤ d'.cursor ∧
    (d'.cursor = d.cursor ∨ d'.cursor ≤ Config.spares)

theorem MapFollows.refl (m : Option DefectMap) : MapFollows m m := fun d h => ⟨d, h, rfl, Nat.le_refl _, .inl rfl⟩

theorem MapFollows.of_map {m : Option DefectMap} {f : DefectMap → DefectMap}
    (hf : ∀ d, m = some d → (f d).entries = d.entries ∧ d.cursor ≤ (f d).cursor ∧
      ((f d).cursor = d.cursor ∨ (f d).cursor ≤ Config.spares)) : MapFollows m (m.map f) := by
  intro d' hd'
  obtain ⟨d, hd, rfl⟩ := Option.map_eq_some_iff.1 hd'
  exact ⟨d, hd, hf d hd⟩

/-! ### The basic changes -/

/-- A property that the changes within one event keep. -/
structure Quiet (P : State → Prop) : Prop where
  sched : ∀ (b : Bay) (f : Sched → Sched) (s : State), (∀ c, (f c).pass = c.pass ∧ (f c).head = c.head) → P s →
    P (s.mapSched b f)
  slots : ∀ (x : List Slot) (s : State), x.length = s.slots.length → P s → P (s.withSlots x)
  recs : ∀ (f : Rec → Rec) (s : State), (∀ r, SameAsk r (f r)) → P s → P (s.withRecs (s.recs.map f))
  create : ∀ (r : Rec) (s : State), r.kind.internal = true → P s →
    P ((s.withRecs (s.recs ++ [{ r with seq := s.nextSeq }])).withCounter (s.counter + 1))
  stream : ∀ (x : Option Stream) (s : State), P s → P (s.withStream x)
  tally : ∀ (f : Tally → Tally) (s : State), P s → P (s.mapTally f)
  port : ∀ (f : Port → Port) (s : State), P s → P (s.mapPort f)
  mirror : ∀ (m : Mirror) (s : State), P s → P (s.withMirror m)
  reply : ∀ (ch tag : Nat) (body : ReplyBody) (owner : Option Nat) (s : State), P s → P (reply ch tag body owner s)
  raise : ∀ (b : Bay) (body : ReportBody) (s : State), P s → P (raise b body s)
  wake : ∀ (b : Bay) (s : State), P s → P (wake b s)
  map : ∀ (b : Bay) (f : DefectMap → DefectMap) (s : State),
    (∀ d, (s.mechOf b).map = some d → (f d).entries = d.entries ∧ d.cursor ≤ (f d).cursor ∧
      ((f d).cursor = d.cursor ∨ (f d).cursor ≤ Config.spares)) → P s → P (s.mapMap b f)
  damages : ∀ (b : Bay) (s : State), prepareOn s b = true → P s → P (prepareDamages b s)

variable {P : State → Prop}

theorem Quiet.and {Q : State → Prop} (k : Quiet P) (l : Quiet Q) : Quiet fun s => P s ∧ Q s where
  sched b f s hf h := ⟨k.sched b f s hf h.1, l.sched b f s hf h.2⟩
  slots x s hx h := ⟨k.slots x s hx h.1, l.slots x s hx h.2⟩
  recs f s hf h := ⟨k.recs f s hf h.1, l.recs f s hf h.2⟩
  create r s hr h := ⟨k.create r s hr h.1, l.create r s hr h.2⟩
  stream x s h := ⟨k.stream x s h.1, l.stream x s h.2⟩
  tally f s h := ⟨k.tally f s h.1, l.tally f s h.2⟩
  port f s h := ⟨k.port f s h.1, l.port f s h.2⟩
  mirror m s h := ⟨k.mirror m s h.1, l.mirror m s h.2⟩
  reply ch tag body owner s h := ⟨k.reply ch tag body owner s h.1, l.reply ch tag body owner s h.2⟩
  raise b body s h := ⟨k.raise b body s h.1, l.raise b body s h.2⟩
  wake b s h := ⟨k.wake b s h.1, l.wake b s h.2⟩
  map b f s hf h := ⟨k.map b f s hf h.1, l.map b f s hf h.2⟩
  damages b s hb h := ⟨k.damages b s hb h.1, l.damages b s hb h.2⟩

/-! ### Triggers, records and slots -/

section
variable (k : Quiet P) {s : State}
include k

theorem Quiet.trigger_keeps (b : Bay) (h : P s) : P (trigger b s) := k.sched b _ s (fun _ => ⟨rfl, rfl⟩) h

theorem Quiet.triggerBoth_keeps (h : P s) : P (triggerBoth s) := k.trigger_keeps .B (k.trigger_keeps .A h)

theorem Quiet.mapRec_keeps (q : Nat) {f : Rec → Rec} (hf : ∀ r, SameAsk r (f r)) (h : P s) : P (s.mapRec q f) :=
  k.recs _ s (fun r => (hf r).ite _) h

theorem Quiet.mapSector_keeps (q i : Nat) (f : Sector → Sector) (h : P s) : P (s.mapRec q (Rec.mapSector · i f)) :=
  k.mapRec_keeps q (fun _ => ⟨rfl, rfl, rfl, rfl, rfl, rfl, rfl⟩) h

theorem Quiet.flag_keeps (q : Nat) (f : Flags → Flags) (h : P s) : P (s.mapRec q (Rec.flag · f)) :=
  k.mapRec_keeps q (fun _ => ⟨rfl, rfl, rfl, rfl, rfl, rfl, rfl⟩) h

theorem Quiet.flagRecord_keeps (q : Nat) (f : Flags → Flags) (h : P s) : P (flagRecord q f s) := by
  unfold flagRecord
  split
  · exact h
  · split
    · exact foldl_keeps (fun t p ht => k.flag_keeps p f ht) _ _ (k.flag_keeps q f h)
    · exact k.flag_keeps q f h

theorem Quiet.degradeWriteOf_keeps (r : Rec) (h : P s) : P (degradeWriteOf r s) := by
  unfold degradeWriteOf
  split
  · exact foldl_keeps (fun t p ht => k.flag_keeps p _ ht) _ _ h
  · exact h

theorem Quiet.signalRelease_keeps (before : State) (h : P s) : P (signalRelease before s) := by
  unfold signalRelease
  split
  · exact k.triggerBoth_keeps h
  · exact h

theorem Quiet.dropAll_keeps (x : Holder) (h : P s) : P (dropAll x s) :=
  k.signalRelease_keeps s (k.slots _ s (List.length_map _) h)

theorem Quiet.dropOne_keeps (x : Holder) (i : Nat) (h : P s) : P (dropOne x i s) :=
  k.signalRelease_keeps s (k.slots _ s (List.length_modify _ _ _) h)

theorem Quiet.fillSlot_keeps (i : Nat) (d : Option Data) (h : P s) : P (fillSlot i d s) :=
  k.slots _ s (List.length_modify _ _ _) h

theorem Quiet.claim_keeps (x : Holder) (n : Nat) (h : P s) : P (claim x n s).1 :=
  k.slots _ s (foldl_set_length _ _ _) h

theorem Quiet.releasePass_keeps (b : Bay) (h : P s) : P (releasePass b s) :=
  k.signalRelease_keeps s (k.slots _ s (List.length_map _) h)

theorem Quiet.signalHoldEnds_keeps (before : State) (h : P s) : P (signalHoldEnds before s) := by
  refine foldl_keeps (fun t r ht => ?_) _ _ h
  split
  · exact k.trigger_keeps _ ht
  · exact ht

theorem Quiet.mapMech_map_keeps (b : Bay) {f : DefectMap → DefectMap}
    (hf : ∀ d, (f d).entries = d.entries ∧ (f d).cursor = d.cursor) (h : P s) : P (s.mapMap b f) :=
  k.map b f s (fun d _ => ⟨(hf d).1, Nat.le_of_eq (hf d).2.symm, .inl (hf d).2⟩) h

/-- Creation of a record of the block's own (R52, R57). -/
theorem Quiet.createRec_keeps {r : Rec} (hr : r.kind.internal = true) (h : P s) : P (createRec r s) := by
  have h1 := k.create r s hr h
  unfold createRec
  split
  · exact h1
  · refine k.trigger_keeps _ ?_
    split
    · exact k.wake _ _ (k.wake _ _ h1)
    · exact k.wake _ _ h1

end

/-! ### The stream as its bay's loss acts on it -/

section
variable (k : Quiet P) {s : State}
include k

theorem Quiet.setPhase_keeps (ph : StreamPhase) (h : P s) : P (setPhase ph s) := by
  unfold setPhase
  split
  · exact h
  · exact k.trigger_keeps _ (k.port _ _ (k.stream _ _ h))

theorem Quiet.haltByEject_keeps (b : Bay) (h : P s) : P (haltByEject b s) := by
  unfold haltByEject
  split
  · exact h
  · split
    · exact k.raise _ _ _ (k.setPhase_keeps _ h)
    · exact h

theorem Quiet.mapStream_keeps (f : Stream → Stream) (h : P s) : P (s.mapStream f) := k.stream _ _ h

end

/-! ### Ending -/

section
variable (k : Quiet P) {s : State}
include k

theorem Quiet.checkMode_keeps (b : Bay) (h : P s) : P (checkMode b s) := by
  unfold checkMode
  dsimp only
  split
  · exact k.trigger_keeps b (k.sched b _ _ (fun _ => ⟨rfl, rfl⟩) h)
  · exact h

theorem Quiet.leaveScheduler_keeps (r : Rec) (h : P s) : P (leaveScheduler r s) := by
  unfold leaveScheduler
  dsimp only
  split
  · exact k.trigger_keeps _ (k.sched _ _ _ (fun _ => ⟨rfl, rfl⟩) h)
  · split
    · exact k.checkMode_keeps _ (k.trigger_keeps _ (k.sched _ _ _ (fun _ => ⟨rfl, rfl⟩) h))
    · exact h

theorem Quiet.dropUnqueued_keeps (r : Rec) (i : Nat) (h : P s) : P (dropUnqueued r s i) := by
  unfold dropUnqueued
  split
  · exact k.dropOne_keeps _ _ (k.mapSector_keeps _ _ _ h)
  · exact h

theorem Quiet.giveUp_keeps (r : Rec) (h : P s) : P (giveUp r s) := by
  unfold giveUp
  split
  · split
    · exact foldl_keeps (fun t i ht => k.dropUnqueued_keeps r i ht) _ _ h
    · exact h
  · exact k.dropAll_keeps _ h

theorem Quiet.flushLeaves_keeps (r : Rec) (h : P s) : P (flushLeaves r s) := by
  refine k.mapMech_map_keeps _ (fun d => ?_) h
  split
  · exact ⟨rfl, rfl⟩
  · split <;> exact ⟨rfl, rfl⟩

end

/-- Leaving a scheduler's place does not touch the records. -/
theorem checkMode_recs (b : Bay) (s : State) : (checkMode b s).recs = s.recs := by
  unfold checkMode
  dsimp only
  split <;> rfl

theorem leaveScheduler_recs (r : Rec) (s : State) : (leaveScheduler r s).recs = s.recs := by
  unfold leaveScheduler
  dsimp only
  split
  · rfl
  · split
    · exact checkMode_recs _ _
    · rfl

theorem signalRelease_recs (before s : State) : (signalRelease before s).recs = s.recs := by
  unfold signalRelease
  split <;> rfl

theorem dropAll_recs (x : Holder) (s : State) : (dropAll x s).recs = s.recs := signalRelease_recs _ _

theorem giveUp_of_not_read {r : Rec} (h : isRead r = false) (s : State) : giveUp r s = dropAll (.record r.seq) s := by
  simp [giveUp, h]

theorem not_read_of_prepare {r : Rec} (h : isPrepare r = true) : isRead r = false := by
  unfold isPrepare at h
  split at h
  · rename_i e
    simp [isRead, e]
  · exact nomatch h

section
variable (k : Quiet P) {s : State}
include k

/-- What the entry to ENDING means by kind is kept, where a PREPARE's end finds it on its bay. -/
theorem Quiet.endEffect_keeps {r : Rec} (hr : isPrepare r = true → prepareOn s r.bay = true) (h : P s) :
    P (endEffect r s) := by
  unfold endEffect
  split
  · rename_i hc
    simp only [Bool.and_eq_true] at hc
    exact k.damages _ _ (hr hc.1.1) h
  · split
    · exact k.flushLeaves_keeps r h
    · exact h

theorem Quiet.enterEndingAlone_keeps (q : Nat) (h : P s) : P (enterEndingAlone q s) := by
  unfold enterEndingAlone
  split
  · exact h
  · rename_i r hr
    split
    · exact h
    · have hf : ∀ x : Rec, SameAsk x { x with state := .ending, stalled := false } :=
        fun _ => ⟨rfl, rfl, rfl, rfl, rfl, rfl, rfl⟩
      refine k.signalHoldEnds_keeps s (k.endEffect_keeps (fun hp => ?_)
        (k.giveUp_keeps r (k.leaveScheduler_keeps r (k.mapRec_keeps q hf h))))
      have hrecs : (giveUp r (leaveScheduler r (s.mapRec q fun x => { x with state := .ending, stalled := false }))).recs =
          (s.mapRec q fun x => { x with state := .ending, stalled := false }).recs := by
        rw [giveUp_of_not_read (not_read_of_prepare hp), dropAll_recs, leaveScheduler_recs]
      unfold prepareOn
      rw [hrecs]
      exact (prepareOn_map s r.bay fun x => (hf x).ite _).trans (prepareOn_of_rec hr hp)

theorem Quiet.endByAlone_keeps (c : EndCause) (q : Nat) (h : P s) : P (endByAlone c q s) := by
  unfold endByAlone
  split
  · exact h
  · rename_i r hr
    split
    · exact h
    · have h1 : P (s.mapRec q fun x => { x with endCause := some c }) :=
        k.mapRec_keeps q (fun _ => ⟨rfl, rfl, rfl, rfl, rfl, rfl, rfl⟩) h
      have h2 : P (if c = .abandoned then degradeWriteOf r (s.mapRec q fun x => { x with endCause := some c })
          else s.mapRec q fun x => { x with endCause := some c }) := by
        split
        · exact k.degradeWriteOf_keeps r h1
        · exact h1
      dsimp only
      split
      · exact h2
      · exact k.enterEndingAlone_keeps q h2

theorem Quiet.endAll_keeps (c : EndCause) (l : List Nat) (h : P s) : P (l.foldl (fun t q => endByAlone c q t) s) :=
  foldl_keeps (fun _ q ht => k.endByAlone_keeps c q ht) _ _ h

theorem Quiet.cancelFallbacks_keeps (q : Nat) (h : P s) : P (cancelFallbacks q s) := k.endAll_keeps _ _ h

theorem Quiet.enterEnding_keeps (q : Nat) (h : P s) : P (enterEnding q s) := by
  unfold enterEnding
  split
  · exact h
  · split
    · exact k.cancelFallbacks_keeps q (k.enterEndingAlone_keeps q h)
    · exact k.enterEndingAlone_keeps q h

theorem Quiet.endBy_keeps (c : EndCause) (q : Nat) (h : P s) : P (endBy c q s) := by
  unfold endBy
  split
  · exact h
  · split
    · exact k.cancelFallbacks_keeps q (k.endByAlone_keeps c q h)
    · exact k.endByAlone_keeps c q h

theorem Quiet.cancelWaitingCopies_keeps (h : P s) : P (cancelWaitingCopies s) :=
  foldl_keeps (fun _ r ht => k.endByAlone_keeps _ _ (k.degradeWriteOf_keeps r ht)) _ _ h

theorem Quiet.cancelSteps_keeps (h : P s) : P (cancelSteps s) := k.endAll_keeps _ _ h

theorem Quiet.unbindMirror_keeps (report : Bool) (h : P s) : P (unbindMirror report s) := by
  unfold unbindMirror
  split
  · exact h
  · have h1 := k.cancelSteps_keeps (k.cancelWaitingCopies_keeps (k.mirror .unbound s h))
    dsimp only
    split
    · exact k.raise _ _ _ h1
    · exact h1

theorem Quiet.degrade_keeps (c : DegradeCause) (h : P s) : P (degrade c s) := by
  unfold degrade
  split
  · exact h
  · exact h
  · exact k.raise _ _ _ (k.cancelSteps_keeps (k.cancelWaitingCopies_keeps (k.mirror _ s h)))

theorem Quiet.abandonAll_keeps (b : Bay) (p : Rec → Bool) (h : P s) : P (abandonAll b p s) :=
  foldl_keeps (fun _ q ht => k.endBy_keeps _ q ht) _ _ h

theorem Quiet.createInternal_keeps {r : Rec} (hr : r.kind.internal = true) (h : P s) : P (createInternal r s) := by
  unfold createInternal
  dsimp only
  split
  · exact k.endBy_keeps _ _ (k.createRec_keeps hr h)
  · exact k.createRec_keeps hr h

end

/-! ### Relocations and flushes -/

section
variable (k : Quiet P) {s : State}
include k

theorem Quiet.spareLowTest_keeps (b : Bay) (h : P s) : P (spareLowTest b s) := by
  unfold spareLowTest
  split
  · exact h
  · split
    · exact k.raise _ _ _ h
    · exact h

theorem Quiet.noSpare_keeps (q i : Nat) (h : P s) : P (noSpare q i s) := by
  unfold noSpare
  split
  · exact h
  · have h1 := k.mapRec_keeps q (f := fun x =>
      { ((x.dropTry i).mapSector i fun y => { y with progress := .failed, attempts := 0, cause := some .noSpare }) with
        failures := x.failures ++ [(i, .noSpare)] }) (fun _ => ⟨rfl, rfl, rfl, rfl, rfl, rfl, rfl⟩) h
    dsimp only
    split
    · exact k.degrade_keeps _ (k.flagRecord_keeps q _ h1)
    · exact h1

/-- A request that is not refused finds the cursor below the spares (R113). -/
theorem Quiet.assignSpare_keeps (q i : Nat) (h : P s) : P (assignSpare q i s) := by
  unfold assignSpare
  split
  · exact h
  · rename_i r _
    split
    · exact h
    · split
      · exact h
      · split
        · exact k.noSpare_keeps q i h
        · rename_i m hm
          split
          · exact k.noSpare_keeps q i h
          · rename_i hw
            have hc : m.cursor < Config.spares := by
              simp only [wouldRefuse, Bool.or_eq_true, decide_eq_true_eq] at hw
              omega
            refine k.spareLowTest_keeps _ (k.mapRec_keeps q (fun _ => ⟨rfl, rfl, rfl, rfl, rfl, rfl, rfl⟩)
              (k.map _ _ s (fun d hd => ⟨rfl, Nat.le_succ _, .inr ?_⟩) h))
            rw [hm] at hd
            cases hd
            exact hc

theorem Quiet.startRelocation_keeps (q i : Nat) (h : P s) : P (startRelocation q i s) :=
  k.assignSpare_keeps q i (k.mapRec_keeps q (fun _ => ⟨rfl, rfl, rfl, rfl, rfl, rfl, rfl⟩) h)

theorem Quiet.requestRelocate_keeps (v : Variety) (b : Bay) (n : Nat) (bytes : Data) (source : Nat) (h : P s) :
    P (requestRelocate v b n bytes source s) := by
  unfold requestRelocate
  exact iteInduction (fun _ => h) fun _ =>
    k.assignSpare_keeps _ _ (k.createInternal_keeps rfl (k.fillSlot_keeps _ _ (k.claim_keeps _ _ h)))

theorem Quiet.createFlush_keeps (b : Bay) (h : P s) : P (createFlush b s) :=
  k.createInternal_keeps rfl (k.mapMech_map_keeps b (fun _ => ⟨rfl, rfl⟩) h)

theorem Quiet.askFlush_keeps (b : Bay) (h : P s) : P (askFlush b s) := by
  unfold askFlush
  split
  · exact k.mapMech_map_keeps b (fun _ => ⟨rfl, rfl⟩) h
  · exact k.createFlush_keeps b h

theorem Quiet.createStep_keeps (h : P s) : P (createStep s) := by
  unfold createStep
  split
  · exact k.createInternal_keeps rfl (k.mirror _ s h)
  · exact h

theorem Quiet.creations_keep (h : P s) : P (deferredCreations s) :=
  deferredCreations_keeps s (fun b _ ht => k.createFlush_keeps b ht) (fun _ ht => k.createStep_keeps ht) h

end

/-! ### Delivery -/

section
variable (k : Quiet P) {s : State}
include k

theorem Quiet.queueOne_keeps (r : Rec) (i : Nat) (x : Sector) (h : P s) : P (queueOne r i x s) := by
  unfold queueOne
  dsimp only
  split <;> exact k.mapRec_keeps _ (fun _ => ⟨rfl, rfl, rfl, rfl, rfl, rfl, rfl⟩) (k.reply _ _ _ _ _ h)

theorem Quiet.queueFrom_keeps (r : Rec) (xs : List Sector) (i : Nat) (h : P s) : P (queueFrom r i xs s) := by
  induction xs generalizing i s with
  | nil => exact h
  | cons x xs ih =>
    unfold queueFrom
    split
    · exact ih _ (k.queueOne_keeps r i x h)
    · exact h

theorem Quiet.queueFrames_keeps (q : Nat) (h : P s) : P (queueFrames q s) := by
  unfold queueFrames
  split
  · exact h
  · split
    · exact k.queueFrom_keeps _ _ _ h
    · exact h

theorem Quiet.fallbackOutcome_keeps (f : Rec) (h : P s) : P (fallbackOutcome f s) := by
  unfold fallbackOutcome
  split
  · exact h
  · dsimp only
    split
    · exact h
    · split
      · exact h
      · split
        · refine k.queueFrames_keeps _ ?_
          split
          · exact k.requestRelocate_keeps _ _ _ _ _ (k.mapRec_keeps _ (fun _ => ⟨rfl, rfl, rfl, rfl, rfl, rfl, rfl⟩) h)
          · exact k.mapRec_keeps _ (fun _ => ⟨rfl, rfl, rfl, rfl, rfl, rfl, rfl⟩) h
        · exact k.queueFrames_keeps _ (k.mapSector_keeps _ _ _ h)

theorem Quiet.stepOutcome_keeps (r : Rec) (h : P s) : P (stepOutcome r s) := by
  unfold stepOutcome
  split
  · split
    · exact h
    · split
      · exact k.degrade_keeps _ h
      · split
        · exact k.mirror _ s h
        · exact k.raise _ _ _ (k.mirror _ s h)
  · exact h

end

/-! ### The feed -/

section
variable (k : Quiet P) {s : State}
include k

theorem Quiet.primingTest_keeps (h : P s) : P (primingTest s) := by
  unfold primingTest
  split
  · exact h
  · split
    · exact k.setPhase_keeps _ h
    · exact h

theorem Quiet.armingTest_keeps (h : P s) : P (armingTest s) := k.mapStream_keeps _ h

theorem Quiet.enterFeed_keeps (x : Band) (b : Bay) (l : List (Nat × Found)) (h : P s) : P (enterFeed x b l s) := by
  induction l generalizing s with
  | nil => exact h
  | cons y l ih =>
    obtain ⟨j, found⟩ := y
    refine ih ?_
    split
    · exact k.raise _ _ _ (k.tally _ _ (k.mapStream_keeps _ h))
    · exact k.mapStream_keeps _ h

theorem Quiet.completeFeed_keeps (n : Nat) (found : List (Nat × Found)) (h : P s) : P (completeFeed n found s) := by
  unfold completeFeed
  split
  · exact h
  · dsimp only
    split
    · exact k.stream _ _ h
    · exact k.armingTest_keeps (k.primingTest_keeps (k.enterFeed_keeps _ _ _ (k.stream _ _ h)))

theorem Quiet.feedThrough_keeps (n : Nat) (h : P s) : P (feedThrough n s) := by
  induction n generalizing s with
  | zero => exact h
  | succ n ih =>
    unfold feedThrough
    split
    · split
      · exact h
      · split
        · exact h
        · split
          · exact ih (k.armingTest_keeps (k.primingTest_keeps (k.mapStream_keeps _ h)))
          · exact h
    · exact h

end

/-! ### Planning and stalls -/

section
variable (k : Quiet P) {s : State}
include k

theorem Quiet.takeThrough_keeps (q i : Nat) (slot : Option Nat) (d : Data) (h : P s) : P (takeThrough q i slot d s) := by
  unfold takeThrough
  refine k.queueFrames_keeps q (k.mapSector_keeps _ _ _ ?_)
  split
  · exact k.fillSlot_keeps _ _ h
  · exact h

theorem Quiet.claimThrough_keeps (q i : Nat) (d : Data) (h : P s) : P (claimThrough q i d s) :=
  k.takeThrough_keeps _ _ _ _ (k.mapSector_keeps _ _ _ (k.claim_keeps _ _ h))

theorem Quiet.planRead_keeps (q n : Nat) (h : P s) : P (planRead q n s).1 := by
  induction n generalizing s with
  | zero => exact h
  | succ n ih =>
    unfold planRead
    split
    · exact h
    · split
      · exact h
      · split
        · exact h
        · split
          · split
            · exact ih (k.takeThrough_keeps _ _ _ _ h)
            · split
              · exact h
              · exact ih (k.claimThrough_keeps _ _ _ h)
          · split
            · exact h
            · exact ih (k.takeThrough_keeps _ _ _ _ h)

theorem Quiet.planRec_keeps (q : Nat) (h : P s) : P (planRec q s).1 := by
  unfold planRec
  split
  · exact h
  · split
    · exact k.planRead_keeps q _ h
    · exact h

theorem Quiet.markStalled_keeps (q : Nat) (h : P s) : P (markStalled q s) :=
  k.mapRec_keeps q (fun _ => ⟨rfl, rfl, rfl, rfl, rfl, rfl, rfl⟩) h

theorem Quiet.stall_keeps (b : Bay) (q : Nat) (h : P s) : P (stall b q s) :=
  k.checkMode_keeps b (k.sched b _ _ (fun _ => ⟨rfl, rfl⟩)
    (k.mapRec_keeps q (fun _ => ⟨rfl, rfl, rfl, rfl, rfl, rfl, rfl⟩) h))

theorem Quiet.toWritePhase_keeps (q : Nat) (h : P s) : P (toWritePhase q s) := by
  unfold toWritePhase
  split
  · exact h
  · exact k.trigger_keeps _ (k.mapRec_keeps q (fun _ => ⟨rfl, rfl, rfl, rfl, rfl, rfl, rfl⟩)
      (k.checkMode_keeps _ (k.sched _ _ _ (fun _ => ⟨rfl, rfl⟩) h)))

theorem Quiet.finishRecord_keeps (q : Nat) (h : P s) : P (finishRecord q s) := by
  unfold finishRecord
  split
  · exact h
  · split
    · exact k.toWritePhase_keeps q h
    · exact k.enterEnding_keeps q h

end

end Sys2Proof.Machine
end

section
/-! What follows at once (log entry 3): decisions, leavings, creations and an ejection's steps, then the timers and the
next frame. -/

namespace Sys2Proof.Machine

/-- A property that the changes within one event keep, and those of what follows at once. -/
structure Settles (P : State → Prop) : Prop extends Quiet P where
  pass : ∀ (b : Bay) (f : Sched → Sched) (s : State), (∀ c, (f c).head = c.head) → P s → P (s.mapSched b f)
  images : ∀ (b : Bay) (f : Mech → Mech) (s : State), (∀ m, f m = { m with buffer := (f m).buffer }) → P s →
    P (s.mapMech b f)
  choose : ∀ s, P s → P s.choose
  remove : ∀ (q : Nat) (s : State), P s → P (removeRec q s)
  stops : ∀ (b : Bay) (s : State), isEjecting (s.mechOf b).mode = true → P s →
    P (s.mapMech b fun m => { m with spindle := .stopping })
  empties : ∀ (b : Bay) (s : State), isEjecting (s.mechOf b).mode = true → P s →
    P ((s.mapMech b fun m =>
      { m with mode := .empty, inhibit := false, spindle := .stopped, locked := false, medium := none, label := none,
               zones := none, map := none }).mapSched b fun c => { c with head := 0, active := none, stack := [] })

/-- A property that what follows at once keeps, the timers and the selection of the next frame too. -/
structure Concludes (P : State → Prop) : Prop extends Settles P where
  timer : ∀ (b : Bay) (f : Mech → Mech) (s : State), (∀ m, f m = { m with timer := (f m).timer }) → P s →
    P (s.mapMech b f)
  select : ∀ s, P s → P (selectNext s)

variable {P : State → Prop}

/-! ### Pass start -/

section
variable (k : Settles P) {s : State}
include k

theorem Settles.assignSlots_keeps (q : Nat) (is js : List Nat) (h : P s) : P (assignSlots q is js s) := by
  induction is generalizing js s with
  | nil => exact h
  | cons i is ih =>
    cases js with
    | nil => exact h
    | cons j js => exact ih js (k.mapSector_keeps _ _ _ h)

/-- The image that a flush takes leaves its map's entries and cursor alone (R120). -/
theorem Settles.takeFlushImage_keeps (q : Nat) (b : Bay) (h : P s) : P (takeFlushImage q b s) := by
  unfold takeFlushImage
  split
  · exact h
  · rename_i d hd
    have h1 := k.images b (putImages 2 (mapImages (mapBytes d ((d.flushCount + 1) % 65536)))) s (fun _ => rfl) h
    have h2 := k.mapMech_map_keeps b (f := fun d =>
      { d with flushCount := (d.flushCount + 1) % 65536, dirty := false, pending := .none, flushing := some q })
      (fun _ => ⟨rfl, rfl⟩) h1
    convert h2 using 1
    cases b <;>
      simp_all [State.mapMap, State.mapMech, State.mechOf, Two.upd, Two.get, putImages]

theorem Settles.firstStart_keeps (r : Rec) (h : P s) : P (firstStart r s) := by
  unfold firstStart
  split
  · exact k.images _ _ s (fun _ => rfl) h
  · exact k.images _ _ s (fun _ => rfl) h
  · exact k.takeFlushImage_keeps _ _ h
  · exact k.assignSlots_keeps _ _ _ (k.claim_keeps _ _ h)
  · exact h

theorem Settles.makeActive_keeps (b : Bay) (q : Nat) (h : P s) : P (makeActive b q s) := by
  unfold makeActive
  refine k.sched b _ _ (fun _ => ⟨rfl, rfl⟩) (k.mapRec_keeps q (fun _ => ⟨rfl, rfl, rfl, rfl, rfl, rfl, rfl⟩) ?_)
  split
  · split
    · exact h
    · exact k.sched b _ _ (fun _ => ⟨rfl, rfl⟩) (k.mapRec_keeps _ (fun _ => ⟨rfl, rfl, rfl, rfl, rfl, rfl, rfl⟩) h)
  · split
    · exact k.checkMode_keeps b (k.sched b _ _ (fun _ => ⟨rfl, rfl⟩) h)
    · exact h

theorem Settles.startPass_keeps (b : Bay) (q : Nat) (p : Plan) (n : Nat) (h : P s) : P (startPass b q p n s) := by
  unfold startPass
  split
  · exact h
  · rename_i r _
    have h1 : P (if r.started then s else firstStart r s) := by
      split
      · exact h
      · exact k.firstStart_keeps r h
    refine k.pass b _ _ (fun _ => rfl) (k.makeActive_keeps b q ?_)
    dsimp only
    split
    · exact k.assignSlots_keeps _ _ _ (k.claim_keeps _ _ h1)
    · exact h1

end

/-! ### The decision -/

section
variable (k : Settles P) {s : State}
include k

theorem Settles.tryPlanned_keeps (b : Bay) (q : Nat) (p : Plan) (refused : Bool) (h : P s) :
    P (tryPlanned b q p refused s).state := by
  unfold tryPlanned
  split
  · exact k.startPass_keeps b q p _ h
  · exact h

theorem Settles.tryWaiting_keeps (b : Bay) (qs : List Nat) (refused : Bool) (h : P s) :
    P (tryWaiting b qs refused s).state := by
  induction qs generalizing refused s with
  | nil => exact h
  | cons q qs ih =>
    unfold tryWaiting
    have h1 := k.planRec_keeps q h
    split <;> rename_i s1 _ he <;> rw [he] at h1
    · exact ih _ (k.markStalled_keeps q h1)
    · exact ih _ (k.finishRecord_keeps q h1)
    · rename_i p
      have h2 := k.tryPlanned_keeps b q p refused h1
      dsimp only
      split
      · exact h2
      · exact ih _ h2

theorem Settles.tryStack_keeps (b : Bay) (n : Nat) (refused : Bool) (h : P s) : P (tryStack b n refused s).state := by
  induction n generalizing refused s with
  | zero => exact h
  | succ n ih =>
    unfold tryStack
    split
    · exact k.tryWaiting_keeps b _ _ h
    · rename_i q _ _
      have h1 := k.tryWaiting_keeps b (candidates s b (levelOf s (some q))) refused h
      dsimp only
      split
      · exact h1
      · have h2 := k.planRec_keeps q h1
        split <;> rename_i s1 _ he <;> rw [he] at h2
        · exact k.tryPlanned_keeps b q _ _ h2
        · exact ih _ (k.stall_keeps b q h2)
        · exact ih _ (k.finishRecord_keeps q h2)

theorem Settles.tryActive_keeps (b : Bay) (q : Nat) (refused : Bool) (h : P s) : P (tryActive b q refused s).state := by
  unfold tryActive
  have h1 := k.planRec_keeps q h
  split <;> rename_i s1 _ he <;> rw [he] at h1
  · exact k.tryPlanned_keeps b q _ _ h1
  · exact k.tryStack_keeps b _ _ (k.stall_keeps b q h1)
  · exact k.tryStack_keeps b _ _ (k.finishRecord_keeps q h1)

theorem Settles.tryRecords_keeps (b : Bay) (h : P s) : P (tryRecords b s).state := by
  unfold tryRecords
  split
  · exact k.tryStack_keeps b _ _ h
  · rename_i q _
    have h1 := k.planRec_keeps q h
    split <;> rename_i s1 _ he <;> rw [he] at h1
    · exact k.tryStack_keeps b _ _ (k.stall_keeps b q h1)
    · exact k.tryStack_keeps b _ _ (k.finishRecord_keeps q h1)
    · split
      · have h2 := k.tryWaiting_keeps b (candidates s1 b (levelOf s1 (some q))) false h1
        dsimp only
        split
        · exact h2
        · exact k.tryActive_keeps b q _ h2
      · exact k.tryActive_keeps b q _ h1

theorem Settles.considered_keeps (b : Bay) (h : P s) : P (considered b s) := by
  have h1 : P (clearStalled b (answerTrigger b s)) :=
    k.recs _ _ (fun _ => SameAsk.ite _ ⟨rfl, rfl, rfl, rfl, rfl, rfl, rfl⟩) (k.sched b _ s (fun _ => ⟨rfl, rfl⟩) h)
  unfold considered feedFirst
  split
  · split
    · exact k.feedThrough_keeps _ h1
    · exact h1
  · exact h1

theorem Settles.startFeed_keeps (h : P s) : P (startFeed s) := by
  unfold startFeed
  split
  · exact h
  · split
    · exact h
    · exact k.pass _ _ _ (fun _ => rfl) (k.stream _ _ h)

theorem Settles.makeDecision_keeps (b : Bay) (h : P s) : P (makeDecision b s) := by
  have h1 : P (answerTrigger b s) := k.sched b _ s (fun _ => ⟨rfl, rfl⟩) h
  unfold makeDecision
  split
  · exact h1
  · split
    · exact k.sched b _ _ (fun _ => ⟨rfl, rfl⟩) h1
    · have h2 := k.considered_keeps b h
      dsimp only
      split
      · exact k.startFeed_keeps h2
      · have h3 := k.tryRecords_keeps b h2
        unfold recordOutcome
        split
        · exact h3
        · exact k.sched b _ _ (fun _ => ⟨rfl, rfl⟩) h3

end

/-! ### Ejection, leaving and the conclusion -/

theorem releaseHolds_ejecting {s : State} {b : Bay} (h : releaseHolds s b = true) : isEjecting (s.mechOf b).mode = true := by
  simp only [releaseHolds, Bool.and_eq_true] at h
  exact h.1.1.1

section
variable (k : Settles P) {s : State}
include k

theorem Settles.release_keeps (b : Bay) (he : isEjecting (s.mechOf b).mode = true) (h : P s) : P (release b s) :=
  foldl_keeps (fun _ q ht => k.enterEnding_keeps q ht) _ _
    (k.raise _ _ _ (k.mapStream_keeps _ (k.empties b s he h)))

theorem Settles.beginStop_keeps (b : Bay) (he : isEjecting (s.mechOf b).mode = true) (h : P s) : P (beginStop b s) :=
  k.recs _ _ (fun _ => SameAsk.ite _ ⟨rfl, rfl, rfl, rfl, rfl, rfl, rfl⟩) (k.stops b s he h)

theorem Settles.ejectStep_keeps {t : State} (b : Bay) (e : ejectStep b s = some t) (h : P s) : P t := by
  unfold ejectStep at e
  split at e
  · rename_i hr
    split at e
    · cases e
      exact k.beginStop_keeps b (releaseHolds_ejecting hr) h
    · cases e
      exact k.release_keeps b (releaseHolds_ejecting hr) h
    · exact nomatch e
  · exact nomatch e

theorem Settles.leaveTable_keeps (q : Nat) (h : P s) : P (leaveTable q s) := by
  unfold leaveTable
  split
  · exact h
  · have h1 := k.remove q s h
    dsimp only
    split
    · exact k.creations_keep (k.reply _ _ _ _ _ h1)
    · split
      · exact k.fallbackOutcome_keeps _ (k.creations_keep h1)
      · split
        · exact k.creations_keep (k.stepOutcome_keeps _ h1)
        · exact k.creations_keep h1

theorem Settles.creationStep_keeps {t : State} (e : creationStep s = some t) (h : P s) : P t := by
  unfold creationStep at e
  split at e
  · cases e
    exact k.askFlush_keeps _ h
  · split at e
    · cases e
      exact k.askFlush_keeps _ h
    · split at e
      · cases e
        exact k.createFlush_keeps _ h
      · split at e
        · cases e
          exact k.createFlush_keeps _ h
        · split at e
          · cases e
            exact k.createStep_keeps h
          · exact nomatch e

/-- A property that the basic changes keep is kept by each thing that follows at once. -/
theorem Settles.nextStep_keeps {t : State} (e : nextStep s = some t) (h : P s) : P t := by
  rcases nextStep_cases e with e | e | ⟨b, e⟩ | e
  · exact k.creationStep_keeps e h
  · obtain ⟨q, rfl | rfl⟩ := leaveStep_cases e
    · exact k.leaveTable_keeps q h
    · exact k.leaveTable_keeps q (k.choose s h)
  · exact k.ejectStep_keeps b e h
  · obtain ⟨b, rfl | rfl⟩ := decisionStep_cases e
    · exact k.makeDecision_keeps b h
    · exact k.makeDecision_keeps b (k.choose s h)

theorem Settles.settle_keeps (h : P s) : P (settle s) :=
  Machine.settle_keeps (fun _ _ e h => k.nextStep_keeps e h) s h

end

section
variable (k : Concludes P) {s : State}
include k

theorem Concludes.setTimer_keeps (b : Bay) (h : P s) : P (setTimer b s) := by
  unfold setTimer
  split <;> exact k.timer b _ s (fun _ => rfl) h

/-- A property that the basic changes keep is kept to the end of a command's step. -/
theorem Concludes.conclude_keeps (h : P s) : P (conclude s) :=
  Machine.conclude_keeps (fun _ _ e h => k.nextStep_keeps e h) (fun b _ h => k.setTimer_keeps b h) k.select s h

end

end Sys2Proof.Machine
end

section
/-! The completion of a pass (R78): its sectors settled, the label-track rule, and the owner's end. -/

namespace Sys2Proof.Machine

/-- A property that the changes within one event keep, and those at the end of a label-track writer's round. -/
structure Labels (P : State → Prop) : Prop extends Quiet P where
  succeeds : ∀ (b : Bay) (serial : BitVec 32) (name : Data) (s : State), P s → P (prepareSucceeds b serial name s)
  zones : ∀ (b : Bay) (zs : List Zone) (s : State), P s → P (s.mapMech b fun m => { m with zones := some zs })
  inhibits : ∀ (b : Bay) (s : State), P s → P (s.mapMech b fun m => { m with inhibit := true })

/-- A property that the completion of a pass keeps, the recording of a move (R115) included. -/
structure Completes (P : State → Prop) : Prop extends Labels P where
  entry : ∀ (b : Bay) (n x : Nat) (s : State),
    (∀ d, (s.mechOf b).map = some d → d.entries.length < Config.maxEntries ∨ hasEntry d n = true) → P s →
    P (s.mapMap b fun d => { d with entries := putEntry n x d.entries, dirty := true })

variable {P : State → Prop}

/-! ### Sectors settled -/

section
variable (k : Quiet P) {s : State}
include k

theorem Quiet.mapSectorOf_keeps (q i : Nat) (f : Sector → Sector) (h : P s) : P (mapSectorOf q i f s) :=
  k.mapSector_keeps q i f h

theorem Quiet.noteTries_keeps (q n : Nat) (h : P s) : P (noteTries q n s) := by
  unfold noteTries
  split
  · exact k.flagRecord_keeps q _ h
  · exact h

theorem Quiet.mapTry_keeps (q i : Nat) (f : Try → Try) (h : P s) : P (s.mapRec q (Rec.mapTry · i f)) :=
  k.mapRec_keeps q (fun _ => ⟨rfl, rfl, rfl, rfl, rfl, rfl, rfl⟩) h

theorem Quiet.readGivesUp_keeps (r : Rec) (i : Nat) (h : P s) : P (readGivesUp r i s) := by
  unfold readGivesUp
  split
  · exact k.createInternal_keeps rfl (k.mapRec_keeps _ (fun _ => ⟨rfl, rfl, rfl, rfl, rfl, rfl, rfl⟩) h)
  · exact k.mapSectorOf_keeps _ _ _ h

theorem Quiet.readDelivers_keeps (r : Rec) (i n : Nat) (d : Data) (h : P s) : P (readDelivers r i n d s) := by
  have h1 : P (match readSlot s r i with
      | some j => fillSlot j (some d) s
      | none => s) := by
    split
    · exact k.fillSlot_keeps _ _ h
    · exact h
  have h2 := k.mapSectorOf_keeps r.seq i (fun y => { y with progress := .read, attempts := 0 }) h1
  unfold readDelivers
  dsimp only
  split
  · exact k.requestRelocate_keeps _ _ _ _ _ h2
  · exact h2

theorem Quiet.settleRead_keeps (q i : Nat) (found : Found) (h : P s) : P (settleRead q i found s) := by
  unfold settleRead
  split
  · exact h
  · rename_i r _
    have h1 := fun n => k.noteTries_keeps q n h
    cases found with
    | data d n => exact k.readDelivers_keeps _ _ _ _ (h1 _)
    | blank => exact k.mapSectorOf_keeps _ _ _ (h1 _)
    | failed n => exact iteInduction (fun _ => k.readGivesUp_keeps _ _ (h1 _)) fun _ => k.mapSectorOf_keeps _ _ _ (h1 _)

theorem Quiet.verifyGivesUp_keeps (r : Rec) (i : Nat) (c : Cause) (h : P s) : P (verifyGivesUp r i c s) := by
  unfold verifyGivesUp
  split
  · exact k.mapSectorOf_keeps _ _ _ h
  · split
    · exact k.mapSectorOf_keeps _ _ _ h
    · exact k.startRelocation_keeps _ _ h

theorem Quiet.settleVerify_keeps (q i : Nat) (found : Found) (bytes : Data) (h : P s) :
    P (settleVerify q i found bytes s) := by
  unfold settleVerify
  split
  · exact h
  · have h1 := fun n => k.noteTries_keeps q n h
    dsimp only
    split
    · exact k.mapSectorOf_keeps _ _ _ (h1 _)
    · exact k.verifyGivesUp_keeps _ _ _ (h1 _)
    · exact k.verifyGivesUp_keeps _ _ _ (h1 _)
    · exact iteInduction (fun _ => k.verifyGivesUp_keeps _ _ _ (h1 _)) fun _ => k.mapSectorOf_keeps _ _ _ (h1 _)

/-- A relocation's VERIFY keeps what the recording of its move would keep. -/
theorem Quiet.settleTryVerify_keeps (q i : Nat) (found : Found) (bytes : Data)
    (hm : ∀ r t n, s.rec? q = some r → r.try? i = some t → P (recordMove q i (t.spare.getD 0) (noteTries q n s)))
    (h : P s) : P (settleTryVerify q i found bytes s) := by
  unfold settleTryVerify
  split
  · exact h
  · rename_i r hr
    split
    · exact h
    · rename_i t ht
      have h1 := fun n => k.noteTries_keeps q n h
      dsimp only
      split
      · exact hm r t _ hr ht
      · exact k.assignSpare_keeps _ _ (h1 _)
      · exact k.assignSpare_keeps _ _ (h1 _)
      · split
        · exact k.assignSpare_keeps _ _ (h1 _)
        · exact k.mapTry_keeps _ _ _ (h1 _)

/-- The recording of a move keeps what its entry keeps; without a place for the entry there is none (R115, R116). -/
theorem Quiet.recordMove_keeps (q i x : Nat)
    (he : ∀ r m, s.rec? q = some r → (s.mechOf r.bay).map = some m →
      m.entries.length < Config.maxEntries ∨ hasEntry m (r.first + i) = true →
      P (s.mapMap r.bay fun d => { d with entries := putEntry (r.first + i) x d.entries, dirty := true }))
    (h : P s) : P (recordMove q i x s) := by
  unfold recordMove
  split
  · exact h
  · rename_i r hr
    split
    · exact k.noSpare_keeps _ _ h
    · rename_i m hm
      split
      · exact k.noSpare_keeps _ _ h
      · rename_i hc
        have hroom : m.entries.length < Config.maxEntries ∨ hasEntry m (r.first + i) = true := by
          rcases Nat.lt_or_ge m.entries.length Config.maxEntries with hl | hl
          · exact .inl hl
          · exact .inr (Bool.eq_true_of_not_eq_false fun e => hc ⟨hl, e⟩)
        exact k.spareLowTest_keeps _ (k.flagRecord_keeps _ _
          (k.mapRec_keeps q (fun _ => ⟨rfl, rfl, rfl, rfl, rfl, rfl, rfl⟩) (he r m hr hm hroom)))

theorem Quiet.advance_keeps (q i : Nat) (rel : Bool) (pr : Progress) (h : P s) : P (advance q i rel pr s) := by
  unfold advance
  split
  · exact k.mapTry_keeps _ _ _ h
  · exact k.mapSectorOf_keeps _ _ _ h

/-- One covered sector settled, where a relocation's VERIFY is treated apart. -/
theorem Quiet.settleSector_keeps (q : Nat) (p : Pass) (rs : List SectorResponse) (m : Medium) (j i : Nat)
    (hv : p.action = .verify → p.relocation = true →
      P (settleTryVerify q i (foundAt s p rs m j i) (p.data.getD j []) s))
    (h : P s) : P (settleSector q p rs m j i s) := by
  unfold settleSector
  split <;> rename_i ha
  · exact k.advance_keeps _ _ _ _ h
  · exact k.advance_keeps _ _ _ _ h
  · exact k.settleRead_keeps _ _ _ h
  · split
    · rename_i hp
      exact hv ha hp
    · exact k.settleVerify_keeps _ _ _ _ h

theorem Quiet.settleSectors_keep (q : Nat) (p : Pass) (rs : List SectorResponse) (m : Medium) (is : List Nat) (j : Nat)
    (hv : ∀ i j t, P t → p.action = .verify → p.relocation = true →
      P (settleTryVerify q i (foundAt t p rs m j i) (p.data.getD j []) t))
    (h : P s) : P (settleSectors q p rs m j is s) := by
  induction is generalizing j s with
  | nil => exact h
  | cons i is ih => exact ih (j + 1) (k.settleSector_keeps q p rs m j i (hv i j s h) h)

theorem Quiet.ownerEnds_keeps (q : Nat) (h : P s) : P (ownerEnds q s) := by
  unfold ownerEnds
  split
  · exact h
  · split
    · exact k.enterEnding_keeps q h
    · split
      · exact k.finishRecord_keeps q h
      · exact h

end

/-! ### The label-track rule -/

section
variable (k : Labels P) {s : State}
include k

theorem Labels.setInhibit_keeps (b : Bay) (h : P s) : P (setInhibit b s) := by
  have h1 := k.raise b .mediaAlert _ (k.inhibits b s h)
  have h3 := k.mapMech_map_keeps b (f := fun m => { m with pending := .none }) (fun _ => ⟨rfl, rfl⟩)
    (k.endAll_keeps .cancelled
      (seqsOf (raise b .mediaAlert (s.mapMech b fun m => { m with inhibit := true }))
        fun r => isFlush r && decide (r.bay = b) && !r.started && unfinished r) h1)
  unfold setInhibit
  dsimp only
  split
  · exact k.degrade_keeps _ h3
  · exact h3

theorem Labels.labelSucceeds_keeps (r : Rec) (h : P s) : P (labelSucceeds r s) := by
  unfold labelSucceeds
  split
  · exact k.succeeds _ _ _ _ h
  · exact k.zones _ _ _ h
  · exact h

theorem Labels.labelFails_keeps (base : Nat) {r : Rec} (hr : isPrepare r = true → prepareOn s r.bay = true) (h : P s) :
    P (labelFails base r s) := by
  have hf : ∀ x : Rec, SameAsk x { x with failures := x.failures ++ labelFailures base r } :=
    fun _ => ⟨rfl, rfl, rfl, rfl, rfl, rfl, rfl⟩
  have h1 := k.mapRec_keeps r.seq hf h
  unfold labelFails
  dsimp only
  split
  · rename_i e
    exact k.damages _ _ ((prepareOn_map s r.bay fun x => (hf x).ite _).trans (hr (by simp [isPrepare, e]))) h1
  · exact k.setInhibit_keeps _ (k.mapMech_map_keeps _ (fun _ => ⟨rfl, rfl⟩) h1)
  · exact k.setInhibit_keeps _ h1

theorem Labels.labelRoundEnd_keeps (q : Nat) (h : P s) : P (labelRoundEnd q s) := by
  unfold labelRoundEnd
  split
  · exact h
  · rename_i r hr
    dsimp only
    split
    · exact h
    · split
      · exact k.labelSucceeds_keeps r h
      · split
        · exact k.mapRec_keeps _ (fun _ => ⟨rfl, rfl, rfl, rfl, rfl, rfl, rfl⟩) h
        · exact k.labelFails_keeps _ (prepareOn_of_rec hr) h

/-- What a pass's owner makes of it is kept, once its sectors are settled. -/
theorem Labels.handOutcomes_keeps (b : Bay) (p : Pass) (rs : List SectorResponse) (m : Medium)
    (hs : ∀ q, p.owner = .record q → P (settleSectors q p rs m 0 p.items s)) (h : P s) :
    P (handOutcomes b p rs m s) := by
  unfold handOutcomes
  split
  · rename_i q ho
    exact k.ownerEnds_keeps q (k.labelRoundEnd_keeps q (k.queueFrames_keeps q (hs q ho)))
  · exact k.completeFeed_keeps _ _ h
  · exact k.releasePass_keeps b h

end

section
variable (k : Completes P) {s : State}
include k

theorem Completes.recordMove_keeps (q i x : Nat) (h : P s) : P (recordMove q i x s) :=
  k.toQuiet.recordMove_keeps q i x (fun r m _ hm hroom => k.entry _ _ _ _ (fun d hd => by
    rw [hm] at hd
    cases hd
    exact hroom) h) h

theorem Completes.handOutcomes_keeps (b : Bay) (p : Pass) (rs : List SectorResponse) (m : Medium) (h : P s) :
    P (handOutcomes b p rs m s) :=
  k.toLabels.handOutcomes_keeps b p rs m (fun q _ => k.settleSectors_keep q p rs m _ _ (fun i _ _ ht _ _ =>
    k.settleTryVerify_keeps q i _ _ (fun _ _ _ _ _ => k.recordMove_keeps _ _ _ (k.noteTries_keeps _ _ ht)) ht) h) h

end

end Sys2Proof.Machine
end

section
/-! What an operation carries over of the cartridges: every operation but an insertion, a mount, a pass completion, a
change of the medium and a power-on keeps each surface, or releases its cartridge, and keeps each Defect Map's entries. -/

namespace Sys2Proof.Machine

/-! ### One bay's mechanism and scheduler -/

theorem mechOf_mapMech (s : State) (b c : Bay) (f : Mech → Mech) :
    (s.mapMech b f).mechOf c = if c = b then f (s.mechOf b) else s.mechOf c := by
  split
  · rename_i e
    subst e
    exact State.mapMech_mechOf s c f
  · rename_i e
    exact State.mapMech_mechOf_ne s b c f e

theorem schedOf_mapSched (s : State) (b c : Bay) (f : Sched → Sched) :
    (s.mapSched b f).schedOf c = if c = b then f (s.schedOf b) else s.schedOf c := by
  split
  · rename_i e
    subst e
    exact State.mapSched_schedOf s c f
  · rename_i e
    exact State.mapSched_schedOf_ne s b c f e

/-! ### Cartridges carried over -/

/-- Each bay's surface stays or is gone with its cartridge, and its Defect Map follows from the one it held. -/
structure Carries (s t : State) : Prop where
  medium : ∀ b, (t.mechOf b).medium = (s.mechOf b).medium ∨ (t.mechOf b).medium = none
  map : ∀ b, MapFollows (s.mechOf b).map (t.mechOf b).map

theorem MapFollows.trans {m m' m'' : Option DefectMap} (h : MapFollows m m') (h' : MapFollows m' m'') :
    MapFollows m m'' := by
  intro d'' e''
  obtain ⟨d', e', he', hc', hl'⟩ := h' d'' e''
  obtain ⟨d, e, he, hc, hl⟩ := h d' e'
  exact ⟨d, e, he'.trans he, Nat.le_trans hc hc', by omega⟩

theorem MapFollows.to_none (m : Option DefectMap) : MapFollows m none := fun _ h => nomatch h

theorem Carries.refl (s : State) : Carries s s := ⟨fun _ => .inl rfl, fun _ => .refl _⟩

theorem Carries.trans {s t u : State} (h : Carries s t) (h' : Carries t u) : Carries s u where
  medium b := by
    rcases h'.medium b with e | e
    · rw [e]
      exact h.medium b
    · exact .inr e
  map b := (h.map b).trans (h'.map b)

theorem Carries.of_mech {s t : State} (h : t.mech = s.mech) : Carries s t where
  medium b := .inl (by simp [State.mechOf, h])
  map b := by
    simp only [State.mechOf, h]
    exact .refl _

theorem Carries.of_mapMech {s : State} {b : Bay} {f : Mech → Mech}
    (hm : (f (s.mechOf b)).medium = (s.mechOf b).medium ∨ (f (s.mechOf b)).medium = none)
    (hd : MapFollows (s.mechOf b).map (f (s.mechOf b)).map) : Carries s (s.mapMech b f) where
  medium c := by
    rw [mechOf_mapMech]
    split
    · rename_i e
      subst e
      exact hm
    · exact .inl rfl
  map c := by
    rw [mechOf_mapMech]
    split
    · rename_i e
      subst e
      exact hd
    · exact .refl _

/-- A change of a bay's mechanism that leaves surface and map alone. -/
theorem Carries.of_same {s : State} {b : Bay} {f : Mech → Mech} (hm : ∀ m, (f m).medium = m.medium)
    (hd : ∀ m, (f m).map = m.map) : Carries s (s.mapMech b f) :=
  .of_mapMech (.inl (hm _)) (by rw [hd]; exact .refl _)

theorem wake_carries (b : Bay) (s : State) : Carries s (wake b s) := by
  refine .of_same (fun m => ?_) fun m => ?_ <;> split <;> rfl

/-- A change that leaves the mechanisms alone carries the cartridges over. -/
theorem Carries.same_mech {s t u : State} (h : Carries s t) (e : u.mech = t.mech) : Carries s u := h.trans (.of_mech e)

/-- A bay from which the cartridge is released (R32). -/
theorem vacated_carries (b : Bay) (s : State) :
    Carries s ((s.mapMech b fun m =>
      { m with mode := .empty, inhibit := false, spindle := .stopped, locked := false, medium := none, label := none,
               zones := none, map := none }).mapSched b fun c => { c with head := 0, active := none, stack := [] }) := by
  refine Carries.same_mech (t := s.mapMech b fun m =>
    { m with mode := .empty, inhibit := false, spindle := .stopped, locked := false, medium := none, label := none,
             zones := none, map := none }) (.of_mapMech (.inr rfl) (.to_none _)) rfl

/-- A property that is kept wherever the cartridges are carried over is kept by all that follows at once. -/
theorem Concludes.of_carried {P : State → Prop} (hP : ∀ {s t}, Carries s t → P s → P t) : Concludes P where
  sched _ _ _ _ := hP (.of_mech rfl)
  slots _ _ _ := hP (.of_mech rfl)
  recs _ _ _ := hP (.of_mech rfl)
  create _ _ _ := hP (.of_mech rfl)
  stream _ _ := hP (.of_mech rfl)
  tally _ _ := hP (.of_mech rfl)
  port _ _ := hP (.of_mech rfl)
  mirror _ _ := hP (.of_mech rfl)
  reply _ _ _ _ _ := hP (.of_mech rfl)
  raise _ _ _ := hP (.of_mech rfl)
  wake b s := hP (wake_carries b s)
  map _ _ _ hf := hP (.of_mapMech (.inl rfl) (.of_map hf))
  damages _ _ _ := hP (.of_mapMech (.inl rfl) (.to_none _))
  pass _ _ _ _ := hP (.of_mech rfl)
  images _ _ _ hf := hP (.of_same (fun m => by rw [hf]) fun m => by rw [hf])
  choose _ := hP (.of_mech rfl)
  remove _ _ := hP (.of_mech rfl)
  stops _ _ _ := hP (.of_same (fun _ => rfl) fun _ => rfl)
  empties b s _ := hP (vacated_carries b s)
  timer _ _ _ hf := hP (.of_same (fun m => by rw [hf]) fun m => by rw [hf])
  select _ := hP (.of_mech rfl)

theorem carries_concludes (s : State) : Concludes (Carries s) := .of_carried fun h h' => h'.trans h

theorem conclude_carries (s : State) : Carries s (conclude s) := (carries_concludes s).conclude_keeps (.refl s)

theorem Carries.conclude {s t : State} (h : Carries s t) : Carries s (conclude t) := h.trans (conclude_carries t)

/-! ### Requests -/

theorem createRec_carries (r : Rec) (s : State) : Carries s (createRec r s) := by
  have h : Carries s ((s.withRecs (s.recs ++ [{ r with seq := s.nextSeq }])).withCounter (s.counter + 1)) := .of_mech rfl
  have k := carries_concludes s
  unfold createRec
  dsimp only
  split
  · exact h
  · refine k.trigger_keeps _ ?_
    split
    · exact k.wake _ _ (k.wake _ _ h)
    · exact k.wake _ _ h

section
variable (s : State)

/-- Sharing slots keeps their number (R40). -/
theorem shareSlots_length (h : Holder) (ids : List Nat) : (shareSlots h ids s).slots.length = s.slots.length :=
  List.foldlRecOn (motive := fun (l : List Slot) => l.length = s.slots.length) ids _ rfl fun _ hl _ _ =>
    (List.length_modify _ _ _).trans hl

theorem takeAsk_carries (a : Ask) {accept : Bay → State → State} (h : ∀ b, Carries s (accept b s)) :
    Carries s (takeAsk a accept s) := by
  unfold takeAsk
  split
  · exact (h _).conclude
  · exact .of_mech rfl
  · exact .refl s

theorem takeRead_carries (ch tag : Nat) (bay : Option Bay) (first count level : Nat) :
    Carries s (takeRead ch tag bay first count level s) :=
  takeAsk_carries s _ fun _ => createRec_carries _ s

theorem acceptWrite_carries (a : Ask) (b : Bay) : Carries s (acceptWrite a b s) := by
  have k := carries_concludes s
  have h : Carries s (createRec (askRec a b (writeSectors (claim (.record s.nextSeq) a.count s).2) [])
      (claim (.record s.nextSeq) a.count s).1) :=
    (k.claim_keeps _ _ (.refl s)).trans (createRec_carries _ _)
  unfold acceptWrite
  refine k.reply _ _ _ _ _ ?_
  split
  · exact k.createInternal_keeps rfl (k.slots _ _ (shareSlots_length _ _ _)
      (k.mapRec_keeps _ (fun _ => ⟨rfl, rfl, rfl, rfl, rfl, rfl, rfl⟩) h))
  · exact h

theorem takeWrite_carries (ch tag : Nat) (bay : Option Bay) (first count level : Nat) :
    Carries s (takeWrite ch tag bay first count level s) :=
  takeAsk_carries s _ fun _ => acceptWrite_carries s _ _

theorem takePrepare_carries (ch tag : Nat) (bay : Option Bay) (serial : BitVec 32) (name : Data) :
    Carries s (takePrepare ch tag bay serial name s) := by
  unfold takePrepare
  split
  · exact takeAsk_carries s _ fun _ => createRec_carries _ s
  · exact .of_mech rfl

theorem takeSetZones_carries (ch tag : Nat) (bay : Option Bay) (level : Nat) (zones : List Zone) :
    Carries s (takeSetZones ch tag bay level zones s) :=
  takeAsk_carries s _ fun _ => createRec_carries _ s

/-- A release takes the cartridge out of its bay (R32). -/
theorem release_carries (b : Bay) : Carries s (release b s) :=
  have k := carries_concludes s
  foldl_keeps (fun _ q ht => k.enterEnding_keeps q ht) _ _ (k.raise _ _ _ (k.mapStream_keeps _ (vacated_carries b s)))

theorem beginEject_carries (a : Ask) (kind : EjectKind) (b : Bay) : Carries s (beginEject a kind b s) := by
  unfold beginEject
  dsimp only
  split
  · exact (createRec_carries _ s).trans (release_carries _ b)
  · exact (createRec_carries _ s).trans (.of_same (fun _ => rfl) fun _ => rfl)

theorem takeEjectNormal_carries (ch tag : Nat) (bay : Option Bay) (level : Nat) :
    Carries s (takeEjectNormal ch tag bay level s) :=
  takeAsk_carries s _ fun b => ((carries_concludes s).unbindMirror_keeps true (.refl s)).trans (beginEject_carries _ _ _ b)

theorem takeEjectForced_carries (ch tag : Nat) (bay : Option Bay) (level : Nat) :
    Carries s (takeEjectForced ch tag bay level s) :=
  have k := carries_concludes s
  takeAsk_carries s _ fun b =>
    (k.abandonAll_keeps b forcedEnds (k.unbindMirror_keeps true (k.haltByEject_keeps b (.refl s)))).trans
      (beginEject_carries _ _ _ b)

theorem acceptSector_carries (r : Rec) (index : Nat) (data : Data) : Carries s (acceptSector r index data s) := by
  have k := carries_concludes s
  unfold acceptSector triggerCopies
  refine k.signalHoldEnds_keeps s (foldl_keeps (f := fun t (o : Rec) => trigger o.bay t)
    (fun _ o ht => k.trigger_keeps o.bay ht) _ _ (k.trigger_keeps _ (k.mapSector_keeps _ _ _ ?_)))
  split
  · exact k.fillSlot_keeps _ _ (.refl s)
  · exact .refl s

theorem takeSector_carries (ch tag index : Nat) (status : Option SectorStatus) (data : Data) :
    Carries s (takeSector ch tag index status data s) := by
  unfold takeSector
  split
  · split
    · exact (acceptSector_carries s _ _ _).conclude
    · exact .of_mech rfl
    · exact .refl s
  · exact .of_mech rfl

theorem cancelEject_carries (r : Rec) : Carries s (cancelEject r s) := by
  unfold cancelEject
  split
  · exact ((carries_concludes s).endBy_keeps _ _ (.refl s)).trans (.of_same (fun _ => rfl) fun _ => rfl)
  · exact .of_mech rfl

theorem cancelRec_carries (r : Rec) : Carries s (cancelRec r s) := by
  have k := carries_concludes s
  have h := Carries.refl s
  unfold cancelRec
  split
  · exact h
  · split
    · exact cancelEject_carries s r
    · split
      · exact h
      · split
        · exact foldl_keeps (fun _ q ht => k.endBy_keeps _ q ht) _ _ (k.endBy_keeps _ _ h)
        · exact k.endBy_keeps _ _ h

theorem takeCancel_carries (ch tag target : Nat) : Carries s (takeCancel ch tag target s) := by
  have h : Carries s (doneNow ch tag 0 s) := .of_mech rfl
  unfold takeCancel
  split
  · exact .of_mech rfl
  · exact (h.trans (cancelRec_carries _ _)).conclude

theorem setMode_carries (b : Bay) (x : Option (Option PreemptionMode)) : Carries s (setMode b x s) := by
  unfold setMode
  dsimp only
  split
  · exact .refl s
  · exact .of_mech rfl

theorem retime_carries (b : Bay) (o : Settings) : Carries s (retime b o s) := by
  unfold retime
  split
  · exact .refl s
  · exact .of_same (fun _ => rfl) fun _ => rfl

theorem capTriggers_carries (o : Settings) : Carries s (capTriggers o s) := by
  unfold capTriggers
  split
  · exact .of_mech rfl
  · exact .refl s

theorem marginTriggers_carries (o : Settings) : Carries s (marginTriggers o s) := by
  unfold marginTriggers
  split
  · split
    · exact .refl s
    · exact .of_mech rfl
  · exact .refl s

theorem acceptSetup_carries (f : SetupFields) : Carries s (acceptSetup f s) := by
  have h : Carries s (s.withSettings (newSettings f s.settings)) := .of_mech rfl
  exact (((((h.trans (setMode_carries _ .A _)).trans (setMode_carries _ .B _)).trans (retime_carries _ .A _)).trans
    (retime_carries _ .B _)).trans (capTriggers_carries _ _)).trans (marginTriggers_carries _ _)

theorem takeSetup_carries (ch tag : Nat) (f : SetupFields) : Carries s (takeSetup ch tag f s) := by
  unfold takeSetup
  split
  · exact .of_mech rfl
  · split
    · exact .of_mech rfl
    · exact ((carries_concludes s).reply _ _ _ _ _ (acceptSetup_carries s f)).conclude

theorem takeBind_carries (ch tag : Nat) (primary : Option Bay) : Carries s (takeBind ch tag primary s) := by
  have k := carries_concludes s
  unfold takeBind
  split
  · exact .of_mech rfl
  · split
    · exact .of_mech rfl
    · exact (k.reply _ _ _ _ _ (k.wake _ _ (k.wake _ _ (k.mirror _ s (.refl s))))).conclude

theorem takeUnbind_carries (ch tag : Nat) : Carries s (takeUnbind ch tag s) :=
  have k := carries_concludes s
  (k.reply _ _ _ _ _ (k.unbindMirror_keeps false (.refl s))).conclude

theorem acceptOpen_carries (b : Bay) (ring line pace : Nat) (marks : Option Marks) :
    Carries s (acceptOpen b ring line pace marks s) := by
  have k := carries_concludes s
  exact k.trigger_keeps b (k.wake b _ (k.port _ _ (k.tally _ _ (k.stream _ _
    (k.slots _ s (foldl_set_length _ _ _) (.refl s))))))

theorem answerStream_carries {t : State} (ch tag : Nat) (h : Carries s t) : Carries s (answerStream ch tag t) :=
  ((carries_concludes s).reply _ _ _ _ _ h).conclude

theorem takeOpenStream_carries (ch tag : Nat) (bay : Option Bay) (ring line pace : Nat) (marks : Option Marks) :
    Carries s (takeOpenStream ch tag bay ring line pace marks s) := by
  unfold takeOpenStream
  split
  · exact answerStream_carries s _ _ (acceptOpen_carries s _ _ _ _ _)
  · exact .of_mech rfl
  · exact .refl s

theorem takeSetMarks_carries (ch tag : Nat) (marks : Marks) : Carries s (takeSetMarks ch tag marks s) := by
  have k := carries_concludes s
  unfold takeSetMarks
  split
  · exact .of_mech rfl
  · exact answerStream_carries s _ _
      (k.trigger_keeps _ (k.armingTest_keeps (k.primingTest_keeps (k.stream _ s (.refl s)))))

theorem takeAppendBand_carries (ch tag first length : Nat) : Carries s (takeAppendBand ch tag first length s) := by
  have k := carries_concludes s
  unfold takeAppendBand
  split
  · exact .of_mech rfl
  · split
    · exact .of_mech rfl
    · exact (k.reply _ _ _ _ _ (k.stream _ s (.refl s))).conclude

theorem acceptStart_carries (t : Stream) : Carries s (acceptStart t s) := by
  have k := carries_concludes s
  have h : Carries s (primingTest (setPhase .priming
      (s.withStream (some (if isHalted t.phase then treatOldest t else t))))) :=
    k.primingTest_keeps (k.setPhase_keeps _ (k.stream _ s (.refl s)))
  unfold acceptStart
  dsimp only
  split
  · exact k.armingTest_keeps h
  · exact h

theorem takeStartStream_carries (ch tag : Nat) : Carries s (takeStartStream ch tag s) := by
  unfold takeStartStream
  split
  · exact .of_mech rfl
  · split
    · exact .of_mech rfl
    · exact ((carries_concludes s).reply _ _ _ _ _ (acceptStart_carries s _)).conclude

theorem takeStopStream_carries (ch tag : Nat) : Carries s (takeStopStream ch tag s) := by
  have k := carries_concludes s
  unfold takeStopStream
  split
  · exact .of_mech rfl
  · split
    · exact .of_mech rfl
    · exact (k.reply _ _ _ _ _ (k.raise _ _ _ (k.setPhase_keeps _ (.refl s)))).conclude

theorem acceptFlush_carries (t : Stream) : Carries s (acceptFlush t s) := by
  have k := carries_concludes s
  unfold acceptFlush
  split
  · split
    · exact .refl s
    · exact .of_mech rfl
  · exact k.setPhase_keeps _ (k.stream _ s (.refl s))

theorem takeFlushStream_carries (ch tag : Nat) : Carries s (takeFlushStream ch tag s) := by
  unfold takeFlushStream
  split
  · exact .of_mech rfl
  · split
    · exact ((carries_concludes s).reply _ _ _ _ _ (acceptFlush_carries s _)).conclude
    · exact .of_mech rfl

theorem acceptClose_carries (t : Stream) : Carries s (acceptClose t s) := by
  have k := carries_concludes s
  have h : Carries s (s.withStream none) := .of_mech rfl
  exact k.trigger_keeps _ (k.signalRelease_keeps _ (k.slots _ _ (List.length_map _) h))

theorem takeCloseStream_carries (ch tag : Nat) : Carries s (takeCloseStream ch tag s) := by
  unfold takeCloseStream
  split
  · exact .of_mech rfl
  · split
    · exact ((carries_concludes s).reply _ _ _ _ _ (acceptClose_carries s _)).conclude
    · exact .of_mech rfl

/-- A controller reset keeps each bay but its timer (R36). -/
theorem controllerReset_carries : Carries s (controllerReset s) where
  medium b := .inl (by cases b <;> rfl)
  map b := by cases b <;> exact .refl _

theorem takeReset_carries (ch tag : Nat) : Carries s (takeReset ch tag s) := by
  unfold takeReset
  split
  · exact ((carries_concludes s).reply _ _ _ _ _ (controllerReset_carries s)).conclude
  · exact .of_mech rfl

theorem takeQueryBay_carries (ch tag : Nat) (bay : Option Bay) : Carries s (takeQueryBay ch tag bay s) := by
  unfold takeQueryBay
  split <;> exact .of_mech rfl

theorem takeQueryOperation_carries (ch tag target : Nat) : Carries s (takeQueryOperation ch tag target s) := by
  unfold takeQueryOperation
  split <;> exact .of_mech rfl

/-- Every request that the Link Port hands on carries the cartridges over. -/
theorem handOn_carries (i : Instr) : Carries s (handOn i s) := by
  cases i with
  | reset ch tag => exact takeReset_carries s ch tag
  | read ch tag bay first count level => exact takeRead_carries s ch tag bay first count level
  | write ch tag bay first count level => exact takeWrite_carries s ch tag bay first count level
  | sector ch tag index status data => exact takeSector_carries s ch tag index status data
  | cancel ch tag target => exact takeCancel_carries s ch tag target
  | queryDevice ch tag => exact .of_mech rfl
  | queryBay ch tag bay => exact takeQueryBay_carries s ch tag bay
  | queryOperation ch tag target => exact takeQueryOperation_carries s ch tag target
  | queryStream ch tag => exact .of_mech rfl
  | queryMirror ch tag => exact .of_mech rfl
  | setup ch tag f => exact takeSetup_carries s ch tag f
  | prepare ch tag bay serial name => exact takePrepare_carries s ch tag bay serial name
  | ejectNormal ch tag bay level => exact takeEjectNormal_carries s ch tag bay level
  | ejectForced ch tag bay level => exact takeEjectForced_carries s ch tag bay level
  | setZones ch tag bay level zones => exact takeSetZones_carries s ch tag bay level zones
  | bind ch tag primary => exact takeBind_carries s ch tag primary
  | unbind ch tag => exact takeUnbind_carries s ch tag
  | openStream ch tag bay ring line pace marks => exact takeOpenStream_carries s ch tag bay ring line pace marks
  | setMarks ch tag marks => exact takeSetMarks_carries s ch tag marks
  | appendBand ch tag first length => exact takeAppendBand_carries s ch tag first length
  | startStream ch tag => exact takeStartStream_carries s ch tag
  | stopStream ch tag => exact takeStopStream_carries s ch tag
  | flushStream ch tag => exact takeFlushStream_carries s ch tag
  | closeStream ch tag => exact takeCloseStream_carries s ch tag
  | _ => exact .refl s

end

end Sys2Proof.Machine
end

section
/-! The events of the mechanisms, of the imagesetter and of the link that carry the cartridges over, and which rows do. -/

namespace Sys2Proof.Machine

variable {s t : State}

theorem Carries.of_next {u : State} (h : Carries s t)
    (e : (Host.Outcome.next t : Host.Outcome State Fault Refusal) = .next u) : Carries s u := by
  cases e
  exact h

theorem onLink_carries (h : Carries s t) : Carries s (onLink s t) := by
  unfold onLink
  split
  · exact .refl s
  · exact h

/-! ### The mechanisms -/

theorem execSpinUpCompletion_carries {b : Bay} (e : execSpinUpCompletion b s = .next t) : Carries s t := by
  unfold execSpinUpCompletion at e
  split at e
  · refine (Carries.conclude ?_).of_next e
    have h : Carries s (headHome b (s.mapMech b fun m => { m with spindle := .turning })) :=
      (Carries.of_same (s := s) (b := b) (f := fun m => { m with spindle := .turning }) (fun _ => rfl)
        fun _ => rfl).same_mech rfl
    unfold spinUpDone
    dsimp only
    split
    · exact (carries_concludes s).trigger_keeps b (h.trans (.of_same (fun _ => rfl) fun _ => rfl))
    · exact h
  · exact (Carries.refl s).of_next e

theorem faultBay_carries (b : Bay) (s : State) : Carries s (faultBay b s) := .of_mapMech (.inl rfl) (.to_none _)

theorem execSpinUpFailure_carries {b : Bay} (e : execSpinUpFailure b s = .next t) : Carries s t := by
  have k := carries_concludes s
  unfold execSpinUpFailure at e
  split at e
  · refine (Carries.conclude ?_).of_next e
    unfold spinUpFails
    split
    · exact k.raise _ _ _ (k.abandonAll_keeps b _ (k.unbindMirror_keeps true (k.haltByEject_keeps b (faultBay_carries b s))))
    · exact k.raise _ _ _ (faultBay_carries b s)
  · exact (Carries.refl s).of_next e

theorem execSpinDownTimerExpiry_carries {b : Bay} (e : execSpinDownTimerExpiry b s = .next t) : Carries s t := by
  have h : Carries s (rest b s) := .of_same (fun _ => rfl) fun _ => rfl
  unfold execSpinDownTimerExpiry at e
  split at e
  · exact h.conclude.of_next e
  · exact (Carries.refl s).of_next e

theorem execSpindleStop_carries {b : Bay} (e : execSpindleStop b s = .next t) : Carries s t := by
  unfold execSpindleStop at e
  split at e
  · rename_i h
    rw [Bool.and_eq_true] at h
    exact ((carries_concludes s).beginStop_keeps b (releaseHolds_ejecting h.1) (.refl s)).conclude.of_next e
  · exact (Carries.refl s).of_next e

theorem execStopCompletion_carries {b : Bay} (e : execStopCompletion b s = .next t) : Carries s t := by
  have h : Carries s (stopDone b s) := .of_same (fun _ => rfl) fun _ => rfl
  unfold execStopCompletion at e
  split at e
  · exact h.conclude.of_next e
  · exact (Carries.refl s).of_next e

theorem execRecordLeavesTable_carries {q : Nat} (e : execRecordLeavesTable q s = .next t) : Carries s t := by
  unfold execRecordLeavesTable at e
  split at e
  · exact (Carries.refl s).of_next e
  · split at e
    · exact ((carries_concludes s).leaveTable_keeps q (.refl s)).conclude.of_next e
    · exact (Carries.refl s).of_next e

theorem execDeferredCreation_carries (e : execDeferredCreation s = .next t) : Carries s t := by
  unfold execDeferredCreation at e
  split at e
  · exact (Carries.refl s).of_next e
  · rename_i u hu
    exact ((carries_concludes s).creationStep_keeps hu (.refl s)).conclude.of_next e

/-! ### The imagesetter -/

theorem lowTest_carries (h : Carries s t) : Carries s (lowTest t) := by
  unfold lowTest
  split
  · exact h
  · split
    · exact (carries_concludes s).raise _ _ _ ((carries_concludes s).stream _ _ h)
    · exact h

theorem answerLine_carries (x : Stream) (s : State) : Carries s (answerLine x s) := by
  have k := carries_concludes s
  have h := Carries.refl s
  unfold answerLine
  split
  · exact k.port _ _ h
  · split
    · exact k.port _ _ h
    · split
      · exact .of_mech rfl
      · split
        · exact lowTest_carries (k.port _ _ (k.tally _ _ (k.stream _ _ h)))
        · exact lowTest_carries (k.port _ _ (k.tally _ _ (k.stream _ _ h)))

theorem execLineRequest_carries (e : execLineRequest s = .next t) : Carries s t := by
  unfold execLineRequest at e
  split at e
  · exact ((carries_concludes s).port _ _ (.refl s)).of_next e
  · exact (answerLine_carries _ s).conclude.of_next e

theorem acceptBand_carries (x : Stream) (y : Band) (s : State) : Carries s (acceptBand x y s) := by
  have k := carries_concludes s
  have h := k.raise x.bay (.bandDone y.number 1) _ (k.tally (fun z => { z with bandsAccepted := z.bandsAccepted + 1 }) _
    (k.stream (some (withoutOldest y x)) s (.refl s)))
  unfold acceptBand afterAccept
  split
  · exact k.raise _ _ _ (k.setPhase_keeps _ h)
  · split
    · exact k.raise _ _ _ (k.setPhase_keeps _ h)
    · exact h

theorem execBandAccept_carries (e : execBandAccept s = .next t) : Carries s t := by
  have h : Carries s (ignoreAccept s) := (carries_concludes s).port _ _ (.refl s)
  unfold execBandAccept at e
  split at e
  · exact h.of_next e
  · split at e
    · exact h.of_next e
    · split at e
      · exact (acceptBand_carries _ _ s).conclude.of_next e
      · exact h.of_next e

theorem takeRepeat_carries (x : Stream) (s : State) : Carries s (takeRepeat x s) := by
  have k := carries_concludes s
  exact k.trigger_keeps _ (k.armingTest_keeps (k.tally _ _ (k.stream _ _ (.refl s))))

theorem execBandRepeat_carries (e : execBandRepeat s = .next t) : Carries s t := by
  have k := carries_concludes s
  have h : Carries s (ignoreRepeat s) := k.port _ _ (.refl s)
  unfold execBandRepeat at e
  split at e
  · exact h.of_next e
  · split at e
    · exact h.of_next e
    · split at e
      · exact (iteInduction (fun _ => takeRepeat_carries _ s)
          fun _ => lowTest_carries (k.stream _ _ (.refl s))).conclude.of_next e
      · exact h.of_next e

/-! ### The link -/

theorem checkFrame_carries (bytes : Data) (s : State) : Carries s (checkFrame bytes s) := by
  unfold checkFrame
  dsimp only
  split
  · exact .of_mech rfl
  · split
    · exact handOn_carries s _
    · exact .of_mech rfl

theorem takeBytes_carries (bytes : Data) (s : State) : Carries s (takeBytes bytes s) := by
  have h : ∀ x, Carries s (setAssembly x s) := fun _ => .of_mech rfl
  unfold takeBytes
  split
  · exact (h .discarding).same_mech rfl
  · split
    · exact (h .idle).trans (checkFrame_carries bytes _)
    · exact h _

theorem takeByte_carries (x : Byte) (s : State) : Carries s (takeByte x s) := by
  unfold takeByte
  split
  · exact .refl s
  · exact takeBytes_carries _ s
  · exact takeBytes_carries _ s

theorem execByteArrival_carries {x : Byte} (e : execByteArrival x s = .next t) : Carries s t := by
  unfold execByteArrival at e
  split at e
  · exact (Carries.refl s).of_next e
  · split at e
    · exact (Carries.of_mech (s := s) (t := withhold x s) rfl).of_next e
    · exact (takeByte_carries x s).of_next e

theorem execFirstByteTaken_carries (e : execFirstByteTaken s = .next t) : Carries s t := by
  unfold execFirstByteTaken at e
  split at e
  · exact (Carries.refl s).of_next e
  · split at e
    · exact (Carries.refl s).of_next e
    · exact ((Carries.of_mech (s := s) (t := s.mapLink fun l => { l with waiting := none }) rfl).trans
        (takeByte_carries _ _)).of_next e

theorem execIncompleteFrameTimeout_carries (e : execIncompleteFrameTimeout s = .next t) : Carries s t := by
  unfold execIncompleteFrameTimeout at e
  split at e
  · exact (Carries.of_mech (s := s) (t := setAssembly .idle s) rfl).of_next e
  · exact (Carries.refl s).of_next e

theorem execDiscardQuietTimeout_carries (e : execDiscardQuietTimeout s = .next t) : Carries s t := by
  unfold execDiscardQuietTimeout at e
  split at e
  · exact (Carries.of_mech (s := s) (t := setAssembly .idle s) rfl).of_next e
  · exact (Carries.refl s).of_next e

theorem frameSent_carries (f : Outbound) (s : State) : Carries s (frameSent f s) := by
  have h : Carries s (s.mapLink fun l => { l with sending := none }) := .of_mech rfl
  unfold frameSent
  dsimp only
  split
  · exact h
  · split
    · unfold giveUpSent
      split
      · exact h
      · exact (carries_concludes s).dropUnqueued_keeps _ _ h
    · exact h

theorem execFrameSent_carries (e : execFrameSent s = .next t) : Carries s t := by
  unfold execFrameSent at e
  split at e
  · exact (Carries.refl s).of_next e
  · exact (frameSent_carries _ s).conclude.of_next e

theorem execLinkResetLineAsserted_carries (e : execLinkResetLineAsserted s = .next t) : Carries s t := by
  unfold execLinkResetLineAsserted at e
  split at e
  · exact (Carries.refl s).of_next e
  · exact ((controllerReset_carries s).same_mech (u := setResetLine true (controllerReset s)) rfl).conclude.of_next e

/-! ### Rows -/

/-- The rows that bring a cartridge, mount one, act on its surface, or complete a pass on it. -/
def meetsCartridge : Instr → Bool
  | .powerOnReset _ => true
  | .cartridgeInsertion _ _ => true
  | .mountReadCompletion _ _ => true
  | .passCompletion _ _ => true
  | .mediumSectorChange _ _ _ _ => true
  | _ => false

/-- Every other row carries the cartridges over. -/
theorem exec_carries {i : Instr} (h : meetsCartridge i = false) (e : exec i s = .next t) : Carries s t := by
  cases i with
  | powerOnReset cut => exact nomatch h
  | cartridgeInsertion b m => exact nomatch h
  | mountReadCompletion b fails => exact nomatch h
  | passCompletion b rs => exact nomatch h
  | mediumSectorChange b track place change => exact nomatch h
  | reset ch tag => exact (onLink_carries (takeReset_carries s ch tag)).of_next e
  | linkResetLineAsserted => exact execLinkResetLineAsserted_carries e
  | linkResetLineReleased => exact (Carries.of_mech (s := s) (t := selectNext (setResetLine false s)) rfl).of_next e
  | byteArrival x => exact execByteArrival_carries e
  | firstByteTaken => exact execFirstByteTaken_carries e
  | incompleteFrameTimeout => exact execIncompleteFrameTimeout_carries e
  | discardQuietTimeout => exact execDiscardQuietTimeout_carries e
  | read ch tag bay first count level =>
    exact (onLink_carries (takeRead_carries s ch tag bay first count level)).of_next e
  | write ch tag bay first count level =>
    exact (onLink_carries (takeWrite_carries s ch tag bay first count level)).of_next e
  | sector ch tag index status data =>
    exact (onLink_carries (takeSector_carries s ch tag index status data)).of_next e
  | cancel ch tag target => exact (onLink_carries (takeCancel_carries s ch tag target)).of_next e
  | queryDevice ch tag => exact (onLink_carries (Carries.of_mech (s := s) (t := takeQueryDevice ch tag s) rfl)).of_next e
  | queryBay ch tag bay => exact (onLink_carries (takeQueryBay_carries s ch tag bay)).of_next e
  | queryOperation ch tag target => exact (onLink_carries (takeQueryOperation_carries s ch tag target)).of_next e
  | queryStream ch tag => exact (onLink_carries (Carries.of_mech (s := s) (t := takeQueryStream ch tag s) rfl)).of_next e
  | queryMirror ch tag => exact (onLink_carries (Carries.of_mech (s := s) (t := takeQueryMirror ch tag s) rfl)).of_next e
  | setup ch tag f => exact (onLink_carries (takeSetup_carries s ch tag f)).of_next e
  | prepare ch tag bay serial name => exact (onLink_carries (takePrepare_carries s ch tag bay serial name)).of_next e
  | ejectNormal ch tag bay level => exact (onLink_carries (takeEjectNormal_carries s ch tag bay level)).of_next e
  | ejectForced ch tag bay level => exact (onLink_carries (takeEjectForced_carries s ch tag bay level)).of_next e
  | setZones ch tag bay level zones => exact (onLink_carries (takeSetZones_carries s ch tag bay level zones)).of_next e
  | bind ch tag primary => exact (onLink_carries (takeBind_carries s ch tag primary)).of_next e
  | unbind ch tag => exact (onLink_carries (takeUnbind_carries s ch tag)).of_next e
  | openStream ch tag bay ring line pace marks =>
    exact (onLink_carries (takeOpenStream_carries s ch tag bay ring line pace marks)).of_next e
  | setMarks ch tag marks => exact (onLink_carries (takeSetMarks_carries s ch tag marks)).of_next e
  | appendBand ch tag first length => exact (onLink_carries (takeAppendBand_carries s ch tag first length)).of_next e
  | startStream ch tag => exact (onLink_carries (takeStartStream_carries s ch tag)).of_next e
  | stopStream ch tag => exact (onLink_carries (takeStopStream_carries s ch tag)).of_next e
  | flushStream ch tag => exact (onLink_carries (takeFlushStream_carries s ch tag)).of_next e
  | closeStream ch tag => exact (onLink_carries (takeCloseStream_carries s ch tag)).of_next e
  | spinUpCompletion b => exact execSpinUpCompletion_carries e
  | spinUpFailure b => exact execSpinUpFailure_carries e
  | spinDownTimerExpiry b => exact execSpinDownTimerExpiry_carries e
  | spindleStop b => exact execSpindleStop_carries e
  | stopCompletion b => exact execStopCompletion_carries e
  | recordLeavesTable q => exact execRecordLeavesTable_carries e
  | deferredCreation => exact execDeferredCreation_carries e
  | frameSent => exact execFrameSent_carries e
  | lineRequest => exact execLineRequest_carries e
  | bandAccept => exact execBandAccept_carries e
  | bandRepeat => exact execBandRepeat_carries e

end Sys2Proof.Machine
end

section
/-! The laws of the cartridges, kept by every step: the Defect Maps (R111, R115), the surfaces (R4 to R6, R8) and the spares
(R113). -/

namespace Sys2Proof.Machine

/-! ### Steps -/

/-- A property that every command keeps, and that says nothing of the queue, is kept by every step. -/
theorem step_keeps {P : State → Prop} (hq : ∀ s q, P s → P (s.withPending q))
    (he : ∀ i s t, P s → exec i s = .next t → P t) {s t : State} (h : P s) (e : step s = .next t) : P t := by
  unfold step at e
  split at e
  · cases e
    exact h
  · exact he _ _ _ (hq s _ h) e

/-! ### Entries put in order -/

theorem mem_putEntry {n x : Nat} {e : Nat × Nat} {l : List (Nat × Nat)} (h : e ∈ putEntry n x l) :
    e = (n, x) ∨ e ∈ l := by
  induction l with
  | nil => simpa [putEntry] using h
  | cons a l ih =>
    unfold putEntry at h
    split at h
    · simpa using h
    · split at h
      · rcases List.mem_cons.1 h with h | h
        · exact .inl h
        · exact .inr (List.mem_cons_of_mem _ h)
      · rcases List.mem_cons.1 h with rfl | h
        · exact .inr List.mem_cons_self
        · exact (ih h).imp_right (List.mem_cons_of_mem _)

theorem ascending_cons {e : Nat × Nat} {l : List (Nat × Nat)} :
    ascending (e :: l) = true ↔ (∀ f ∈ l, e.1 < f.1) ∧ ascending l = true := by
  simp only [ascending, Bool.and_eq_true, List.all_eq_true, decide_eq_true_eq]

/-- An entry put in its place keeps the order (R115). -/
theorem ascending_putEntry (n x : Nat) {l : List (Nat × Nat)} (h : ascending l = true) :
    ascending (putEntry n x l) = true := by
  induction l with
  | nil => rfl
  | cons a l ih =>
    rw [ascending_cons] at h
    unfold putEntry
    split
    · rename_i hn
      refine ascending_cons.2 ⟨fun f hf => ?_, ascending_cons.2 h⟩
      rcases List.mem_cons.1 hf with rfl | hf
      · exact hn
      · exact Nat.lt_trans hn (h.1 f hf)
    · split
      · rename_i hn
        exact ascending_cons.2 ⟨fun f hf => hn ▸ h.1 f hf, h.2⟩
      · refine ascending_cons.2 ⟨fun f hf => ?_, ih h.2⟩
        rcases mem_putEntry hf with rfl | hf
        · show a.1 < n
          omega
        · exact h.1 f hf

theorem putEntry_length_le (n x : Nat) (l : List (Nat × Nat)) : (putEntry n x l).length ≤ l.length + 1 := by
  induction l with
  | nil => simp [putEntry]
  | cons a l ih =>
    unfold putEntry
    split
    · simp
    · split <;> simp
      omega

/-- An entry that replaces one takes no further place (R115). -/
theorem putEntry_length_of_entry (n x : Nat) {l : List (Nat × Nat)} (h : ascending l = true)
    (he : (l.any fun e => decide (e.1 = n)) = true) : (putEntry n x l).length = l.length := by
  induction l with
  | nil => exact nomatch he
  | cons a l ih =>
    rw [ascending_cons] at h
    simp only [List.any_cons, Bool.or_eq_true, decide_eq_true_eq] at he
    unfold putEntry
    split
    · rename_i hn
      rcases he with he | he
      · omega
      · simp only [List.any_eq_true, decide_eq_true_eq] at he
        obtain ⟨f, hf, rfl⟩ := he
        exact absurd (h.1 f hf) (by omega)
    · split
      · rfl
      · rename_i hn
        rcases he with he | he
        · exact absurd he.symm hn
        · simp [ih h.2 he]

theorem mapKept_iff {m : DefectMap} :
    mapKept m = true ↔
      m.entries.length ≤ Config.maxEntries ∧ ascending m.entries = true ∧ m.cursor ≤ Config.spares := by
  simp [mapKept, and_assoc]

/-- Recording a move for which the map has a place keeps the map's law (R111, R115). -/
theorem mapKept_putEntry {m : DefectMap} (n x : Nat) (h : mapKept m = true)
    (hr : m.entries.length < Config.maxEntries ∨ hasEntry m n = true) :
    mapKept { m with entries := putEntry n x m.entries, dirty := true } = true := by
  obtain ⟨hl, ha, hc⟩ := mapKept_iff.1 h
  refine mapKept_iff.2 ⟨?_, ascending_putEntry n x ha, hc⟩
  rcases hr with hr | hr
  · exact Nat.le_trans (putEntry_length_le n x _) hr
  · exact Nat.le_trans (Nat.le_of_eq (putEntry_length_of_entry n x ha hr)) hl

/-! ### Spares -/

theorem sparesDistinct_cons {e : Nat × Nat} {l : List (Nat × Nat)} :
    sparesDistinct (e :: l) = true ↔ (∀ f ∈ l, f.2 ≠ e.2) ∧ sparesDistinct l = true := by
  simp only [sparesDistinct, Bool.and_eq_true, List.all_eq_true, decide_eq_true_eq]

/-- A spare that no entry names is named once when it is recorded (R115). -/
theorem sparesDistinct_putEntry (n : Nat) {x : Nat} {l : List (Nat × Nat)} (h : sparesDistinct l = true)
    (hx : ∀ e ∈ l, e.2 ≠ x) : sparesDistinct (putEntry n x l) = true := by
  induction l with
  | nil => rfl
  | cons a l ih =>
    have hl : ∀ e ∈ l, e.2 ≠ x := fun e he => hx e (List.mem_cons_of_mem _ he)
    unfold putEntry
    split
    · exact sparesDistinct_cons.2 ⟨hx, h⟩
    · rw [sparesDistinct_cons] at h
      split
      · exact sparesDistinct_cons.2 ⟨hl, h.2⟩
      · refine sparesDistinct_cons.2 ⟨fun f hf => ?_, ih h.2 hl⟩
        rcases mem_putEntry hf with rfl | hf
        · exact (hx a List.mem_cons_self).symm
        · exact h.1 f hf

theorem sparesKept_iff {m : DefectMap} :
    sparesKept m = true ↔ (∀ e ∈ m.entries, e.2 < m.cursor) ∧ sparesDistinct m.entries = true := by
  simp [sparesKept]

theorem sparesKept_putEntry {m : DefectMap} (n : Nat) {x : Nat} (h : sparesKept m = true) (hx : x < m.cursor)
    (hn : ∀ e ∈ m.entries, e.2 ≠ x) : sparesKept { m with entries := putEntry n x m.entries } = true := by
  obtain ⟨hc, hd⟩ := sparesKept_iff.1 h
  refine sparesKept_iff.2 ⟨fun e he => ?_, sparesDistinct_putEntry n hd hn⟩
  rcases mem_putEntry he with rfl | he
  · exact hx
  · exact hc e he

/-! ### What a mount reads -/

/-- A label track classed as sound records a map that R16 finds sound. -/
theorem classOf_sound {found : List Found} {l : Label} {zs : List Zone} {m : DefectMap}
    (h : classOf found = .sound l zs m) : mapSound m = true := by
  unfold classOf at h
  split at h
  · exact nomatch h
  · unfold classOfData at h
    dsimp only at h
    split at h
    · rename_i hc
      cases h
      rw [Bool.and_eq_true] at hc
      exact hc.2
    · exact nomatch h
  · exact nomatch h

theorem ascending_of_entriesAscend {l : List (Nat × Nat)} (h : entriesAscend l = true) : ascending l = true := by
  induction l with
  | nil => rfl
  | cons e l ih =>
    cases l with
    | nil => rfl
    | cons f l =>
      simp only [entriesAscend, Bool.and_eq_true, decide_eq_true_eq] at h
      have hl := ih h.2
      refine ascending_cons.2 ⟨fun g hg => ?_, hl⟩
      rcases List.mem_cons.1 hg with rfl | hg
      · exact h.1
      · exact Nat.lt_trans h.1 ((ascending_cons.1 hl).1 g hg)

theorem mapSound_iff {m : DefectMap} :
    mapSound m = true ↔ m.entries.length ≤ Config.maxEntries ∧ m.cursor ≤ Config.spares ∧
      entriesAscend m.entries = true ∧ (∀ e ∈ m.entries, e.2 < m.cursor) ∧ sparesDistinct m.entries = true := by
  simp [mapSound, and_assoc]

theorem mapKept_of_sound {m : DefectMap} (h : mapSound m = true) : mapKept m = true := by
  obtain ⟨hl, hc, ha, _, _⟩ := mapSound_iff.1 h
  exact mapKept_iff.2 ⟨hl, ascending_of_entriesAscend ha, hc⟩

theorem sparesKept_of_sound {m : DefectMap} (h : mapSound m = true) : sparesKept m = true := by
  obtain ⟨_, _, _, hs, hd⟩ := mapSound_iff.1 h
  exact sparesKept_iff.2 ⟨hs, hd⟩

/-! ### Laws of the maps held -/

/-- Every map held is one of these. -/
def MapsAre (Q : DefectMap → Prop) (s : State) : Prop := ∀ b m, (s.mechOf b).map = some m → Q m

/-- A property of Defect Maps that holds of an empty map and of a sound one, and stays while the entries do and the cursor
moves up within the spares. -/
structure MapRule (Q : DefectMap → Prop) : Prop where
  follows : ∀ d d' : DefectMap, d'.entries = d.entries → d.cursor ≤ d'.cursor →
    (d'.cursor = d.cursor ∨ d'.cursor ≤ Config.spares) → Q d → Q d'
  empty : Q emptyMap
  sound : ∀ m, mapSound m = true → Q m

theorem mapLaw_rule : MapRule fun m => mapKept m = true where
  follows d d' he _ hl h := by
    obtain ⟨hn, ha, hc⟩ := mapKept_iff.1 h
    exact mapKept_iff.2 ⟨he ▸ hn, he ▸ ha, by omega⟩
  empty := by decide
  sound _ := mapKept_of_sound

theorem spareLaw_rule : MapRule fun m => sparesKept m = true where
  follows d d' he hc _ h := by
    obtain ⟨hs, hd⟩ := sparesKept_iff.1 h
    exact sparesKept_iff.2 ⟨fun e hm => Nat.lt_of_lt_of_le (hs e (he ▸ hm)) hc, he ▸ hd⟩
  empty := by decide
  sound _ := sparesKept_of_sound

section
variable {Q : DefectMap → Prop} (k : MapRule Q) {s t : State}

/-- A change of one bay's mechanism, where the map it then holds is one of these. -/
theorem MapsAre.mapMech {b : Bay} {f : Mech → Mech} (h : MapsAre Q s)
    (hf : ∀ m, (f (s.mechOf b)).map = some m → Q m) : MapsAre Q (s.mapMech b f) := by
  intro c m hm
  rw [mechOf_mapMech] at hm
  split at hm
  · exact hf m hm
  · exact h c m hm

include k

theorem MapRule.carried (hc : Carries s t) (h : MapsAre Q s) : MapsAre Q t := by
  intro b d' hd'
  obtain ⟨d, hd, he, hcur, hlim⟩ := hc.map b d' hd'
  exact k.follows d d' he hcur hlim (h b d hd)

theorem MapRule.labels : Labels (MapsAre Q) where
  toQuiet := (Concludes.of_carried k.carried).toQuiet
  succeeds _ _ _ _ h := h.mapMech fun _ hm => by
    cases hm
    exact k.empty
  zones b _ _ h := h.mapMech fun m hm => h b m hm
  inhibits b _ h := h.mapMech fun m hm => h b m hm

theorem MapRule.mountDone (b : Bay) (found : List Found) (h : MapsAre Q s) : MapsAre Q (mountDone b found s) := by
  have h1 : MapsAre Q (s.mapMech b fun m => mountMech (classOf found) { m with buffer := found.map bufferOf }) := by
    refine h.mapMech fun m hm => ?_
    unfold mountMech at hm
    split at hm
    · exact h b m hm
    · exact h b m hm
    · rename_i hs
      cases hm
      exact k.sound _ (classOf_sound hs)
  unfold Machine.mountDone
  dsimp only
  split
  · exact h1
  · exact h1

/-- Every command but a pass completion keeps the maps such. -/
theorem MapRule.exec_keeps {i : Instr} (hi : ∀ b rs, i ≠ .passCompletion b rs) (h : MapsAre Q s)
    (e : exec i s = .next t) : MapsAre Q t := by
  have conclude_keeps : ∀ u, MapsAre Q u → MapsAre Q (conclude u) := fun u => k.carried (conclude_carries u)
  by_cases hc : meetsCartridge i = false
  · exact k.carried (exec_carries hc e) h
  cases i with
  | powerOnReset cut =>
    cases e
    intro b m hm
    cases b <;> simp only [powerOn, State.mechOf, Two.get, powerMech] at hm <;> split at hm <;> exact nomatch hm
  | cartridgeInsertion b m =>
    simp only [exec, execCartridgeInsertion] at e
    split at e <;> cases e
    · exact conclude_keeps _ (MapsAre.mapMech h fun m hm => h b m hm)
    · exact h
  | mountReadCompletion b fails =>
    simp only [exec, execMountReadCompletion] at e
    split at e <;> cases e
    · exact conclude_keeps _ (k.mountDone b _ h)
    · exact h
  | passCompletion b rs => exact absurd rfl (hi b rs)
  | mediumSectorChange b track place change =>
    simp only [exec, execMediumSectorChange] at e
    split at e <;> cases e
    · exact h.mapMech fun m hm => h b m hm
    · exact h
  | _ => exact absurd rfl hc

end

/-! ### Pass completions -/

/-- The state in which a completed pass's owner takes its outcomes: the pass gone, the head on its track, and its effect
on the medium. -/
def passDone (b : Bay) (p : Pass) (rs : List SectorResponse) (s : State) : State :=
  (s.mapSched b fun c => { c with pass := none, head := p.track }).mapMech b
    fun k => { k with medium := k.medium.map (mediumAfter p rs) }

/-- A completion with a pass in flight: its owner takes its outcomes, and the bay is triggered (R78). -/
theorem completePass_of_pass {b : Bay} {p : Pass} {s : State} (rs : List SectorResponse)
    (h : (s.schedOf b).pass = some p) :
    completePass b rs s = trigger b (handOutcomes b p rs ((s.mechOf b).medium.getD []) (passDone b p rs s)) := by
  simp only [completePass, h]
  rfl

/-- A command of a pass completion keeps what the completion and what follows keep. -/
theorem execPassCompletion_keeps {P : State → Prop} (k : Concludes P) {b : Bay} {rs : List SectorResponse} {s t : State}
    (hp : ∀ p, (s.schedOf b).pass = some p →
      P (handOutcomes b p rs ((s.mechOf b).medium.getD []) (passDone b p rs s)))
    (h : P s) (e : exec (.passCompletion b rs) s = .next t) : P t := by
  simp only [exec, execPassCompletion] at e
  split at e <;> cases e
  · rename_i hf
    obtain ⟨p, hs⟩ := Option.isSome_iff_exists.1 hf
    rw [completePass_of_pass rs hs]
    exact k.conclude_keeps (k.trigger_keeps b (hp p hs))
  · exact h

theorem MapsAre.passDone {Q : DefectMap → Prop} {s : State} (b : Bay) (p : Pass) (rs : List SectorResponse)
    (h : MapsAre Q s) : MapsAre Q (passDone b p rs s) :=
  MapsAre.mapMech (s := s.mapSched b fun c => { c with pass := none, head := p.track }) h fun m hm => h b m hm

/-- Every step keeps each Defect Map within its law (R111). -/
theorem mapLaw_step {s t : State} (h : mapLaw s) (e : step s = .next t) : mapLaw t := by
  have k : Completes mapLaw :=
    { mapLaw_rule.labels with
      entry := fun b n x s hr h => MapsAre.mapMech h fun m hm => by
        obtain ⟨d, hd, rfl⟩ := Option.map_eq_some_iff.1 hm
        exact mapKept_putEntry n x (h b d hd) (hr d hd) }
  refine step_keeps (P := mapLaw) (fun _ _ h => h) (fun i s t h e => ?_) h e
  by_cases hi : ∃ b rs, i = .passCompletion b rs
  · obtain ⟨b, rs, rfl⟩ := hi
    exact execPassCompletion_keeps (Concludes.of_carried mapLaw_rule.carried)
      (fun p _ => k.handOutcomes_keeps b p rs _ (MapsAre.passDone b p rs h)) h e
  · exact mapLaw_rule.exec_keeps (fun b rs hc => hi ⟨b, rs, hc⟩) h e

/-! ### Surfaces -/

theorem mediumLaw_carried {s t : State} (hc : Carries s t) (h : mediumLaw s) : mediumLaw t := by
  intro b m hm
  rcases hc.medium b with hb | hb
  · exact h b m (hb ▸ hm)
  · rw [hb] at hm
    exact nomatch hm

/-- A change of one bay's mechanism, where the surface it then has is canonical. -/
theorem mediumLaw_mapMech {s : State} {b : Bay} {f : Mech → Mech} (h : mediumLaw s)
    (hf : ∀ m, (f (s.mechOf b)).medium = some m → surfaceWf m = true) : mediumLaw (s.mapMech b f) := by
  intro c m hm
  rw [mechOf_mapMech] at hm
  split at hm
  · exact hf m hm
  · exact h c m hm

theorem mediumLaw_completes : Completes mediumLaw where
  toQuiet := (Concludes.of_carried mediumLaw_carried).toQuiet
  succeeds b _ _ _ h := mediumLaw_mapMech h fun m hm => h b m hm
  zones b _ _ h := mediumLaw_mapMech h fun m hm => h b m hm
  inhibits b _ h := mediumLaw_mapMech h fun m hm => h b m hm
  entry b _ _ _ _ h := mediumLaw_mapMech h fun m hm => h b m hm

theorem mediumLaw_powerOn (cut : Two Cut) {s : State} (h : mediumLaw s) : mediumLaw (powerOn cut s) := by
  have key : ∀ b c m, (powerMech (s.mechOf b) (s.schedOf b).pass c).medium = some m → surfaceWf m = true := by
    intro b c m hm
    unfold powerMech at hm
    split at hm
    · exact nomatch hm
    · rename_i x hx
      cases hm
      split
      · exact cutMedium_wf _ _ (h b x hx)
      · exact h b x hx
  intro b m hm
  cases b with
  | A => exact key .A _ m hm
  | B => exact key .B _ m hm

theorem mountMech_medium (c : TrackClass) (m : Mech) : (mountMech c m).medium = m.medium := by
  unfold mountMech
  split <;> rfl

/-- Every step keeps each surface in canonical form (log entry 6). -/
theorem mediumLaw_step {s t : State} (h : mediumLaw s) (e : step s = .next t) : mediumLaw t := by
  refine step_keeps (P := mediumLaw) (fun _ _ h => h) (fun i s t h e => ?_) h e
  have conclude_keeps : ∀ u, mediumLaw u → mediumLaw (conclude u) := fun u => mediumLaw_carried (conclude_carries u)
  by_cases hc : meetsCartridge i = false
  · exact mediumLaw_carried (exec_carries hc e) h
  cases i with
  | powerOnReset cut =>
    cases e
    exact mediumLaw_powerOn cut h
  | cartridgeInsertion b m =>
    simp only [exec, execCartridgeInsertion] at e
    split at e <;> cases e
    · refine conclude_keeps _ (mediumLaw_mapMech h fun m' hm => ?_)
      cases hm
      exact surfaceOf_wf m
    · exact h
  | mountReadCompletion b fails =>
    simp only [exec, execMountReadCompletion] at e
    split at e <;> cases e
    · refine conclude_keeps _ ?_
      have h1 : mediumLaw (s.mapMech b fun m => mountMech (classOf (mountFound ((s.mechOf b).medium.getD []) fails))
          { m with buffer := (mountFound ((s.mechOf b).medium.getD []) fails).map bufferOf }) :=
        mediumLaw_mapMech h fun m hm => h b m (by rwa [mountMech_medium] at hm)
      unfold mountDone
      dsimp only
      split
      · exact h1
      · exact h1
    · exact h
  | passCompletion b rs =>
    refine execPassCompletion_keeps (Concludes.of_carried mediumLaw_carried)
      (fun p _ => mediumLaw_completes.handOutcomes_keeps b p rs _ ?_) h e
    refine mediumLaw_mapMech (s := s.mapSched b fun c => { c with pass := none, head := p.track }) h fun m hm => ?_
    obtain ⟨d, hd, rfl⟩ := Option.map_eq_some_iff.1 hm
    exact mediumAfter_wf p rs (h b d hd)
  | mediumSectorChange b track place change =>
    simp only [exec, execMediumSectorChange] at e
    split at e <;> cases e
    · refine mediumLaw_mapMech h fun m hm => ?_
      obtain ⟨d, hd, rfl⟩ := Option.map_eq_some_iff.1 hm
      exact setCondition_wf _ _ (h b d hd)
    · exact h
  | _ => exact absurd rfl hc

/-! ### A record found stays the request it is -/

theorem rec?_map (s : State) (q : Nat) {f : Rec → Rec} (hf : ∀ r, SameAsk r (f r)) :
    (s.withRecs (s.recs.map f)).rec? q = (s.rec? q).map f := by
  simp only [State.rec?, State.withRecs_recs, List.find?_map]
  congr 1
  refine congrArg (List.find? · s.recs) (funext fun r => ?_)
  simp [(hf r).seq]

/-- A property of the table alone that changes of records and new records keep. -/
theorem Quiet.of_recs {R : List Rec → Prop} (hmap : ∀ (f : Rec → Rec) l, (∀ r, SameAsk r (f r)) → R l → R (l.map f))
    (hnew : ∀ (r : Rec) l, r.kind.internal = true → R l → R (l ++ [r])) : Quiet fun s => R s.recs where
  sched _ _ _ _ h := h
  slots _ _ _ h := h
  recs f _ hf h := hmap f _ hf h
  create r s hr h := hnew { r with seq := s.nextSeq } _ hr h
  stream _ _ h := h
  tally _ _ h := h
  port _ _ h := h
  mirror _ _ h := h
  reply _ _ _ _ _ h := h
  raise _ _ _ h := h
  wake _ _ h := h
  map _ _ _ _ h := h
  damages _ _ _ h := h

/-- Within one event a record stays the request it is. -/
theorem Quiet.asked (q : Nat) (r : Rec) : Quiet fun s => ∃ r', s.rec? q = some r' ∧ SameAsk r r' := by
  refine Quiet.of_recs (R := fun l => ∃ r', l.find? (fun x => decide (x.seq = q)) = some r' ∧ SameAsk r r')
    (fun f l hf h => ?_) fun n l _ h => ?_
  · obtain ⟨r', hr, ha⟩ := h
    have hf' := hf r'
    have hseq : ((fun x : Rec => decide (x.seq = q)) ∘ f) = fun x => decide (x.seq = q) := by
      funext x
      simp [(hf x).seq]
    refine ⟨f r', by rw [List.find?_map, hseq, hr]; rfl, ?_⟩
    exact ⟨hf'.seq.trans ha.seq, hf'.kind.trans ha.kind, hf'.link.trans ha.link, hf'.bay.trans ha.bay,
      hf'.level.trans ha.level, hf'.first.trans ha.first, hf'.count.trans ha.count⟩
  · obtain ⟨r', hr, ha⟩ := h
    exact ⟨r', by rw [List.find?_append, hr]; rfl, ha⟩

/-! ### Spares recorded -/

theorem flagRecord_mech (q : Nat) (f : Flags → Flags) (s : State) : (flagRecord q f s).mech = s.mech := by
  unfold flagRecord
  split
  · rfl
  · dsimp only
    split
    · exact foldl_keeps (P := fun t => t.mech = s.mech) (f := fun t p => t.mapRec p (Rec.flag · f)) (fun _ _ h => h) _ _ rfl
    · rfl

theorem noteTries_mech (q n : Nat) (s : State) : (noteTries q n s).mech = s.mech := by
  unfold noteTries
  split
  · exact flagRecord_mech q _ s
  · rfl

/-- Without its record a relocation's VERIFY settles nothing. -/
theorem settleSectors_of_no_rec {q : Nat} {p : Pass} (rs : List SectorResponse) (m : Medium) (is : List Nat) (j : Nat)
    {s : State} (ha : p.action = .verify) (hr : p.relocation = true) (h : s.rec? q = none) :
    settleSectors q p rs m j is s = s := by
  induction is generalizing j with
  | nil => rfl
  | cons i is ih =>
    have : settleSector q p rs m j i s = s := by simp [settleSector, ha, hr, settleTryVerify, h]
    rw [settleSectors, this]
    exact ih (j + 1)

section
variable {q : Nat} {p : Pass} {s : State} {r : Rec}

/-- Within one event a bay with no map is given none. -/
theorem no_map_quiet (b : Bay) : Quiet fun t => (t.mechOf b).map = none :=
  (Concludes.of_carried fun {_ t} hc h => by
    rcases ht : (t.mechOf b).map with _ | d
    · rfl
    · obtain ⟨d', hd', _⟩ := hc.map b d ht
      rw [h] at hd'
      exact nomatch hd').toQuiet

/-- On a bay with no map a relocation's VERIFY records nothing (R113). -/
theorem spareLaw_sectors_no_map (rs : List SectorResponse) (m : Medium) (hr : s.rec? q = some r)
    (hm : (s.mechOf r.bay).map = none) (h : spareLaw s) : spareLaw (settleSectors q p rs m 0 p.items s) := by
  have k : Quiet fun t => MapsAre (fun m => sparesKept m = true) t ∧
      (t.mechOf r.bay).map = none ∧ ∃ r', t.rec? q = some r' ∧ SameAsk r r' :=
    spareLaw_rule.labels.toQuiet.and ((no_map_quiet r.bay).and (.asked q r))
  refine (k.settleSectors_keep q p rs m p.items 0 (fun i j t ht _ _ => ?_) ⟨h, hm, r, hr, .refl r⟩).1
  refine k.settleTryVerify_keeps q i _ _ (fun _ t' n _ _ => ?_) ht
  have hn := k.noteTries_keeps q n ht
  refine k.recordMove_keeps q i _ (fun r1 d hr1 hd _ => ?_) hn
  obtain ⟨_, hnone, r', hr', ha⟩ := hn
  rw [hr1] at hr'
  cases hr'
  rw [ha.bay, hnone] at hd
  exact nomatch hd

/-- The recording of a spare that was assigned and is not yet named keeps the spares distinct (R113, R115). -/
theorem spareLaw_tried {i : Nat} {d : DefectMap} (found : Found) (bytes : Data) (hr : s.rec? q = some r)
    (hd : (s.mechOf r.bay).map = some d)
    (ht : ∀ t, r.try? i = some t → ∃ x, t.spare = some x ∧ x < d.cursor ∧ ∀ e ∈ d.entries, e.2 ≠ x)
    (h : spareLaw s) : spareLaw (settleTryVerify q i found bytes s) := by
  have k : Quiet spareLaw := spareLaw_rule.labels.toQuiet
  refine k.settleTryVerify_keeps q i found bytes (fun r0 t n hr0 ht0 => ?_) h
  have h1 : spareLaw (noteTries q n s) := k.noteTries_keeps q n h
  rw [hr] at hr0
  cases hr0
  obtain ⟨x, hx, hlt, hne⟩ := ht t ht0
  refine k.recordMove_keeps q i _ (fun r1 d1 hr1 hd1 _ => ?_) h1
  obtain ⟨r', hr', ha⟩ := (Quiet.asked q r).noteTries_keeps q n ⟨r, hr, .refl r⟩
  rw [hr1] at hr'
  cases hr'
  have hdd : d1 = d := by
    have := hd1
    rw [ha.bay, State.mechOf, noteTries_mech] at this
    exact Option.some.inj (this.symm.trans hd)
  subst hdd
  refine MapsAre.mapMech h1 fun m hm => ?_
  obtain ⟨d2, hd2, rfl⟩ := Option.map_eq_some_iff.1 hm
  rw [hd1] at hd2
  cases hd2
  rw [hx]
  exact sparesKept_putEntry (m := { d1 with dirty := true }) _ (h1 r1.bay d1 hd1) hlt hne

end

/-- A pass completion keeps the spares distinct, where a relocation's VERIFY is of a spare so assigned (R113, R114). -/
theorem spareLaw_handOutcomes {b : Bay} {p : Pass} {s : State} (rs : List SectorResponse) (m : Medium)
    (h : spareLaw s) (ht : triedLaw s) (hp : (s.schedOf b).pass = some p) :
    spareLaw (handOutcomes b p rs m (passDone b p rs s)) := by
  have k : Labels spareLaw := spareLaw_rule.labels
  have h1 : spareLaw (passDone b p rs s) := MapsAre.passDone b p rs h
  refine k.handOutcomes_keeps b p rs m (fun q ho => ?_) h1
  by_cases hv : p.action = .verify ∧ p.relocation = true
  · obtain ⟨ha, hrel⟩ := hv
    rcases hr : (passDone b p rs s).rec? q with _ | r
    · rw [settleSectors_of_no_rec rs m p.items 0 ha hrel hr]
      exact h1
    · rcases hd : ((passDone b p rs s).mechOf r.bay).map with _ | d
      · exact spareLaw_sectors_no_map rs m hr hd h1
      · have hd' : (s.mechOf r.bay).map = some d := by
          rw [passDone, mechOf_mapMech] at hd
          split at hd
          · rename_i e
            rw [e]
            exact hd
          · exact hd
        obtain ⟨i, hi, htry⟩ := ht b p q r d hp hrel ha ho hr hd'
        have hs : settleSectors q p rs m 0 p.items (passDone b p rs s) =
            settleTryVerify q i (foundAt (passDone b p rs s) p rs m 0 i) (p.data.getD 0 []) (passDone b p rs s) := by
          simp [hi, settleSectors, settleSector, ha, hrel]
        rw [hs]
        exact spareLaw_tried _ _ hr hd htry h1
  · exact k.toQuiet.settleSectors_keep q p rs m p.items 0 (fun _ _ _ _ ha hrel => absurd ⟨ha, hrel⟩ hv) h1

/-- Every step keeps the spares of each map's entries distinct, where a relocation's VERIFY in flight is of a spare so
assigned (R111, R113). -/
theorem spareLaw_step {s t : State} (h : spareLaw s) (ht : triedLaw s) (e : step s = .next t) : spareLaw t := by
  unfold step at e
  split at e
  · cases e
    exact h
  · rename_i i rest _
    by_cases hi : ∃ b rs, i = .passCompletion b rs
    · obtain ⟨b, rs, rfl⟩ := hi
      exact execPassCompletion_keeps (s := s.withPending rest) (Concludes.of_carried spareLaw_rule.carried)
        (fun p hp => spareLaw_handOutcomes rs _ h ht hp) h e
    · exact spareLaw_rule.exec_keeps (s := s.withPending rest) (fun b rs hc => hi ⟨b, rs, hc⟩) h e

end Sys2Proof.Machine

namespace Sys2Proof.Cartridge

open Machine

/-- Settles O48: what follows a command carries the cartridges over, so that each law is kept by the five rows that meet
one and by the recording of a move. -/
theorem cartridgeLawsKept : Obligations.CartridgeLawsKept := by
  refine ⟨fun s t => mapLaw_step, fun s t => mediumLaw_step, fun s t => spareLaw_step,
    fun m n x h hx hn => sparesKept_putEntry n h hx hn, fun m h => ?_,
    fun found l zs m h => sparesKept_of_sound (classOf_sound h)⟩
  obtain ⟨hs, hd⟩ := sparesKept_iff.1 h
  exact ⟨sparesKept_iff.2 ⟨fun e he => Nat.lt_succ_of_lt (hs e he), hd⟩, fun e he => Nat.ne_of_lt (hs e he)⟩

end Sys2Proof.Cartridge
end

section
/-! The cartridge's geometry (R1 to R3, R10, R112), what the passes leave on its surface (R4 to R6) and what the attempts on
a sector find (R7, R99). -/

namespace Sys2Proof.Machine

/-! ### Seek cost -/

theorem trackDistance_eq (t u : Nat) : trackDistance t u = ((t : Int) - (u : Int)).natAbs := by
  unfold trackDistance
  split <;> omega

/-! ### Locations -/

theorem logicalOf_homeLoc (n : Nat) : logicalOf (homeLoc n).track (homeLoc n).sector = n := by
  simp only [homeLoc, logicalOf]
  omega

theorem spareOf_spareLoc (x : Nat) : spareOf (spareLoc x).track (spareLoc x).sector = x := by
  simp only [spareLoc, spareOf]
  omega

theorem locate_of_no_entry {d : DefectMap} {n : Nat} (h : hasEntry d n = false) : locate (some d) n = homeLoc n := by
  have hf : d.entries.find? (fun e => decide (e.1 = n)) = none :=
    List.find?_eq_none.2 (List.any_eq_false.1 h)
  simp [locate, hf]

/-! ### Surfaces after a pass -/

/-- A pass's covered sectors have distinct keys. -/
theorem passKey_inj {p : Pass} {i j : Nat} : passKey p i = passKey p j ↔ i = j := by
  simp only [passKey, sectorKey]
  omega

theorem conditionAt_afterErase (keys : List Nat) (k : Nat) {m : Medium} (h : surfaceWf m) :
    conditionAt (afterErase m keys) k = if k ∈ keys then .blank else conditionAt m k := by
  induction keys generalizing m with
  | nil => simp [afterErase]
  | cons a keys ih =>
    have ih := ih (setCondition_wf a .blank h)
    rw [conditionAt_setCondition a k .blank h] at ih
    rw [show afterErase m (a :: keys) = afterErase (setCondition m a .blank) keys from rfl, ih]
    by_cases hk : k ∈ keys <;> simp [hk]

/-- A WRITE leaves the sectors that it does not cover. -/
theorem conditionAt_afterWrite_other {items : List (Nat × Data × WriteResponse)} {k : Nat} {m : Medium}
    (h : surfaceWf m) (hk : ∀ x ∈ items, k ≠ x.1) : conditionAt (afterWrite m items) k = conditionAt m k := by
  induction items generalizing m with
  | nil => rfl
  | cons x items ih =>
    obtain ⟨a, d, r⟩ := x
    rw [afterWrite, ih (setCondition_wf a _ h) fun y hy => hk y (List.mem_cons_of_mem _ hy),
      conditionAt_setCondition a k _ h, if_neg (hk _ List.mem_cons_self)]

/-- A WRITE over distinct sectors leaves each as the medium's answer has it (R6). -/
theorem conditionAt_afterWrite_mem {items : List (Nat × Data × WriteResponse)} {k : Nat} {d : Data} {r : WriteResponse}
    {m : Medium} (h : surfaceWf m) (hn : (items.map Prod.fst).Nodup) (hk : (k, d, r) ∈ items) :
    conditionAt (afterWrite m items) k = afterWriteOne (conditionAt m k) d r := by
  induction items generalizing m with
  | nil => exact nomatch hk
  | cons x items ih =>
    obtain ⟨a, d', r'⟩ := x
    rw [List.map_cons, List.nodup_cons] at hn
    rcases List.mem_cons.1 hk with he | hk
    · cases he
      rw [afterWrite, conditionAt_afterWrite_other (setCondition_wf k _ h), conditionAt_setCondition k k _ h, if_pos rfl]
      exact fun y hy e => hn.1 (List.mem_map.2 ⟨y, hy, e.symm⟩)
    · have hne : k ≠ a := fun e => hn.1 (List.mem_map.2 ⟨(k, d, r), hk, e⟩)
      rw [afterWrite, ih (setCondition_wf a _ h) hn.2 hk, conditionAt_setCondition a k _ h, if_neg hne]

section
variable {p : Pass} (rs : List SectorResponse) {m : Medium} (h : surfaceWf m = true)
include h

/-- A pass leaves every sector that it does not cover. -/
theorem mediumAfter_other {k : Nat} (hk : ∀ j, j < p.items.length → k ≠ passKey p j) :
    conditionAt (mediumAfter p rs m) k = conditionAt m k := by
  unfold mediumAfter
  split
  · rw [conditionAt_afterErase _ _ h, if_neg]
    simp only [List.mem_map, List.mem_range]
    rintro ⟨j, hj, e⟩
    exact hk j hj e.symm
  · refine conditionAt_afterWrite_other h fun x hx => ?_
    obtain ⟨j, hj, rfl⟩ := List.mem_map.1 hx
    exact hk j (List.mem_range.1 hj)
  · rfl

/-- An ERASE leaves each covered sector BLANK (R5). -/
theorem mediumAfter_erase {j : Nat} (ha : p.action = .erase) (hj : j < p.items.length) :
    conditionAt (mediumAfter p rs m) (passKey p j) = .blank := by
  simp only [mediumAfter, ha]
  rw [conditionAt_afterErase _ _ h, if_pos (List.mem_map_of_mem (List.mem_range.2 hj))]

/-- A WRITE leaves each covered sector as the medium's answer has it (R6). -/
theorem mediumAfter_write {j : Nat} (ha : p.action = .write) (hj : j < p.items.length) :
    conditionAt (mediumAfter p rs m) (passKey p j) =
      afterWriteOne (conditionAt m (passKey p j)) (p.data.getD j []) (responseAt rs j).wrote := by
  simp only [mediumAfter, ha]
  refine conditionAt_afterWrite_mem h ?_ (List.mem_map.2 ⟨j, List.mem_range.2 hj, rfl⟩)
  rw [List.map_map]
  exact List.Nodup.map (fun _ _ e => passKey_inj.1 e) List.nodup_range

end

/-- What R6 allows a WRITE to leave: never the bytes written on a sector that was not BLANK. -/
theorem afterWriteOne_allowed (before : Condition) (bytes : Data) (r : WriteResponse) :
    afterWriteOne before bytes r = .unreadable ∨
      ∃ d, afterWriteOne before bytes r = .data d false ∧ (before ≠ .blank → d ≠ bytes) := by
  cases r with
  | took =>
    by_cases hb : before = .blank
    · exact .inr ⟨bytes, by simp [afterWriteOne, hb], fun h => absurd hb h⟩
    · exact .inl (by simp [afterWriteOne, hb])
  | differs d =>
    by_cases hc : before = .blank ∨ padTo 1024 d ≠ bytes
    · exact .inr ⟨padTo 1024 d, by simp [afterWriteOne, if_pos hc], fun h => hc.resolve_left h⟩
    · exact .inl (by simp [afterWriteOne, if_neg hc])
  | unreadable => exact .inl rfl

/-! ### Attempts -/

/-- The attempts on a DATA sector give its bytes on one of those allowed, or fail them all (R99). -/
theorem attemptSector_data (d : Data) (weak : Bool) (allowed fails before : Nat) :
    attemptSector (.data d weak) allowed fails before = .failed allowed ∨
      ∃ n, 1 ≤ n ∧ n ≤ allowed ∧ attemptSector (.data d weak) allowed fails before = .data d n := by
  simp only [attemptSector]
  generalize (if weak = true ∧ before = 0 then max fails 1 else fails) = f
  split
  · exact .inr ⟨f + 1, by omega, by omega, rfl⟩
  · exact .inl rfl

theorem verdictOf_matched {found : Found} {bytes : Data} :
    verdictOf found bytes = .matched ↔ ∃ n, found = .data bytes n := by
  cases found with
  | data d n =>
    by_cases h : d = bytes <;> simp [verdictOf, h]
  | blank => simp [verdictOf]
  | failed n => simp [verdictOf]

end Sys2Proof.Machine

namespace Sys2Proof.Cartridge

open Machine

/-- Settles O4: the seek cost rounds a distance up to whole steps of 128 tracks. -/
theorem seekCost : Obligations.SeekCost := by
  refine ⟨trackDistance_eq, fun d hd => ?_⟩
  unfold Machine.seekCost
  split <;> omega

/-- Settles O5: the numberings are divisions by 17, and an entry found is the one that locates. -/
theorem locations : Obligations.Locations := by
  refine ⟨fun n hn => ?_, fun x hx => ?_, fun _ => rfl, fun d n => locate_of_no_entry, fun d n x h => by simp [locate, h]⟩
  · refine ⟨?_, ?_, ?_, rfl, rfl, logicalOf_homeLoc n⟩ <;> simp only [homeLoc, Config.lastLogical] at * <;> omega
  · refine ⟨?_, ?_, ?_, rfl, rfl, spareOf_spareLoc x⟩ <;> simp only [spareLoc, Config.spares] at * <;> omega

/-- Settles O6: a pass acts on its covered sectors alone, an ERASE leaving BLANK and a WRITE what R6 allows. -/
theorem passEffects : Obligations.PassEffects := by
  refine ⟨fun p rs m h ha => ⟨fun j => mediumAfter_erase rs h ha, fun k => mediumAfter_other rs h⟩,
    fun p rs m h ha => ⟨fun j hj => ?_, fun j hj hw hb => ?_, fun j d hj hw hc => ?_, fun j hj hw => ?_,
      fun k => mediumAfter_other rs h⟩⟩ <;> rw [mediumAfter_write rs h ha hj]
  · exact afterWriteOne_allowed _ _ _
  · simp [hw, hb, afterWriteOne]
  · rw [hw]
    exact if_pos hc
  · rw [hw]
    rfl

/-- Settles O7: the attempts by the sector's condition. -/
theorem attemptsSettle : Obligations.AttemptsSettle :=
  ⟨fun _ _ _ => rfl, fun _ _ _ => rfl, attemptSector_data,
    fun d n before hn => by simp [attemptSector, Nat.lt_of_lt_of_le Nat.zero_lt_one hn],
    fun _ _ => verdictOf_matched⟩

end Sys2Proof.Cartridge
end

section
/-! POWER_ON_RESET: what a pass cut short leaves on the surface (R8), and each block's start (R35). -/

namespace Sys2Proof.Machine

/-- A READ or VERIFY leaves the surface as it was (R4). -/
theorem mediumAfter_reading {p : Pass} (rs : List SectorResponse) (m : Medium)
    (ha : p.action = .read ∨ p.action = .verify) : mediumAfter p rs m = m := by
  rcases ha with ha | ha <;> simp only [mediumAfter, ha]

theorem afterCutOne_of_reading {before : Condition} {a : Action} (u : UnderHead) (ha : a = .read ∨ a = .verify) :
    afterCutOne a before u = before := by
  rcases ha with rfl | rfl <;> rfl

theorem afterCutOne_kept (a : Action) (before : Condition) : afterCutOne a before .kept = before := by
  cases a <;> rfl

theorem afterCutOne_erase (before : Condition) {u : UnderHead} (hu : u ≠ .kept) :
    afterCutOne .erase before u = .blank := by
  cases u <;> first | exact absurd rfl hu | rfl

section
variable {p : Pass} (c : Cut) {m : Medium} (h : surfaceWf m = true)
include h

/-- Over the sectors passed over, the effect is the whole pass's (R8). -/
theorem mediumAfter_take {j : Nat} (rs : List SectorResponse) (n : Nat) (hj : j < p.items.length) :
    conditionAt (mediumAfter { p with items := p.items.take n } rs m) (passKey p j) =
      if j < n then conditionAt (mediumAfter p rs m) (passKey p j) else conditionAt m (passKey p j) := by
  split
  · rename_i hn
    have hj' : j < (p.items.take n).length := by
      rw [List.length_take]
      omega
    have ha : p.action = .erase ∨ p.action = .write ∨ p.action = .read ∨ p.action = .verify := by
      cases p.action <;> simp
    rcases ha with ha | ha | ha
    · exact (mediumAfter_erase (p := { p with items := p.items.take n }) rs h ha hj').trans
        (mediumAfter_erase rs h ha hj).symm
    · exact (mediumAfter_write (p := { p with items := p.items.take n }) rs h ha hj').trans
        (mediumAfter_write rs h ha hj).symm
    · rw [mediumAfter_reading (p := { p with items := p.items.take n }) rs m ha, mediumAfter_reading rs m ha]
  · rename_i hn
    refine mediumAfter_other rs h fun i hi => ?_
    rw [List.length_take] at hi
    exact fun e => absurd (passKey_inj.1 e) (by omega)

/-- What a cut pass leaves on a sector that it does not cover. -/
theorem cutMedium_other {k : Nat} (hk : ∀ j, j < p.items.length → k ≠ passKey p j) :
    conditionAt (cutMedium p c m) k = conditionAt m k := by
  have h1 : conditionAt (mediumAfter { p with items := p.items.take c.passed } c.responses m) k = conditionAt m k :=
    mediumAfter_other c.responses h fun j hj => hk j (Nat.lt_of_lt_of_le hj (List.length_take_le' _ _))
  unfold cutMedium
  dsimp only
  split
  · rename_i hp
    rw [conditionAt_setCondition _ _ _ (mediumAfter_wf _ _ h), if_neg (hk _ hp), h1]
  · exact h1

/-- What a cut pass leaves on a sector that it covers: passed over, under the head, or not reached (R8). -/
theorem cutMedium_at {j : Nat} (hj : j < p.items.length) :
    conditionAt (cutMedium p c m) (passKey p j) =
      if j = c.passed then afterCutOne p.action (conditionAt m (passKey p j)) c.under
      else if j < c.passed then conditionAt (mediumAfter p c.responses m) (passKey p j)
      else conditionAt m (passKey p j) := by
  have h1 := mediumAfter_take (j := j) h c.responses c.passed hj
  unfold cutMedium
  dsimp only
  split
  · rw [conditionAt_setCondition _ _ _ (mediumAfter_wf _ _ h)]
    by_cases he : j = c.passed
    · subst he
      simp [h1]
    · simp only [passKey_inj, if_neg he, h1]
  · have he : j ≠ c.passed := by omega
    rw [if_neg he]
    exact h1

/-- A READ or VERIFY cut short leaves the surface as it was (R8). -/
theorem cutMedium_reading (ha : p.action = .read ∨ p.action = .verify) (k : Nat) :
    conditionAt (cutMedium p c m) k = conditionAt m k := by
  by_cases hk : ∃ j, j < p.items.length ∧ k = passKey p j
  · obtain ⟨j, hj, rfl⟩ := hk
    rw [cutMedium_at c h hj, afterCutOne_of_reading _ ha, mediumAfter_reading _ m ha, ite_self, ite_self]
  · exact cutMedium_other c h fun j hj e => hk ⟨j, hj, e⟩

end

/-- The mechanism of each bay after a power-on (R35). -/
theorem powerOn_mechOf (cut : Two Cut) (s : State) (b : Bay) :
    (powerOn cut s).mechOf b = powerMech (s.mechOf b) (s.schedOf b).pass (cut.get b) := by
  cases b <;> rfl

/-- A bay with a cartridge at power-on: locked in and spun up, nothing held (R35). -/
theorem powerMech_of_medium {k : Mech} {m : Medium} (pass : Option Pass) (c : Cut) (h : k.medium = some m) :
    powerMech k pass c =
      { Mech.reset with
        mode := .loading
        spindle := .starting
        locked := true
        medium := some (pass.elim m fun p => cutMedium p c m) } := by
  simp only [powerMech, h]
  cases pass <;> rfl

theorem powerMech_of_none {k : Mech} (pass : Option Pass) (c : Cut) (h : k.medium = none) :
    powerMech k pass c = Mech.reset := by
  simp only [powerMech, h]

end Sys2Proof.Machine

namespace Sys2Proof.Cartridge

open Machine

/-- Settles O10: the surface by the place of the cut, every other item by the state after reset. -/
theorem powerOnBays : Obligations.PowerOnBays := by
  intro cut s
  refine ⟨powerOn cut s, rfl, fun b => ⟨fun hm => ?_, fun m hm hw => ?_, fun m p hm hw hp => ?_, ?_⟩, rfl, rfl, rfl, rfl, rfl,
    rfl, rfl, rfl, rfl, rfl, rfl, rfl⟩
  · rw [powerOn_mechOf, powerMech_of_none _ _ hm]
  · rw [powerOn_mechOf, powerMech_of_medium _ _ hm]
    refine ⟨rfl, rfl, rfl, rfl, rfl, rfl, rfl, rfl, _, rfl, ?_, fun k hk => ?_⟩
    · cases (s.schedOf b).pass with
      | none => exact hw
      | some p => exact cutMedium_wf p _ hw
    · cases hp : (s.schedOf b).pass with
      | none => rfl
      | some p => exact cutMedium_other _ hw (hk p hp)
  · rw [powerOn_mechOf, powerMech_of_medium _ _ hm, hp]
    refine ⟨_, rfl, fun ha => cutMedium_reading _ hw ha, fun j hj => ?_⟩
    simp only [Option.elim_some, cutMedium_at _ hw hj]
    refine ⟨fun hlt => ?_, fun hgt => ?_, fun he hu => ?_, fun he ha hu => ?_, fun he ha hu => ?_, fun he ha hu => ?_,
      fun d he ha hu => ?_⟩
    · rw [if_neg (by omega), if_pos hlt]
    · rw [if_neg (by omega), if_neg (by omega)]
    · rw [if_pos he, hu, afterCutOne_kept]
    · rw [if_pos he, ha, afterCutOne_erase _ hu]
    · rw [if_pos he, ha, hu]
      rfl
    · rw [if_pos he, ha, hu]
      rfl
    · rw [if_pos he, ha, hu]
      rfl
  · cases b <;> rfl

end Sys2Proof.Cartridge
end

section
/-! The events of a cartridge: insertion, spin-up and mount (R20, R21, R24, R25). -/

namespace Sys2Proof.Machine

variable (b : Bay) (s : State)

theorem execCartridgeInsertion_empty (m : Medium) (h : (s.mechOf b).mode = .empty) :
    execCartridgeInsertion b m s = .next (conclude (insertCartridge b m s)) := by
  simp only [execCartridgeInsertion, if_pos h]

theorem execCartridgeInsertion_other (m : Medium) (h : (s.mechOf b).mode ≠ .empty) :
    execCartridgeInsertion b m s = .next s := by
  simp only [execCartridgeInsertion, if_neg h]

theorem execSpinUpCompletion_starting (h : (s.mechOf b).spindle = .starting) :
    execSpinUpCompletion b s = .next (conclude (spinUpDone b s)) := by
  simp only [execSpinUpCompletion, if_pos h]

theorem execSpinUpCompletion_other (h : (s.mechOf b).spindle ≠ .starting) : execSpinUpCompletion b s = .next s := by
  simp only [execSpinUpCompletion, if_neg h]

theorem execSpinUpFailure_starting (h : (s.mechOf b).spindle = .starting) :
    execSpinUpFailure b s = .next (conclude (spinUpFails b s)) := by
  simp only [execSpinUpFailure, if_pos h]

theorem execSpinUpFailure_other (h : (s.mechOf b).spindle ≠ .starting) : execSpinUpFailure b s = .next s := by
  simp only [execSpinUpFailure, if_neg h]

/-- In WAKING a spin-up's completion brings READY and the trigger (R24). -/
theorem spinUpDone_waking (h : (s.mechOf b).mode = .waking) :
    spinUpDone b s = (s.mapMech b fun k => { k with spindle := .turning, mode := .ready }).mapSched b
      fun c => { c with head := 0, triggered := true } := by
  simp only [spinUpDone, if_pos h]
  cases b <;> rfl

theorem spinUpDone_other (h : (s.mechOf b).mode ≠ .waking) :
    spinUpDone b s = (s.mapMech b fun k => { k with spindle := .turning }).mapSched b fun c => { c with head := 0 } := by
  simp only [spinUpDone, if_neg h]
  rfl

theorem mounting_iff (m : Mech) : mounting m = true ↔ m.mode = .loading ∧ m.spindle = .turning := by
  simp [mounting]

theorem execMountReadCompletion_mounting (fails : List Nat) (h : mounting (s.mechOf b) = true) :
    execMountReadCompletion b fails s =
      .next (conclude (mountDone b (mountFound ((s.mechOf b).medium.getD []) fails) s)) := by
  simp only [execMountReadCompletion, if_pos h]

theorem execMountReadCompletion_other (fails : List Nat) (h : ¬mounting (s.mechOf b) = true) :
    execMountReadCompletion b fails s = .next s := by
  simp only [execMountReadCompletion, if_neg h]

/-- The mount read is of the first six sectors of track 0 (R20). -/
theorem mountFound_eq (m : Medium) (fails : List Nat) :
    mountFound m fails = (List.range 6).map fun i => attemptSector (conditionAt m i) 4 (fails.getD i 0) 0 := by
  simp only [mountFound, sectorKey, Nat.mul_zero, Nat.zero_add]

variable (found : List Found)

theorem mountDone_sound {l : Label} {zs : List Zone} {m : DefectMap} (h : classOf found = .sound l zs m) :
    mountDone b found s = trigger b (raise b (.cartridgeIn .ready) (s.mapMech b fun k =>
      { k with
        mode := .ready
        inhibit := false
        label := some l
        zones := some zs
        map := some m
        buffer := found.map bufferOf })) := by
  simp only [mountDone, h, mountOutcome, mountMech, if_true]

theorem mountDone_blank (h : classOf found = .blank) :
    mountDone b found s = raise b (.cartridgeIn .unlabelled) (s.mapMech b fun k =>
      { k with mode := .unlabelled, inhibit := false, buffer := found.map bufferOf }) := by
  simp only [mountDone, h, mountOutcome, mountMech]
  rfl

theorem mountDone_faulty (h : classOf found = .faulty) :
    mountDone b found s = raise b (.cartridgeIn .damaged) (s.mapMech b fun k =>
      { k with mode := .damaged, inhibit := false, buffer := found.map bufferOf }) := by
  simp only [mountDone, h, mountOutcome, mountMech]
  rfl

end Sys2Proof.Machine

namespace Sys2Proof.Cartridge

open Machine

/-- Settles O39: each event by its condition, the mount by the class of the label track. -/
theorem cartridgeEvents : Obligations.CartridgeEvents := by
  refine ⟨fun b s => ⟨fun m => execCartridgeInsertion_empty b s m, fun m => execCartridgeInsertion_other b s m,
      fun hs hw => ⟨?_, ?_⟩, fun hs hw => ⟨?_, ?_⟩,
      fun hs => ⟨execSpinUpCompletion_other b s hs, execSpinUpFailure_other b s hs⟩, fun m fails hl ht hm => ?_,
      fun fails h => execMountReadCompletion_other b s fails fun hc => ?_⟩,
    fun b found s => ⟨⟨fun l zs m => mountDone_sound b s found, mountDone_blank b s found, mountDone_faulty b s found⟩,
      rfl⟩⟩
  · exact (execSpinUpCompletion_starting b s hs).trans (by rw [spinUpDone_other b s hw])
  · exact (execSpinUpFailure_starting b s hs).trans (by simp only [spinUpFails, if_neg hw, faultBay])
  · exact (execSpinUpCompletion_starting b s hs).trans (by rw [spinUpDone_waking b s hw])
  · exact (execSpinUpFailure_starting b s hs).trans (by simp only [spinUpFails, if_pos hw, wakeFails, faultBay])
  · refine (execMountReadCompletion_mounting b s fails ((mounting_iff _).2 ⟨hl, ht⟩)).trans ?_
    rw [hm, mountFound_eq, Option.getD_some]
  · rw [mounting_iff] at hc
    exact h.elim (absurd hc.1) (absurd hc.2)

end Sys2Proof.Cartridge
end

section
/-! What a pass completion leaves on its bay and what it keeps (R78). -/

namespace Sys2Proof.Machine

/-! ### What a completion keeps -/

/-- What nothing within a pass completion changes, once the pass is off its scheduler: passes, heads, surfaces, settings,
and the Link Port's receiving side with the frame in sending. -/
structure Steady (s t : State) : Prop where
  pass : ∀ b, (t.schedOf b).pass = (s.schedOf b).pass
  head : ∀ b, (t.schedOf b).head = (s.schedOf b).head
  medium : ∀ b, (t.mechOf b).medium = (s.mechOf b).medium
  settings : t.settings = s.settings
  waiting : t.link.waiting = s.link.waiting
  assembly : t.link.assembly = s.link.assembly
  sending : t.link.sending = s.link.sending
  cursor : t.link.cursor = s.link.cursor

theorem Steady.refl (s : State) : Steady s s := ⟨fun _ => rfl, fun _ => rfl, fun _ => rfl, rfl, rfl, rfl, rfl, rfl⟩

theorem Steady.mapMech {s t : State} {b : Bay} {f : Mech → Mech} (h : Steady s t) (hf : ∀ m, (f m).medium = m.medium) :
    Steady s (t.mapMech b f) where
  pass := h.pass
  head := h.head
  medium c := by
    rw [mechOf_mapMech, ← h.medium c]
    split
    · rename_i e
      rw [hf, e]
    · rfl
  settings := h.settings
  waiting := h.waiting
  assembly := h.assembly
  sending := h.sending
  cursor := h.cursor

theorem Steady.mapSched {s t : State} {b : Bay} {f : Sched → Sched} (h : Steady s t)
    (hf : ∀ c, (f c).pass = c.pass ∧ (f c).head = c.head) : Steady s (t.mapSched b f) where
  pass c := by
    rw [schedOf_mapSched, ← h.pass c]
    split
    · rename_i e
      rw [(hf _).1, e]
    · rfl
  head c := by
    rw [schedOf_mapSched, ← h.head c]
    split
    · rename_i e
      rw [(hf _).2, e]
    · rfl
  medium := h.medium
  settings := h.settings
  waiting := h.waiting
  assembly := h.assembly
  sending := h.sending
  cursor := h.cursor

theorem steady_completes (s : State) : Completes (Steady s) where
  sched _ _ _ hf h := h.mapSched hf
  slots _ _ _ h := { h with }
  recs _ _ _ h := { h with }
  create _ _ _ h := { h with }
  stream _ _ h := { h with }
  tally _ _ h := { h with }
  port _ _ h := { h with }
  mirror _ _ h := { h with }
  reply _ _ _ _ _ h := { h with }
  raise _ _ _ h := { h with }
  wake _ _ h := h.mapMech fun m => by split <;> rfl
  map _ _ _ _ h := h.mapMech fun _ => rfl
  damages _ _ _ h := h.mapMech fun _ => rfl
  succeeds _ _ _ _ h := h.mapMech fun _ => rfl
  zones _ _ _ h := h.mapMech fun _ => rfl
  inhibits _ _ h := h.mapMech fun _ => rfl
  entry _ _ _ _ _ h := h.mapMech fun _ => rfl

/-- The owner's outcomes keep what a completion keeps. -/
theorem handOutcomes_steady (b : Bay) (p : Pass) (rs : List SectorResponse) (m : Medium) (s : State) :
    Steady s (handOutcomes b p rs m s) :=
  (steady_completes s).handOutcomes_keeps b p rs m (.refl s)

/-! ### The pass taken off its bay -/

section
variable (b : Bay) (p : Pass) (rs : List SectorResponse) (s : State)

theorem passDone_schedOf : (passDone b p rs s).schedOf b = { s.schedOf b with pass := none, head := p.track } := by
  simp [passDone]

theorem passDone_schedOf_other : (passDone b p rs s).schedOf b.other = s.schedOf b.other :=
  State.mapSched_schedOf_ne s b b.other _ (Bay.other_ne b)

theorem passDone_medium : ((passDone b p rs s).mechOf b).medium = (s.mechOf b).medium.map (mediumAfter p rs) := by
  simp [passDone]

theorem passDone_mechOf_other : (passDone b p rs s).mechOf b.other = s.mechOf b.other :=
  State.mapMech_mechOf_ne _ b b.other _ (Bay.other_ne b)

theorem execPassCompletion_of_none (h : (s.schedOf b).pass = none) : execPassCompletion b rs s = .next s := by
  simp [execPassCompletion, passInFlight, h]

theorem execPassCompletion_of_pass (h : (s.schedOf b).pass = some p) :
    execPassCompletion b rs s =
      .next (conclude (trigger b (handOutcomes b p rs ((s.mechOf b).medium.getD []) (passDone b p rs s)))) := by
  simp only [execPassCompletion, passInFlight, h, Option.isSome_some, if_true, completePass_of_pass rs h]

end

/-! ### The owner's sectors and end -/

/-- What a pass found on each sector in order. -/
theorem foundFrom_getElem? (s : State) (p : Pass) (rs : List SectorResponse) (m : Medium) (items : List Nat) (n j : Nat) :
    (foundFrom s p rs m n items)[j]? = items[j]?.map fun k => (k, foundAt s p rs m (n + j) k) := by
  induction items generalizing n j with
  | nil => rfl
  | cons k items ih =>
    cases j with
    | zero => rfl
    | succ j => simp [foundFrom, ih, Nat.add_assoc, Nat.add_comm 1 j]

/-- A feed pass makes its attempts anew (R99). -/
theorem foundAt_feed {p : Pass} {n : Nat} (s : State) (rs : List SectorResponse) (m : Medium) (j k : Nat)
    (ho : p.owner = .feed n) :
    foundAt s p rs m j k = attemptSector (conditionAt m (sectorKey p.track (p.first + j))) (p.allowed.getD j 4)
      (rs.getD j ⟨0, .took⟩).fails 0 := by
  simp [foundAt, attemptsBefore, ho, passKey, responseAt]

theorem mem_indexed {l : List Sector} {n i : Nat} {x : Sector} :
    (i, x) ∈ indexed n l ↔ ∃ j, i = n + j ∧ l[j]? = some x := by
  induction l generalizing n with
  | nil => simp [indexed]
  | cons y l ih =>
    simp only [indexed, List.mem_cons, Prod.mk.injEq, ih]
    constructor
    · rintro (⟨rfl, rfl⟩ | ⟨j, rfl, hj⟩)
      · exact ⟨0, rfl, rfl⟩
      · exact ⟨j + 1, by omega, hj⟩
    · rintro ⟨j, rfl, hj⟩
      cases j with
      | zero => exact .inl ⟨rfl, (Option.some.inj hj).symm⟩
      | succ j => exact .inr ⟨j, by omega, hj⟩

theorem noPassLeft_reading {r : Rec} (h : isReading r = true) :
    noPassLeft r = true ↔ ∀ x ∈ r.sectors, x.progress ≠ .unread := by
  simp [noPassLeft, h]

theorem noPassLeft_writing {r : Rec} (h : isReading r = false) :
    noPassLeft r = true ↔ r.relocations = [] ∧ ∀ i x, r.sectors[i]? = some x → writeFinished r i x = true := by
  simp only [noPassLeft, h, Bool.false_eq_true, if_false, Bool.and_eq_true, decide_eq_true_eq, List.all_eq_true,
    Prod.forall, mem_indexed, Nat.zero_add]
  refine and_congr_right fun _ => ⟨fun hw i x hx => hw i x ⟨i, rfl, hx⟩, ?_⟩
  rintro hw i x ⟨_, rfl, hx⟩
  exact hw i x hx

/-! ### Discarded work -/

/-- The release signal triggers both schedulers where the free pool has grown, and changes nothing else (R39). -/
theorem signalRelease_cases (before s : State) :
    (freeCount before < freeCount s ∧ signalRelease before s = triggerBoth s) ∨
      (¬freeCount before < freeCount s ∧ signalRelease before s = s) := by
  unfold signalRelease
  split
  · rename_i h
    exact .inl ⟨h, rfl⟩
  · rename_i h
    exact .inr ⟨h, rfl⟩

end Sys2Proof.Machine

namespace Sys2Proof.Cartridge

open Machine

/-- Settles O41: the pass is taken off its bay, its owner takes its outcomes, and what they keep is `Steady`. -/
theorem passCompletes : Obligations.PassCompletes := by
  refine ⟨fun b rs s => ⟨execPassCompletion_of_none b rs s, ?_⟩, fun n j p rs m s ho => ?_, fun q r s hr => ⟨?_, ?_, ?_⟩,
    fun r => ⟨noPassLeft_reading, noPassLeft_writing⟩, ?_, fun b d => ?_⟩
  · rintro p m u hp rfl rfl
    have he := execPassCompletion_of_pass b p rs s hp
    refine ⟨fun q ho => he.trans ?_, fun n ho => he.trans ?_, fun ho => he.trans ?_, _, he, rfl, ?_⟩
    · simp only [handOutcomes, ho]
      rfl
    · simp only [handOutcomes, ho]
      rfl
    · simp only [handOutcomes, ho]
      rfl
    · have hs := handOutcomes_steady b p rs ((s.mechOf b).medium.getD []) (passDone b p rs s)
      have ht : Steady (passDone b p rs s)
          (trigger b (handOutcomes b p rs ((s.mechOf b).medium.getD []) (passDone b p rs s))) :=
        (steady_completes _).trigger_keeps b hs
      refine ⟨(ht.pass b).trans ?_, (ht.head b).trans ?_, ?_, (ht.medium b).trans (passDone_medium b p rs s),
        (ht.pass b.other).trans ?_, (ht.head b.other).trans ?_, (ht.medium b.other).trans ?_, ht.settings, ht.waiting,
        ht.assembly, ht.sending, ht.cursor⟩
      · rw [passDone_schedOf]
      · rw [passDone_schedOf]
      · simp [trigger]
      · rw [passDone_schedOf_other]
      · rw [passDone_schedOf_other]
      · rw [passDone_mechOf_other]
  · simp only [foundFrom_getElem?, Nat.zero_add, foundAt_feed s rs m _ _ ho]
  · intro hc
    simp [ownerEnds, hr, Option.isSome_iff_ne_none.2 hc]
  · intro hc hn
    simp [ownerEnds, hr, hc, hn]
  · intro hc hn
    simp [ownerEnds, hr, hc, hn]
  · rintro b s t rfl
    rcases signalRelease_cases s (s.withSlots (s.slots.map (dropPass b))) with ⟨hl, he⟩ | ⟨hl, he⟩ <;>
      rw [show releasePass b s = _ from he]
    · exact ⟨rfl, fun _ => ⟨rfl, rfl⟩, fun hc => absurd hl (Nat.not_lt.2 (Nat.le_of_eq hc))⟩
    · exact ⟨rfl, fun hc => absurd hc hl, fun _ => rfl⟩
  · cases b <;> exact ⟨rfl, rfl, rfl, fun _ => rfl⟩

end Sys2Proof.Cartridge
end

section
/-! Records found by their numbers, and the end of a bay's EJECT records at its release (R32, R52). -/

namespace Sys2Proof.Machine

/-! ### Records by their numbers -/

theorem seqsAscend_ge {lo c : Nat} {l : List Rec} (h : seqsAscend lo c l) : ∀ r ∈ l, lo ≤ r.seq := by
  induction l generalizing lo with
  | nil => exact fun _ hr => nomatch hr
  | cons x l ih =>
    intro r hr
    rcases List.mem_cons.1 hr with rfl | hr
    · exact h.1
    · exact Nat.le_trans h.1 (Nat.le_of_succ_le (ih h.2.2 r hr))

/-- A record of the table is the one that its number finds (R52). -/
theorem rec?_of_mem {s : State} (h : seqLaw s) {r : Rec} (hr : r ∈ s.recs) : s.rec? r.seq = some r := by
  unfold State.rec?
  have key : ∀ (lo : Nat) (l : List Rec), seqsAscend lo s.nextSeq l → r ∈ l →
      l.find? (fun x => decide (x.seq = r.seq)) = some r := by
    intro lo l
    induction l generalizing lo with
    | nil => exact fun _ hr => nomatch hr
    | cons x l ih =>
      intro hl hr
      rcases List.mem_cons.1 hr with rfl | hr
      · simp
      · have hlt := seqsAscend_ge hl.2.2 r hr
        rw [List.find?_cons_of_neg (by simp; omega)]
        exact ih _ hl.2.2 hr
  exact key 0 _ h hr

theorem rec?_seq {s : State} {q : Nat} {r : Rec} (h : s.rec? q = some r) : r.seq = q := by
  have := List.find?_some h
  simpa using this

/-- The record that a number finds after a change of one record. -/
theorem rec?_mapRec {s : State} (q q' : Nat) {f : Rec → Rec} (hf : ∀ r, SameAsk r (f r)) :
    (s.mapRec q f).rec? q' = (s.rec? q').map fun r => if r.seq = q then f r else r :=
  rec?_map s q' fun r => (hf r).ite _

theorem rec?_mapRec_same {s : State} {q : Nat} {r : Rec} {f : Rec → Rec} (hf : ∀ r, SameAsk r (f r))
    (h : s.rec? q = some r) : (s.mapRec q f).rec? q = some (f r) := by
  rw [rec?_mapRec q q hf, h, Option.map_some, if_pos (rec?_seq h)]

/-! ### An EJECT record enters ENDING -/

theorem isEject_iff {r : Rec} : isEject r = true ↔ r.kind = .eject true ∨ r.kind = .eject false := by
  simp [isEject]

theorem SameAsk.isEject {r r' : Rec} (h : SameAsk r r') : Machine.isEject r' = Machine.isEject r := by
  simp only [Machine.isEject, h.kind]

theorem SameAsk.trans {r r' r'' : Rec} (h : SameAsk r r') (h' : SameAsk r' r'') : SameAsk r r'' :=
  ⟨h'.seq.trans h.seq, h'.kind.trans h.kind, h'.link.trans h.link, h'.bay.trans h.bay, h'.level.trans h.level,
    h'.first.trans h.first, h'.count.trans h.count⟩

/-- What the end of EJECT records of a bay, with no record in the bay's places, changes: these records alone, with their
slots and triggers. -/
structure EjectsEnd (b : Bay) (s t : State) : Prop where
  mech : t.mech = s.mech
  link : t.link = s.link
  head : ∀ c, (t.schedOf c).head = (s.schedOf c).head
  active : (s.schedOf b).active = none → (t.schedOf b).active = none
  stack : (s.schedOf b).stack = [] → (t.schedOf b).stack = []
  recs : ∀ q r, s.rec? q = some r → ∃ x, t.rec? q = some x ∧ SameAsk r x ∧ x.endCause = r.endCause ∧
    (x.state = r.state ∨ (isEject r = true ∧ r.bay = b ∧ x.state = .ending))

theorem EjectsEnd.refl (b : Bay) (s : State) : EjectsEnd b s s :=
  ⟨rfl, rfl, fun _ => rfl, id, id, fun _ r h => ⟨r, h, .refl r, rfl, .inl rfl⟩⟩

theorem EjectsEnd.trans {b : Bay} {s t u : State} (h : EjectsEnd b s t) (h' : EjectsEnd b t u) : EjectsEnd b s u where
  mech := h'.mech.trans h.mech
  link := h'.link.trans h.link
  head c := (h'.head c).trans (h.head c)
  active e := h'.active (h.active e)
  stack e := h'.stack (h.stack e)
  recs q r hr := by
    obtain ⟨x, hx, ha, he, hs⟩ := h.recs q r hr
    obtain ⟨y, hy, ha', he', hs'⟩ := h'.recs q x hx
    refine ⟨y, hy, ha.trans ha', he'.trans he, ?_⟩
    rcases hs' with hs' | ⟨hj, hb, hs'⟩
    · rw [hs']
      exact hs
    · exact .inr ⟨ha.isEject ▸ hj, ha.bay ▸ hb, hs'⟩

/-- A change of the schedulers' triggers alone. -/
theorem EjectsEnd.of_triggers {b : Bay} {s t u : State} (h : EjectsEnd b s t) (hm : u.mech = t.mech)
    (hl : u.link = t.link) (hr : u.recs = t.recs)
    (hs : ∀ c, (u.schedOf c).head = (t.schedOf c).head ∧ (u.schedOf c).active = (t.schedOf c).active ∧
      (u.schedOf c).stack = (t.schedOf c).stack) : EjectsEnd b s u where
  mech := hm.trans h.mech
  link := hl.trans h.link
  head c := (hs c).1.trans (h.head c)
  active e := (hs b).2.1.trans (h.active e)
  stack e := (hs b).2.2.trans (h.stack e)
  recs q r hq := by
    obtain ⟨x, hx, hx'⟩ := h.recs q r hq
    exact ⟨x, by simpa only [State.rec?, hr] using hx, hx'⟩

theorem EjectsEnd.trigger {b : Bay} {s t : State} (h : EjectsEnd b s t) (c : Bay) : EjectsEnd b s (trigger c t) :=
  h.of_triggers rfl rfl rfl fun d => by cases c <;> cases d <;> exact ⟨rfl, rfl, rfl⟩

theorem EjectsEnd.signalRelease {b : Bay} {s t : State} (h : EjectsEnd b s t) (before : State) :
    EjectsEnd b s (signalRelease before t) := by
  rcases signalRelease_cases before t with ⟨_, e⟩ | ⟨_, e⟩ <;> rw [e]
  · exact (h.trigger .A).trigger .B
  · exact h

theorem EjectsEnd.dropAll {b : Bay} {s t : State} (h : EjectsEnd b s t) (x : Holder) : EjectsEnd b s (dropAll x t) :=
  (h.of_triggers (u := t.withSlots (t.slots.map (dropFrom x))) rfl rfl rfl fun _ => ⟨rfl, rfl, rfl⟩).signalRelease t

theorem EjectsEnd.signalHoldEnds {b : Bay} {s t : State} (h : EjectsEnd b s t) (before : State) :
    EjectsEnd b s (signalHoldEnds before t) := by
  refine foldl_keeps (P := EjectsEnd b s) (fun u r hu => ?_) _ _ h
  split
  · exact hu.trigger _
  · exact hu

theorem schedBay_of_eject {r : Rec} (h : isEject r = true) : schedBay r = r.bay := by
  rcases isEject_iff.1 h with h | h <;> simp [schedBay, isStep, h]

/-- An EJECT record leaves its places without touching the head, and finds none to leave where there are none. -/
theorem EjectsEnd.leaveScheduler {b : Bay} {s t : State} (h : EjectsEnd b s t) {r : Rec} (he : isEject r = true)
    (hb : r.bay = b) : EjectsEnd b s (leaveScheduler r t) := by
  have hc : ∀ (u : State) (d : Bay), (checkMode b u).mech = u.mech ∧ (checkMode b u).link = u.link ∧
      ((checkMode b u).schedOf d).head = (u.schedOf d).head ∧
      ((checkMode b u).schedOf d).active = (u.schedOf d).active ∧
      ((checkMode b u).schedOf d).stack = (u.schedOf d).stack := by
    intro u d
    unfold checkMode
    dsimp only
    split
    · cases b <;> cases d <;> exact ⟨rfl, rfl, rfl, rfl, rfl⟩
    · exact ⟨rfl, rfl, rfl, rfl, rfl⟩
  have hs : schedBay r = b := (schedBay_of_eject he).trans hb
  refine h.trans ?_
  unfold Machine.leaveScheduler
  simp only [hs]
  split
  · rename_i ha
    exact ⟨rfl, rfl, fun c => by cases b <;> cases c <;> rfl, fun e => absurd (e.symm.trans ha) nofun,
      fun e => by cases b <;> exact e, fun q r h => ⟨r, h, .refl r, rfl, .inl rfl⟩⟩
  · split
    · rename_i hm
      refine ⟨(hc _ b).1, (hc _ b).2.1, fun c => (hc _ c).2.2.1.trans (by cases b <;> cases c <;> rfl),
        fun e => (hc _ b).2.2.2.1.trans (by cases b <;> exact e), fun e => ?_, fun q r h => ?_⟩
      · rw [e] at hm
        exact nomatch hm
      · refine ⟨r, ?_, .refl r, rfl, .inl rfl⟩
        simp only [State.rec?, checkMode_recs]
        exact h
    · exact .refl b t

theorem signalHoldEnds_recs (before s : State) : (signalHoldEnds before s).recs = s.recs := by
  refine foldl_keeps (P := fun t => t.recs = s.recs) (fun t r ht => ?_) _ _ rfl
  split
  · exact ht
  · exact ht

/-- The entry of an EJECT record to ENDING. -/
theorem enterEnding_eject {b : Bay} {s : State} {q : Nat} {r : Rec} (hr : s.rec? q = some r) (he : isEject r = true)
    (hb : r.bay = b) :
    EjectsEnd b s (enterEnding q s) ∧ ∃ x, (enterEnding q s).rec? q = some x ∧ x.state = .ending := by
  have hk := isEject_iff.1 he
  have hread : isRead r = false := by rcases hk with h | h <;> simp [isRead, h]
  have hprep : isPrepare r = false := by rcases hk with h | h <;> simp [isPrepare, h]
  have hflush : isFlush r = false := by rcases hk with h | h <;> simp [isFlush, h]
  have h1 : enterEnding q s = enterEndingAlone q s := by simp [enterEnding, hr, hread]
  rw [h1]
  by_cases hend : r.state = .ending
  · have h2 : enterEndingAlone q s = s := by simp [enterEndingAlone, hr, hend]
    rw [h2]
    exact ⟨.refl b s, r, hr, hend⟩
  · have hf : ∀ x : Rec, SameAsk x { x with state := .ending, stalled := false } :=
      fun _ => ⟨rfl, rfl, rfl, rfl, rfl, rfl, rfl⟩
    have hstep : EjectsEnd b s (s.mapRec q fun x => { x with state := .ending, stalled := false }) := by
      refine ⟨rfl, rfl, fun _ => rfl, id, id, fun q' r' hr' => ?_⟩
      rw [rec?_mapRec q q' hf, hr']
      by_cases hq : r'.seq = q
      · have hq' : q' = q := (rec?_seq hr').symm.trans hq
        have hrr : r' = r := by
          rw [hq'] at hr'
          exact Option.some.inj (hr'.symm.trans hr)
        subst hrr
        exact ⟨_, by rw [Option.map_some, if_pos hq], hf r', rfl, .inr ⟨he, hb, rfl⟩⟩
      · exact ⟨r', by rw [Option.map_some, if_neg hq], .refl r', rfl, .inl rfl⟩
    have h2 : enterEndingAlone q s = signalHoldEnds s (dropAll (.record r.seq)
        (leaveScheduler r (s.mapRec q fun x => { x with state := .ending, stalled := false }))) := by
      simp [enterEndingAlone, hr, hend, endEffect, hprep, hflush, giveUp_of_not_read hread]
    rw [h2]
    refine ⟨((hstep.leaveScheduler he hb).dropAll _).signalHoldEnds s, ?_⟩
    have hrecs : (signalHoldEnds s (dropAll (.record r.seq)
        (leaveScheduler r (s.mapRec q fun x => { x with state := .ending, stalled := false })))).recs =
        (s.mapRec q fun x => { x with state := .ending, stalled := false }).recs := by
      rw [signalHoldEnds_recs, dropAll_recs, leaveScheduler_recs]
    refine ⟨{ r with state := .ending, stalled := false }, ?_, rfl⟩
    simp only [State.rec?, hrecs]
    exact rec?_mapRec_same hf hr

/-- The end of several EJECT records of a bay: each of them is in ENDING. -/
theorem enterEnding_ejects {b : Bay} (l : List Nat) {s : State}
    (h : ∀ q ∈ l, ∃ r, s.rec? q = some r ∧ isEject r = true ∧ r.bay = b) :
    EjectsEnd b s (l.foldl (fun t q => enterEnding q t) s) ∧
      ∀ q ∈ l, ∃ x, (l.foldl (fun t q => enterEnding q t) s).rec? q = some x ∧ x.state = .ending := by
  induction l generalizing s with
  | nil => exact ⟨.refl b s, fun _ hq => nomatch hq⟩
  | cons a l ih =>
    obtain ⟨r, hr, he, hb⟩ := h a List.mem_cons_self
    obtain ⟨h1, x, hx, hxe⟩ := enterEnding_eject hr he hb
    obtain ⟨h2, hl⟩ := ih (s := enterEnding a s) fun q hq => by
      obtain ⟨r', hr', he', hb'⟩ := h q (List.mem_cons_of_mem _ hq)
      obtain ⟨y, hy, ha, _⟩ := h1.recs q r' hr'
      exact ⟨y, hy, ha.isEject.trans he', ha.bay.trans hb'⟩
    refine ⟨h1.trans h2, fun q hq => ?_⟩
    rcases List.mem_cons.1 hq with rfl | hq
    · obtain ⟨y, hy, _, _, hs⟩ := h2.recs q x hx
      exact ⟨y, hy, hs.elim (fun e => e.trans hxe) fun e => e.2.2⟩
    · exact hl q hq

end Sys2Proof.Machine
end

section
/-! Rest, the spin-down timer, spindle stops, release, and the medium's own changes (R4, R19, R22, R23, R32). -/

namespace Sys2Proof.Machine

/-! ### Changes of one bay's mechanism -/

theorem mapMech_congr {s : State} {b : Bay} {f g : Mech → Mech} (h : f (s.mechOf b) = g (s.mechOf b)) :
    s.mapMech b f = s.mapMech b g := by
  cases b
  · exact congrArg (fun m => { s with mech := ⟨m, s.mech.b⟩ }) h
  · exact congrArg (fun m => { s with mech := ⟨s.mech.a, m⟩ }) h

theorem mapMech_self {s : State} {b : Bay} {f : Mech → Mech} (h : f (s.mechOf b) = s.mechOf b) : s.mapMech b f = s :=
  (mapMech_congr (g := id) h).trans (by cases b <;> rfl)

/-! ### The medium's own changes -/

theorem execMediumSectorChange_of_none (b : Bay) (track place : Nat) (change : MediumChange) (s : State)
    (h : 16384 ≤ track ∨ 17 ≤ place ∨ (s.mechOf b).medium = none) :
    execMediumSectorChange b track place change s = .next s := by
  unfold execMediumSectorChange
  split
  · rename_i hp
    have hm : (s.mechOf b).medium = none := by
      rcases h with h | h | h
      · omega
      · omega
      · exact h
    refine congrArg _ (mapMech_self ?_)
    rw [hm, Option.map_none, ← hm]
  · rfl

theorem execMediumSectorChange_of_medium (b : Bay) {track place : Nat} (change : MediumChange) {s : State} {m : Medium}
    (hm : (s.mechOf b).medium = some m) (ht : track < 16384) (hp : place < 17) :
    execMediumSectorChange b track place change s = .next (s.mapMech b fun k =>
      { k with medium := some (setCondition m (17 * track + place)
        (afterChange (conditionAt m (17 * track + place)) change)) }) := by
  simp only [execMediumSectorChange, if_pos (And.intro ht hp)]
  refine congrArg _ (mapMech_congr ?_)
  rw [hm]
  rfl

/-- A change acts on a DATA sector alone (R4). -/
theorem afterChange_of_not_data {c : Condition} (change : MediumChange) (h : ∀ d w, c ≠ .data d w) :
    afterChange c change = c := by
  cases c with
  | data d w => exact absurd rfl (h d w)
  | blank => rfl
  | unreadable => rfl

/-! ### The spin-down timer -/

theorem onBay_eq_false {b : Bay} {r : Rec} : onBay b r = false ↔ r.bay ≠ b ∧ r.kind ≠ .buildStep := by
  simp [onBay, isStep]

/-- The conditions of R22, one by one. -/
theorem timerHolds_iff (s : State) (b : Bay) :
    timerHolds s b = true ↔ (s.mechOf b).mode = .ready ∧ (∀ r ∈ s.recs, r.bay ≠ b ∧ r.kind ≠ .buildStep) ∧
      (s.schedOf b).pass = none ∧ (∀ x, s.stream = some x → x.bay ≠ b) ∧
      (∀ m, (s.mechOf b).map = some m → m.dirty = false) ∧ s.settings.spinDown.get b ≠ 0 := by
  have hstream : streamOn s b = false ↔ ∀ x, s.stream = some x → x.bay ≠ b := by
    unfold streamOn
    cases s.stream <;> simp
  have hrecs : (s.recs.all fun r => !onBay b r) = true ↔ ∀ r ∈ s.recs, r.bay ≠ b ∧ r.kind ≠ .buildStep := by
    simp [onBay_eq_false]
  simp only [timerHolds, Bool.and_eq_true, decide_eq_true_eq, hrecs, Bool.not_eq_true', hstream, passInFlight,
    Option.isSome_eq_false_iff, Option.isNone_iff_eq_none, and_assoc]
  cases (s.mechOf b).map <;> simp

/-- The conditions do not speak of the timers. -/
theorem timerHolds_setTimer (s : State) (b c : Bay) : timerHolds (setTimer c s) b = timerHolds s b := by
  have key : ∀ f : Mech → Mech, (∀ m, (f m).mode = m.mode ∧ (f m).map = m.map) →
      timerHolds (s.mapMech c f) b = timerHolds s b := fun f hf => by
    have h : ((s.mapMech c f).mechOf b).mode = (s.mechOf b).mode ∧ ((s.mapMech c f).mechOf b).map = (s.mechOf b).map := by
      rw [mechOf_mapMech]
      split
      · rename_i e
        rw [e]
        exact hf _
      · exact ⟨rfl, rfl⟩
    simp only [timerHolds, h.1, h.2]
    rfl
  unfold setTimer
  split
  · exact key _ fun _ => ⟨rfl, rfl⟩
  · exact key _ fun _ => ⟨rfl, rfl⟩

theorem setTimer_timer (s : State) (b : Bay) :
    ((setTimer b s).mechOf b).timer =
      if timerHolds s b = true then some ((s.mechOf b).timer.getD (s.settings.spinDown.get b)) else none := by
  unfold setTimer
  split
  · rw [State.mapMech_mechOf]
    cases (s.mechOf b).timer <;> rfl
  · rw [State.mapMech_mechOf]

theorem setTimer_mechOf_ne (s : State) {b c : Bay} (h : c ≠ b) : (setTimer b s).mechOf c = s.mechOf c := by
  unfold setTimer
  split <;> exact State.mapMech_mechOf_ne _ _ _ _ h

theorem setTimer_settings (s : State) (b : Bay) : (setTimer b s).settings = s.settings := by
  unfold setTimer
  split <;> rfl

/-- What follows at once does not touch a timer. -/
theorem timer_settles (b : Bay) (x : Option Nat) : Settles fun s => (s.mechOf b).timer = x := by
  have key : ∀ (c : Bay) (f : Mech → Mech) (s : State), (∀ m, (f m).timer = m.timer) → (s.mechOf b).timer = x →
      ((s.mapMech c f).mechOf b).timer = x := fun c f s hf h => by
    rw [mechOf_mapMech]
    split
    · rename_i e
      rw [hf, ← e, h]
    · exact h
  exact
    { sched := fun _ _ _ _ h => h
      slots := fun _ _ _ h => h
      recs := fun _ _ _ h => h
      create := fun _ _ _ h => h
      stream := fun _ _ h => h
      tally := fun _ _ h => h
      port := fun _ _ h => h
      mirror := fun _ _ h => h
      reply := fun _ _ _ _ _ h => h
      raise := fun _ _ _ h => h
      wake := fun c s h => key c _ s (fun m => by split <;> rfl) h
      map := fun c _ s _ h => key c _ s (fun _ => rfl) h
      damages := fun c s _ h => key c _ s (fun _ => rfl) h
      pass := fun _ _ _ _ h => h
      images := fun c _ s hf h => key c _ s (fun m => by rw [hf]) h
      choose := fun _ h => h
      remove := fun _ _ h => h
      stops := fun c s _ h => key c _ s (fun _ => rfl) h
      empties := fun c s _ h => key c _ s (fun _ => rfl) h }

/-- The timer at the end of a command's step (R22). -/
theorem conclude_timer (s : State) (b : Bay) :
    ((conclude s).mechOf b).timer =
      if timerHolds (conclude s) b = true then some ((s.mechOf b).timer.getD ((conclude s).settings.spinDown.get b))
      else none := by
  have ht : ((settle s).mechOf b).timer = (s.mechOf b).timer := (timer_settles b _).settle_keeps rfl
  have hset : (conclude s).settings = (settle s).settings := by
    rw [conclude, selectNext_settings, setTimer_settings, setTimer_settings]
  have hh : timerHolds (conclude s) b = timerHolds (settle s) b :=
    (timerHolds_setTimer _ b .B).trans (timerHolds_setTimer _ b .A)
  rw [hh, hset, ← ht]
  cases b with
  | A =>
    have h : (conclude s).mechOf .A = (setTimer .A (settle s)).mechOf .A := setTimer_mechOf_ne (b := .B) _ (by decide)
    rw [h, setTimer_timer]
  | B =>
    have h : (conclude s).mechOf .B = (setTimer .B (setTimer .A (settle s))).mechOf .B := rfl
    rw [h, setTimer_timer, timerHolds_setTimer, setTimer_settings, setTimer_mechOf_ne _ (by decide)]

/-! ### Release -/

theorem isEjecting_iff (m : BayMode) : isEjecting m = true ↔ ∃ kind former, m = .ejecting kind former := by
  cases m <;> simp [isEjecting]

/-- The conditions of R32, one by one. -/
theorem releaseHolds_iff (s : State) (b : Bay) :
    releaseHolds s b = true ↔ (∃ kind former, (s.mechOf b).mode = .ejecting kind former) ∧
      (∀ r ∈ s.recs, isEject r = false → r.bay ≠ b ∧ r.kind ≠ .buildStep) ∧ (s.schedOf b).pass = none ∧
      ((s.mechOf b).inhibit = true ∨ ∀ m, (s.mechOf b).map = some m → m.dirty = false) := by
  have hrecs : (s.recs.all fun r => isEject r || !onBay b r) = true ↔
      ∀ r ∈ s.recs, isEject r = false → r.bay ≠ b ∧ r.kind ≠ .buildStep := by
    simp only [List.all_eq_true, Bool.or_eq_true, Bool.not_eq_true', onBay_eq_false]
    refine forall_congr' fun r => forall_congr' fun _ => ?_
    cases isEject r <;> simp
  simp only [releaseHolds, Bool.and_eq_true, Bool.or_eq_true, isEjecting_iff, hrecs, Bool.not_eq_true', passInFlight,
    Option.isSome_eq_false_iff, Option.isNone_iff_eq_none, and_assoc]
  cases (s.mechOf b).map <;> simp

theorem ejectStep_of_not_holds {s : State} {b : Bay} (h : releaseHolds s b = false) : ejectStep b s = none := by
  simp [ejectStep, h]

theorem ejectStep_of_turning {s : State} {b : Bay} (h : releaseHolds s b = true)
    (hs : (s.mechOf b).spindle = .turning) : ejectStep b s = some (beginStop b s) := by
  simp [ejectStep, h, hs]

theorem ejectStep_of_stopped {s : State} {b : Bay} (h : releaseHolds s b = true)
    (hs : (s.mechOf b).spindle = .stopped) : ejectStep b s = some (release b s) := by
  simp [ejectStep, h, hs]

theorem ejectStep_of_changing {s : State} {b : Bay} (h : (s.mechOf b).spindle = .starting ∨ (s.mechOf b).spindle = .stopping) :
    ejectStep b s = none := by
  rcases h with h | h <;> simp [ejectStep, h]

/-- The bay at the moment of release, before its EJECT records end (R32, R75, R147). -/
def releasing (b : Bay) (s : State) : State :=
  raise b .cartridgeOut
    (((s.mapMech b fun m =>
      { m with mode := .empty, inhibit := false, spindle := .stopped, locked := false, medium := none, label := none,
               zones := none, map := none }).mapSched b fun c => { c with head := 0, active := none, stack := [] }).mapStream
      fun t => if t.bay = b then { t with bands := [], segments := [] } else t)

/-- A release empties the bay and ends its EJECT records (R32). -/
theorem release_eq (b : Bay) (s : State) :
    release b s = (seqsOf s fun r => isEject r && decide (r.bay = b)).foldl (fun t q => enterEnding q t) (releasing b s) := rfl

/-- A report raised is in the set (R185). -/
theorem mem_putReport (l : List Report) (r : Report) (h : r.body = .cartridgeOut) : r ∈ putReport l r := by
  induction l with
  | nil => exact List.mem_singleton.2 rfl
  | cons x xs ih =>
    unfold putReport
    split
    · have hm : mergeReport x r = r := by
        unfold mergeReport
        split
        · rename_i hb
          rw [h] at hb
          exact nomatch hb
        · rfl
      rw [hm]
      exact List.mem_cons_self
    · exact List.mem_cons_of_mem _ ih

/-- The EJECT records of the bay are found by their numbers, and end with its release. -/
theorem release_ends (b : Bay) {s : State} (hs : seqLaw s) :
    EjectsEnd b (releasing b s) (release b s) ∧
      ∀ r ∈ s.recs, isEject r = true → r.bay = b → ∃ x, (release b s).rec? r.seq = some x ∧ x.state = .ending := by
  have h := enterEnding_ejects (b := b) (seqsOf s fun r => isEject r && decide (r.bay = b)) (s := releasing b s)
    fun q hq => by
      obtain ⟨r, hr, rfl⟩ := List.mem_map.1 hq
      obtain ⟨hm, he⟩ := List.mem_filter.1 hr
      rw [Bool.and_eq_true, decide_eq_true_eq] at he
      exact ⟨r, rec?_of_mem hs hm, he.1, he.2⟩
  refine ⟨release_eq b s ▸ h.1, fun r hr he hb => ?_⟩
  rw [release_eq]
  exact h.2 r.seq (List.mem_map.2 ⟨r, List.mem_filter.2 ⟨hr, by simp [he, hb]⟩, rfl⟩)

/-- Each record after a release: an EJECT of the bay in ENDING, any other in the state it was in. -/
theorem release_rec (b : Bay) {s : State} (hs : seqLaw s) {r : Rec} (hr : r ∈ s.recs) :
    ∃ x, (release b s).rec? r.seq = some x ∧ x.endCause = r.endCause ∧ x.kind = r.kind ∧
      x.state = if isEject r = true ∧ r.bay = b then .ending else r.state := by
  obtain ⟨hend, hej⟩ := release_ends b hs
  obtain ⟨x, hx, ha, he, hst⟩ := hend.recs r.seq r (rec?_of_mem hs hr)
  refine ⟨x, hx, he, ha.kind, ?_⟩
  split
  · rename_i hc
    obtain ⟨y, hy, hys⟩ := hej r hr hc.1 hc.2
    cases hx.symm.trans hy
    exact hys
  · rename_i hc
    exact hst.resolve_right fun h => hc ⟨h.1, h.2.1⟩

/-! ### A bay that stays empty -/

/-- A mechanism as a release leaves it. -/
structure VacantMech (m : Mech) : Prop where
  mode : m.mode = .empty
  spindle : m.spindle = .stopped
  locked : m.locked = false
  medium : m.medium = none
  label : m.label = none
  map : m.map = none
  zones : m.zones = none
  inhibit : m.inhibit = false

/-- A bay as a release leaves it, with no PREPARE on it. -/
structure Vacant (b : Bay) (s : State) : Prop where
  mech : VacantMech (s.mechOf b)
  head : (s.schedOf b).head = 0
  prepare : prepareOn s b = false

section
variable {b : Bay} {s : State} (h : Vacant b s)
include h

theorem Vacant.mapMech {c : Bay} {f : Mech → Mech} (hf : c = b → VacantMech (f (s.mechOf b))) :
    Vacant b (s.mapMech c f) where
  mech := by
    rw [mechOf_mapMech]
    split
    · rename_i e
      subst e
      exact hf rfl
    · exact h.mech
  head := h.head
  prepare := h.prepare

theorem Vacant.mapSched {c : Bay} {f : Sched → Sched} (hf : ∀ k, (f k).head = k.head) : Vacant b (s.mapSched c f) where
  mech := h.mech
  head := by
    rw [schedOf_mapSched]
    split
    · rename_i e
      rw [hf, ← e, h.head]
    · exact h.head
  prepare := h.prepare

theorem Vacant.not_ejecting {c : Bay} (he : isEjecting (s.mechOf c).mode = true) : c ≠ b := by
  rintro rfl
  rw [h.mech.mode] at he
  exact nomatch he

end

/-- Within one event no PREPARE comes to a bay (R29). -/
theorem prepareOn_quiet (b : Bay) : Quiet fun s => prepareOn s b = false := by
  refine Quiet.of_recs (R := fun l => (l.any fun r => isPrepare r && decide (r.bay = b)) = false)
    (fun f l hf h => ?_) fun r l hr h => ?_
  · rw [List.any_map, ← h]
    refine congrArg (List.any l) (funext fun r => ?_)
    simp [(hf r).isPrepare, (hf r).bay]
  · rw [List.any_append, h]
    simp [isPrepare_internal hr]

theorem removeRec_prepareOn {s : State} {b : Bay} (q : Nat) (h : prepareOn s b = false) :
    prepareOn (removeRec q s) b = false := by
  simp only [prepareOn, removeRec, State.withRecs_recs, List.any_map, List.any_eq_false] at h ⊢
  exact fun r hr => h r (List.mem_of_mem_filter hr)

/-- A bay that a release has left stays as it is in all that follows. -/
theorem vacant_concludes (b : Bay) : Concludes (Vacant b) where
  sched _ _ _ hf h := h.mapSched fun k => (hf k).2
  slots _ _ _ h := { h with }
  recs f s hf h := { h with prepare := (prepareOn_quiet b).recs f s hf h.prepare }
  create r s hr h := { h with prepare := (prepareOn_quiet b).create r s hr h.prepare }
  stream _ _ h := { h with }
  tally _ _ h := { h with }
  port _ _ h := { h with }
  mirror _ _ h := { h with }
  reply _ _ _ _ _ h := { h with }
  raise _ _ _ h := { h with }
  wake c s h := h.mapMech fun _ => by
    rw [if_neg (by rw [h.mech.mode]; exact nofun)]
    exact h.mech
  map c f s _ h := h.mapMech fun _ => { h.mech with map := by rw [h.mech.map]; rfl }
  damages c s hp h := h.mapMech fun e => by
    rw [e, h.prepare] at hp
    exact nomatch hp
  pass _ _ _ hf h := h.mapSched hf
  images c f s hf h := h.mapMech fun _ => by
    rw [hf]
    exact { h.mech with }
  choose _ h := { h with }
  remove q _ h := { h with prepare := removeRec_prepareOn q h.prepare }
  stops c s he h := h.mapMech fun e => absurd e (h.not_ejecting he)
  empties c s he h := by
    have hc := h.not_ejecting he
    exact
      { mech := (h.mapMech fun e => absurd e hc).mech
        head := (congrArg Sched.head (State.mapSched_schedOf_ne _ c b _ hc.symm)).trans h.head
        prepare := h.prepare }
  timer c f s hf h := h.mapMech fun _ => by
    rw [hf]
    exact { h.mech with }
  select _ h := { h with }

/-- A release leaves its bay empty (R32). -/
theorem release_vacant {b : Bay} {s : State} (hs : seqLaw s) (hp : prepareOn s b = false) : Vacant b (release b s) := by
  have h := (release_ends b hs).1
  refine ⟨?_, (h.head b).trans ?_, ?_⟩
  · rw [show (release b s).mechOf b = (releasing b s).mechOf b by simp only [State.mechOf, h.mech]]
    cases b <;> exact ⟨rfl, rfl, rfl, rfl, rfl, rfl, rfl, rfl⟩
  · cases b <;> rfl
  · rw [release_eq]
    exact foldl_keeps (P := fun t => prepareOn t b = false) (f := fun t q => enterEnding q t)
      (fun _ q ht => (prepareOn_quiet b).enterEnding_keeps q ht) _ _ hp

/-- With the release conditions held, no PREPARE is on the bay. -/
theorem prepareOn_of_releaseHolds {s : State} {b : Bay} (h : releaseHolds s b = true) : prepareOn s b = false := by
  obtain ⟨_, hr, _⟩ := (releaseHolds_iff s b).1 h
  simp only [prepareOn, List.any_eq_false, Bool.and_eq_true, decide_eq_true_eq, not_and]
  intro r hm hp
  refine (hr r hm ?_).1
  unfold isPrepare at hp
  split at hp
  · rename_i e
    simp [isEject, e]
  · exact nomatch hp

/-- With no creation and no leaving first, and the other bay not EJECTING, the release is what follows next. -/
theorem nextStep_release {b : Bay} {s : State} (hc : creationStep s = none) (hl : leaveStep s = none)
    (hr : releaseHolds s b = true) (hs : (s.mechOf b).spindle = .stopped)
    (ho : isEjecting (s.mechOf b.other).mode = false) : nextStep s = some (release b s) := by
  have he := ejectStep_of_stopped hr hs
  cases b with
  | A => simp only [nextStep, hc, hl, he]
  | B =>
    have hn : ejectStep .A s = none := ejectStep_of_not_holds (by
      rw [Bool.eq_false_iff]
      exact fun h => Bool.noConfusion (ho.symm.trans (releaseHolds_ejecting h)))
    simp only [nextStep, hc, hl, he, hn]

end Sys2Proof.Machine

namespace Sys2Proof.Cartridge

open Machine

/-- The spin-down timer at the end of a command's step, condition by condition. -/
theorem timer_at_conclusion (b : Bay) (s t : State) (ht : t = conclude s) :
    ((t.mechOf b).mode = .ready → (∀ r ∈ t.recs, r.bay ≠ b ∧ r.kind ≠ .buildStep) → (t.schedOf b).pass = none →
      (∀ x : Stream, t.stream = some x → x.bay ≠ b) → (∀ m : DefectMap, (t.mechOf b).map = some m → m.dirty = false) →
      t.settings.spinDown.get b ≠ 0 →
      (t.mechOf b).timer = some ((s.mechOf b).timer.getD (t.settings.spinDown.get b))) ∧
    ((t.mechOf b).mode ≠ .ready ∨ (∃ r ∈ t.recs, r.bay = b ∨ r.kind = .buildStep) ∨ (t.schedOf b).pass ≠ none ∨
      (∃ x : Stream, t.stream = some x ∧ x.bay = b) ∨
      (∃ m : DefectMap, (t.mechOf b).map = some m ∧ m.dirty = true) ∨ t.settings.spinDown.get b = 0 →
      (t.mechOf b).timer = none) := by
  subst ht
  refine ⟨fun h1 h2 h3 h4 h5 h6 => ?_, fun h => ?_⟩
  · rw [conclude_timer, if_pos ((timerHolds_iff _ _).2 ⟨h1, h2, h3, h4, h5, h6⟩)]
  · rw [conclude_timer, if_neg]
    intro hh
    obtain ⟨h1, h2, h3, h4, h5, h6⟩ := (timerHolds_iff _ _).1 hh
    rcases h with h | ⟨r, hr, h⟩ | h | ⟨x, hx, h⟩ | ⟨m, hm, h⟩ | h
    · exact h h1
    · exact h.elim (h2 r hr).1 (h2 r hr).2
    · exact h h3
    · exact h4 x hx h
    · exact absurd h (by simp [h5 m hm])
    · exact h6 h

/-- Settles O40: each event by its condition, the timer by R22's, and the release by the bay staying vacant. -/
theorem restAndStop : Obligations.RestAndStop := by
  refine ⟨fun b s => ⟨fun n hn hr => ?_, fun h => ?_, fun hr ht => ?_, fun h => ?_, fun hs => ?_, fun hs => ?_,
      fun track place change => ⟨execMediumSectorChange_of_none b track place change s, fun m hm hw ht hp => ?_⟩⟩,
    timer_at_conclusion, fun b s => releaseHolds_iff s b,
    fun b s => ⟨ejectStep_of_not_holds, fun h => ⟨ejectStep_of_turning h, ejectStep_of_stopped h, ejectStep_of_changing⟩⟩,
    ?_, ?_⟩
  · simp only [exec, execSpinDownTimerExpiry, hn, hr, Option.isSome_some, decide_true, Bool.and_self, if_true]
    rfl
  · simp only [exec, execSpinDownTimerExpiry]
    rcases h with h | h <;> simp [h]
  · simp only [exec, execSpindleStop, hr, ht, decide_true, Bool.and_self, if_true]
    rfl
  · simp only [exec, execSpindleStop]
    rcases h with h | h <;> simp [h]
  · simp only [exec, execStopCompletion, if_pos hs, stopDone]
    exact congrArg (fun u => Host.Outcome.next (conclude u)) (mapMech_congr rfl)
  · simp only [exec, execStopCompletion, if_neg hs]
  · refine ⟨_, execMediumSectorChange_of_medium b change hm ht hp, setCondition_wf _ _ hw, fun k hk => ?_,
      fun d w hd => ?_, fun hd => ?_⟩
    · rw [conditionAt_setCondition _ _ _ hw, if_neg hk]
    · rw [conditionAt_setCondition _ _ _ hw, if_pos rfl, hd]
      cases change <;> rfl
    · rw [conditionAt_setCondition _ _ _ hw, if_pos rfl, afterChange_of_not_data change hd]
  · rintro b s t hs rfl
    have h := (release_ends b hs).1
    have hm : (release b s).mechOf b = (releasing b s).mechOf b := by simp only [State.mechOf, h.mech]
    rw [hm]
    refine ⟨?_, ?_, ?_, ?_, ?_, ?_, ?_, ?_, (h.head b).trans ?_, h.active ?_, h.stack ?_, ?_, fun r => release_rec b hs⟩
    any_goals (cases b <;> rfl)
    rw [h.link]
    exact mem_putReport _ _ rfl
  · intro b s u hs hsp hu hr ho hc hl
    have hw : (s.mechOf b).mode ≠ .waking := by
      intro e
      obtain ⟨⟨kind, former, hm⟩, _⟩ := (releaseHolds_iff u b).1 hr
      rw [hu, State.mapMech_mechOf] at hm
      exact nomatch e.symm.trans hm
    have hd : stopDone b s = u := by
      rw [hu]
      exact mapMech_congr (by rw [if_neg hw])
    have hstopped : (u.mechOf b).spindle = .stopped := by rw [hu, State.mapMech_mechOf]
    have hother : isEjecting (u.mechOf b.other).mode = false := by
      rw [Bool.eq_false_iff, Ne, isEjecting_iff, hu, State.mapMech_mechOf_ne _ _ _ _ (Bay.other_ne b)]
      rintro ⟨kind, former, hm⟩
      exact ho kind former hm
    have hn := nextStep_release hc hl hr hstopped hother
    have hset : settle u = settleFor 299 (release b u) := by
      rw [settle, settleFor, hn]
    have hvac : Vacant b (settleFor 299 (release b u)) :=
      settleFor_keeps (fun _ _ e hv => (vacant_concludes b).nextStep_keeps e hv) 299 _
        (release_vacant (by rw [hu]; exact hs) (prepareOn_of_releaseHolds hr))
    have hv : Vacant b (conclude u) := by
      have h1 := (vacant_concludes b).setTimer_keeps .B ((vacant_concludes b).setTimer_keeps .A (hset ▸ hvac))
      exact (vacant_concludes b).select _ h1
    refine ⟨conclude u, ?_, hset, hv.mech.mode, hv.mech.spindle, hv.mech.locked, hv.mech.medium, hv.mech.label,
      hv.mech.map, hv.mech.zones, hv.mech.inhibit, hv.head⟩
    simp only [exec, execStopCompletion, if_pos hsp, hd]

end Sys2Proof.Cartridge
end

section
/-! What a pass makes of its record's sectors (R99, R100, R105, R106, R107). -/

namespace Sys2Proof.Machine

/-! ### ERASE and WRITE passes -/

theorem mapRec_mapRec (s : State) (q : Nat) {f : Rec → Rec} (g : Rec → Rec) (hf : ∀ r, (f r).seq = r.seq) :
    (s.mapRec q f).mapRec q g = s.mapRec q fun r => g (f r) := by
  refine congrArg s.withRecs ?_
  simp only [State.mapRec, State.withRecs_recs, List.map_map]
  refine congrArg (List.map · s.recs) (funext fun r => ?_)
  by_cases h : r.seq = q
  · simp [h, hf]
  · simp [h]

/-- Give the listed sectors of a record a progress. -/
def Rec.markAll (pr : Progress) (is : List Nat) (r : Rec) : Rec :=
  { r with sectors := is.foldl (fun l i => l.modify i fun x => { x with progress := pr }) r.sectors }

theorem markAll_cons (pr : Progress) (i : Nat) (is : List Nat) (r : Rec) :
    r.markAll pr (i :: is) = (r.mapSector i fun x => { x with progress := pr }).markAll pr is := rfl

theorem markAll_getElem? (pr : Progress) (is : List Nat) (r : Rec) (k : Nat) :
    (r.markAll pr is).sectors[k]? =
      r.sectors[k]?.map fun x => if k ∈ is then { x with progress := pr } else x := by
  induction is generalizing r with
  | nil => simp [Rec.markAll]
  | cons i is ih =>
    rw [markAll_cons, ih, Rec.mapSector, List.getElem?_modify, Option.map_eq_map, Option.map_map]
    refine congrArg (Option.map · r.sectors[k]?) (funext fun x => ?_)
    by_cases hi : i = k
    · simp [hi]
    · simp [hi, Ne.symm hi]

/-- An ERASE or WRITE pass marks its record's covered sectors, and changes nothing else (R105, R106). -/
theorem settleSectors_marks (q : Nat) {p : Pass} (rs : List SectorResponse) (m : Medium) (hp : p.relocation = false)
    {pr : Progress} (h : (p.action = .erase ∧ pr = .erased) ∨ (p.action = .write ∧ pr = .written)) (is : List Nat) (j : Nat)
    (s : State) : settleSectors q p rs m j is s = s.mapRec q (Rec.markAll pr is) := by
  induction is generalizing j s with
  | nil =>
    have hid : (fun r : Rec => if r.seq = q then r else r) = id := funext fun r => ite_self r
    exact (show s.withRecs (s.recs.map fun r => if r.seq = q then r else r) = s by rw [hid, List.map_id]; rfl).symm
  | cons i is ih =>
    have h1 : settleSector q p rs m j i s = mapSectorOf q i (fun x => { x with progress := pr }) s := by
      rcases h with ⟨ha, rfl⟩ | ⟨ha, rfl⟩ <;> simp [settleSector, ha, advance, hp]
    rw [settleSectors, h1, ih]
    exact mapRec_mapRec s q _ fun _ => rfl

/-! ### The RETRIED flag -/

/-- A property that a change of flags keeps is kept where a sector's attempts are noted (R70). -/
theorem noteTries_keeps {P : State → Prop} (h : ∀ p t, P t → P (t.mapRec p (Rec.flag · setRetried))) (q n : Nat) {s : State}
    (hs : P s) : P (noteTries q n s) := by
  unfold noteTries flagRecord
  split
  · split
    · exact hs
    · dsimp only
      split
      · exact foldl_keeps (P := P) (f := fun t p => t.mapRec p (Rec.flag · setRetried)) (fun t p => h p t) _ _ (h q s hs)
      · exact h q s hs
  · exact hs

theorem noteTries_mirrorPrimary (q n : Nat) (s : State) : mirrorPrimary (noteTries q n s) = mirrorPrimary s :=
  noteTries_keeps (P := fun t => mirrorPrimary t = mirrorPrimary s) (fun _ _ h => h) q n rfl

/-- A change of flags leaves each record's sectors. -/
theorem noteTries_sectors {q : Nat} {s : State} {r : Rec} (n : Nat) (h : s.rec? q = some r) :
    ∃ t, (noteTries q n s).rec? q = some t ∧ t.sectors = r.sectors := by
  refine noteTries_keeps (P := fun u => ∃ t, u.rec? q = some t ∧ t.sectors = r.sectors) (fun p u hu => ?_) q n ⟨r, h, rfl⟩
  obtain ⟨t, ht, hs⟩ := hu
  refine ⟨_, (rec?_mapRec p q (f := (Rec.flag · setRetried)) fun _ => ⟨rfl, rfl, rfl, rfl, rfl, rfl, rfl⟩).trans
    (congrArg _ ht), ?_⟩
  dsimp only
  split
  · exact hs
  · exact hs

/-- A sector changed after its attempts are noted. -/
theorem mapSectorOf_noteTries {q : Nat} {s : State} {r : Rec} (n i : Nat) (f : Sector → Sector) (h : s.rec? q = some r) :
    ∃ t, (mapSectorOf q i f (noteTries q n s)).rec? q = some t ∧ t.sectors = r.sectors.modify i f := by
  obtain ⟨t, ht, hs⟩ := noteTries_sectors n h
  exact ⟨_, rec?_mapRec_same (fun _ => ⟨rfl, rfl, rfl, rfl, rfl, rfl, rfl⟩) ht, congrArg (List.modify · i f) hs⟩

/-! ### One sector of a READ pass -/

section
variable {q i : Nat} {r : Rec} {x : Sector} {s : State} (hr : s.rec? q = some r) (hx : r.sectors[i]? = some x)
include hr hx

theorem settleRead_blank :
    settleRead q i .blank s = mapSectorOf q i (fun y => { y with progress := .failed, attempts := 0, cause := some .blank })
      (noteTries q (x.attempts + 1) s) := by
  simp only [settleRead, hr, hx, foundTries]

theorem settleRead_retries {n : Nat} (hn : x.attempts + n < 4) :
    settleRead q i (.failed n) s =
      mapSectorOf q i (fun y => { y with attempts := x.attempts + n }) (noteTries q (x.attempts + n) s) := by
  simp only [settleRead, hr, hx, foundTries, if_neg (Nat.not_le.2 hn)]

theorem settleRead_givesUp {n : Nat} (hn : 4 ≤ x.attempts + n) (hf : isRead r = false ∨ mirrorPrimary s ≠ some r.bay) :
    settleRead q i (.failed n) s =
      mapSectorOf q i (fun y => { y with progress := .failed, attempts := 0, cause := some .unreadable })
        (noteTries q (x.attempts + n) s) := by
  have hno : fallbackApplies (noteTries q (x.attempts + n) s) r (r.first + i) = false := by
    rcases hf with hf | hf <;> simp [fallbackApplies, noteTries_mirrorPrimary, hf]
  simp only [settleRead, hr, hx, foundTries, if_pos hn, readGivesUp, hno, rec?_seq hr, Bool.false_eq_true, if_false]

/-! ### One sector of a VERIFY pass -/

theorem settleVerify_matched (bytes : Data) (n : Nat) :
    settleVerify q i (.data bytes n) bytes s = mapSectorOf q i (fun y => { y with progress := .verified, attempts := 0 })
      (noteTries q (x.attempts + n) s) := by
  simp only [settleVerify, hr, hx, foundTries, verdictOf, if_true]

theorem settleVerify_retries {n : Nat} (bytes : Data) (hn : x.attempts + n < 4) :
    settleVerify q i (.failed n) bytes s =
      mapSectorOf q i (fun y => { y with attempts := x.attempts + n }) (noteTries q (x.attempts + n) s) := by
  simp only [settleVerify, hr, hx, foundTries, verdictOf, if_neg (Nat.not_le.2 hn)]

/-- A verify fails for good on other bytes, on BLANK, and on the fourth failed attempt in all (R107). -/
theorem settleVerify_givesUp {found : Found} {bytes : Data} {n : Nat} {cause : Cause}
    (h : (∃ (d : Data) (k : Nat), found = .data d k ∧ d ≠ bytes ∧ n = x.attempts + k ∧ cause = .unreadable) ∨
      (found = .blank ∧ n = x.attempts + 1 ∧ cause = .blank) ∨
      (∃ k : Nat, found = .failed k ∧ n = x.attempts + k ∧ 4 ≤ n ∧ cause = .unreadable)) :
    settleVerify q i found bytes s = verifyGivesUp r i cause (noteTries q n s) := by
  rcases h with ⟨d, k, rfl, hd, rfl, rfl⟩ | ⟨rfl, rfl, rfl⟩ | ⟨k, rfl, rfl, h4, rfl⟩
  · simp only [settleVerify, hr, hx, foundTries, verdictOf, if_neg hd]
  · simp only [settleVerify, hr, hx, foundTries, verdictOf]
  · simp only [settleVerify, hr, hx, foundTries, verdictOf, if_pos h4]

end

theorem verifyGivesUp_relocates {r : Rec} (i : Nat) (c : Cause) (s : State) (hl : isLabelWriter r = false)
    (hk : r.kind ≠ .buildStep) : verifyGivesUp r i c s = startRelocation r.seq i s := by
  simp [verifyGivesUp, hl, isStep, hk]

theorem verifyGivesUp_label {r : Rec} (i : Nat) (c : Cause) (s : State) (hl : isLabelWriter r = true) :
    verifyGivesUp r i c s =
      mapSectorOf r.seq i (fun y => { y with progress := .failed, attempts := 0, cause := some c }) s := if_pos hl

theorem verifyGivesUp_step {r : Rec} (i : Nat) (c : Cause) (s : State) (hk : r.kind = .buildStep) :
    verifyGivesUp r i c s = mapSectorOf r.seq i (fun y => { y with progress := .failed, attempts := 0 }) s := by
  have hl : isLabelWriter r = false := by simp [isLabelWriter, isPrepare, isSetZones, isFlush, hk]
  simp [verifyGivesUp, hl, isStep, hk]

end Sys2Proof.Machine

namespace Sys2Proof.Cartridge

open Machine

/-- Settles O42: an ERASE or WRITE pass marks its items, and one sector of a READ or VERIFY pass goes by its verdict. -/
theorem sectorOutcomes : Obligations.SectorOutcomes := by
  refine ⟨⟨fun q p rs m s hp pr hpr => ?_, fun q i r x s _ hr hx => ⟨fun bytes n => ?_, ?_, fun n hn => ?_, fun n hn hf => ?_⟩⟩,
    fun q i n r x found bytes s hr hx => ⟨fun cause hc => ⟨fun hl hk => ?_, fun hl => ?_, fun hk => ?_⟩, ?_⟩,
    fun q i j is p rs m found s hfound => ⟨rfl, fun ha => ?_, fun ha hp => ?_, fun ha hp => ?_, fun pr hpr hp => ?_⟩,
    fun q i p r s ho hr => ⟨fun hp x hx => ?_, fun hp t ht => ?_⟩⟩
  · rw [settleSectors_marks q rs m hp hpr]
    refine ⟨rfl, List.length_map .., fun k r hk => ⟨_, (List.getElem?_map ..).trans (congrArg _ hk), ?_⟩⟩
    dsimp only
    split
    · rename_i hq
      exact ⟨rfl, fun h => absurd hq h, fun _ => markAll_getElem? pr p.items r⟩
    · rename_i hq
      exact ⟨rfl, fun _ => rfl, fun h => absurd h hq⟩
  · rw [settleVerify_matched hr hx]
    exact mapSectorOf_noteTries _ _ _ hr
  · rw [settleRead_blank hr hx]
    exact mapSectorOf_noteTries _ _ _ hr
  · rw [settleRead_retries hr hx hn]
    exact mapSectorOf_noteTries _ _ _ hr
  · rw [settleRead_givesUp hr hx hn hf]
    exact mapSectorOf_noteTries _ _ _ hr
  · rw [settleVerify_givesUp hr hx hc, verifyGivesUp_relocates i cause _ hl hk, rec?_seq hr]
  · rw [settleVerify_givesUp hr hx hc, verifyGivesUp_label i cause _ hl, rec?_seq hr]
    rfl
  · rw [settleVerify_givesUp hr hx hc, verifyGivesUp_step i cause _ hk, rec?_seq hr]
    rfl
  · rintro k rfl rfl hn
    exact settleVerify_retries hr hx bytes hn
  · rw [hfound, settleSectors, settleSector, ha]
    rfl
  · rw [hfound, settleSectors, settleSector, ha, hp]
    rfl
  · rw [hfound, settleSectors, settleSector, ha, hp]
    rfl
  · rcases hpr with ⟨ha, rfl⟩ | ⟨ha, rfl⟩ <;>
    · rw [settleSectors, settleSector, ha, hp]
      rfl
  · simp [attemptsBefore, ho, hr, hp, hx]
  · simp [attemptsBefore, ho, hr, hp, Rec.try?, ht]

end Sys2Proof.Cartridge
end

section
/-! The write-inhibit flag where two records have one number (R52, R122). -/

namespace Sys2Proof.Machine

/-- A PREPARE past its first pass start and a flush not yet started, both on bay A under one number: the law of the
numbers (R52) excludes such a table. -/
def twins : State :=
  { State.reset with
    slots := []
    recs :=
      [{ newRec (.prepare 0 []) (some (1, 7)) .A 3 0 0 (List.replicate 6 (newSector .pending)) [] with
          seq := 4
          started := true },
       { newRec .mapFlush none .A 3 0 0 (List.replicate 4 (newSector .pending)) [] with seq := 4 }] }

/-- The number of the flush finds the PREPARE first, which is cancelled in its place; its damage clears the flag (R30). -/
theorem setInhibit_twins : ((setInhibit .A twins).mechOf .A).inhibit = false := by decide

end Sys2Proof.Machine

namespace Sys2Proof.Cartridge

open Machine

/-- Refutes O56: the clause that `setInhibit` leaves the flag set is stated for every state, without the law of the
numbers that another of its clauses assumes. Where a started PREPARE has the number of an unstarted flush, the flush's
cancellation cancels the PREPARE, and the flag is clear. -/
theorem not_flushAndLabelEnds : ¬ Obligations.FlushAndLabelEnds := by
  rintro ⟨-, -, -, hinhibit, -⟩
  have hset : ((setInhibit .A twins).mechOf .A).inhibit = true := (hinhibit .A twins).2.1
  exact Bool.noConfusion (setInhibit_twins.symm.trans hset)

end Sys2Proof.Cartridge
end

section
/-! The label track read back as it was recorded (R12 to R16). -/

namespace Sys2Proof.Machine

/-! ### Numbers in bytes -/

theorem toBytes_getD {k i : Nat} (n : Nat) (h : i < k) :
    (toBytes k n).getD i 0 = BitVec.ofNat 8 (n / 256 ^ (k - 1 - i)) := by
  induction k generalizing i with
  | zero => exact absurd h (Nat.not_lt_zero i)
  | succ k ih =>
    cases i with
    | zero => rfl
    | succ i => rw [toBytes, List.getD_cons_succ, ih (by omega), show k + 1 - 1 - (i + 1) = k - 1 - i by omega]

/-- A field reads the number spelled in its place: after `j` of the `k` bytes it has read the number's upper part. -/
theorem fieldAt_of_eq {d pre post : Data} {at0 k n : Nat} (hd : d = pre ++ toBytes k n ++ post) (hp : pre.length = at0)
    (hn : n < 256 ^ k) : fieldAt d at0 k = n := by
  have hbyte : ∀ i < k, d.getD (at0 + i) 0 = BitVec.ofNat 8 (n / 256 ^ (k - 1 - i)) := fun i hi => by
    rw [hd, ← hp, List.append_assoc, List.getD_append_right _ _ _ _ (Nat.le_add_right ..), Nat.add_sub_cancel_left,
      List.getD_append _ _ _ _ (by simpa using hi), toBytes_getD n hi]
  have key : ∀ j ≤ k, fieldAt d at0 j = n / 256 ^ (k - j) := by
    intro j hj
    induction j with
    | zero => exact (Nat.div_eq_of_lt hn).symm
    | succ j ih =>
      have hstep : n / 256 ^ (k - j) = n / 256 ^ (k - (j + 1)) / 256 := by
        rw [Nat.div_div_eq_div_mul, ← pow_succ, show k - (j + 1) + 1 = k - j by omega]
      have hnext : fieldAt d at0 (j + 1) = fieldAt d at0 j * 256 + (d.getD (at0 + j) 0).toNat := by
        simp [fieldAt, List.range_succ]
      rw [hnext, ih (by omega), hstep, hbyte j hj, BitVec.toNat_ofNat, show k - 1 - j = k - (j + 1) by omega]
      exact Nat.div_add_mod' _ 256
  rw [key k le_rfl, Nat.sub_self, pow_zero, Nat.div_one]

/-- A byte is its own number's spelling. -/
theorem toBytes_one (x : BitVec 8) : toBytes 1 x.toNat = [x] := by simp [toBytes]

/-! ### Sectors of the label track -/

theorem padTo_of_le {n : Nat} {d : Data} (h : d.length ≤ n) : padTo n d = d ++ List.replicate (n - d.length) 0 :=
  List.take_of_length_le (by simp; omega)

theorem padTo_length (n : Nat) (d : Data) : (padTo n d).length = n := by
  simp [padTo]
  omega

theorem padTo_self {n : Nat} {d : Data} (h : d.length = n) : padTo n d = d := by
  simp [padTo_of_le h.le, h]

theorem labelSector_take (content : Data) : (labelSector content).take 1022 = padTo 1022 content := by
  rw [labelSector, List.take_append_of_le_length (by rw [padTo_length]), List.take_of_length_le (by rw [padTo_length])]

/-- Every label-track sector passes its check (R12). -/
theorem passesCheck_labelSector (content : Data) : passesCheck (labelSector content) = true := by
  have hfield : fieldAt (labelSector content) 1022 2 = checkWord (padTo 1022 content) :=
    fieldAt_of_eq (post := []) (by rw [labelSector, List.append_nil]) (padTo_length 1022 content)
      (Nat.mod_lt _ (by decide))
  rw [passesCheck, labelSector_take, hfield, beq_self_eq_true]

/-- A label-track sector begins with its content. -/
theorem labelSector_content {content : Data} (h : content.length ≤ 1022) :
    ∃ post, labelSector content = content ++ post := by
  rw [labelSector, padTo_of_le h]
  exact ⟨_, List.append_assoc ..⟩

/-! ### Records of one width in a row -/

/-- The record in place `i` of a row of records of one width. -/
theorem exists_record {α : Type} {f : α → Data} {w : Nat} (hw : ∀ x, (f x).length = w) {d pre post : Data} {l : List α}
    (hd : d = pre ++ l.flatMap f ++ post) {i : Nat} (hi : i < l.length) :
    ∃ before after, d = before ++ f l[i] ++ after ∧ before.length = pre.length + w * i := by
  refine ⟨pre ++ (l.take i).flatMap f, (l.drop (i + 1)).flatMap f ++ post, ?_, ?_⟩
  · rw [hd]
    have hl : l.flatMap f = (l.take i).flatMap f ++ (f l[i] ++ (l.drop (i + 1)).flatMap f) := by
      rw [← List.flatMap_cons, List.cons_getElem_drop_succ, ← List.flatMap_append, List.take_append_drop]
    simp only [hl, List.append_assoc]
  · have hlen : ∀ m : List α, (m.flatMap f).length = w * m.length := fun m => by
      induction m with
      | nil => rfl
      | cons x m ih => rw [List.flatMap_cons, List.length_append, hw, ih, List.length_cons, Nat.mul_succ, Nat.add_comm]
    rw [List.length_append, hlen, List.length_take, Nat.min_eq_left hi.le]

/-! ### The label -/

section
variable {l : Label} (hn : l.name.length = 16)
include hn

/-- The bytes of the label's sector (Table 2-1), its name in full. -/
theorem labelImage_content : ∃ post, labelImage l =
    identityText ++ toBytes 1 1 ++ toBytes 4 l.serial.toNat ++ l.name ++ toBytes 2 l.preparations ++ post := by
  obtain ⟨post, h⟩ := labelSector_content
    (content := identityText ++ toBytes 1 1 ++ toBytes 4 l.serial.toNat ++ l.name ++ toBytes 2 l.preparations)
    (by simp [hn, identityText])
  refine ⟨post, h ▸ ?_⟩
  rw [labelImage, padTo_self hn]
  rfl

theorem labelImage_identity : (labelImage l).take 4 = identityText ∧ fieldAt (labelImage l) 4 1 = 1 := by
  obtain ⟨post, h⟩ := labelImage_content hn
  refine ⟨by rw [h]; rfl, fieldAt_of_eq (pre := identityText)
    (post := toBytes 4 l.serial.toNat ++ l.name ++ toBytes 2 l.preparations ++ post) ?_ rfl (by decide)⟩
  simp only [h, List.append_assoc]

theorem labelOfBytes_labelImage (hp : l.preparations < 65536) : labelOfBytes (labelImage l) = l := by
  obtain ⟨post, h⟩ := labelImage_content hn
  have hserial : fieldAt (labelImage l) 5 4 = l.serial.toNat :=
    fieldAt_of_eq (pre := identityText ++ toBytes 1 1) (post := l.name ++ toBytes 2 l.preparations ++ post)
      (by simp only [h, List.append_assoc]) rfl l.serial.isLt
  have hprep : fieldAt (labelImage l) 25 2 = l.preparations :=
    fieldAt_of_eq (pre := identityText ++ toBytes 1 1 ++ toBytes 4 l.serial.toNat ++ l.name) h
      (by simp [hn, identityText]) hp
  have hname : ((labelImage l).drop 9).take 16 = l.name := by
    rw [h, show identityText ++ toBytes 1 1 ++ toBytes 4 l.serial.toNat ++ l.name ++ toBytes 2 l.preparations ++ post =
      (identityText ++ toBytes 1 1 ++ toBytes 4 l.serial.toNat) ++ (l.name ++ (toBytes 2 l.preparations ++ post)) by
        simp only [List.append_assoc], List.drop_left' (by simp [identityText]), List.take_left' hn]
  cases l
  simp only [labelOfBytes, hserial, hprep, hname, BitVec.ofNat_toNat, BitVec.setWidth_eq]

end

/-! ### The zone table -/

/-- The masks' high bits are zero (R171). -/
def masked (z : Zone) : Prop := z.readMask &&& 0x0F#8 = z.readMask ∧ z.writeMask &&& 0x0F#8 = z.writeMask

theorem mem_insertZone {x z : Zone} {l : List Zone} (h : x ∈ insertZone z l) : x = z ∨ x ∈ l := by
  induction l with
  | nil => exact .inl (List.mem_singleton.1 h)
  | cons y ys ih =>
    unfold insertZone at h
    split at h
    · exact List.mem_cons.1 h
    · rcases List.mem_cons.1 h with rfl | h
      · exact .inr List.mem_cons_self
      · exact (ih h).imp id (List.mem_cons_of_mem y)

/-- Sorting disregards the masks' high bits (R171, R173). -/
theorem masked_of_mem_sortZones (zs : List Zone) : ∀ x ∈ sortZones zs, masked x := by
  refine List.foldlRecOn (motive := fun acc : List Zone => ∀ x ∈ acc, masked x) zs _ (fun _ hx => nomatch hx)
    fun acc hacc z _ x hx => ?_
  rcases mem_insertZone hx with rfl | hx
  · exact ⟨by rw [BitVec.and_assoc, BitVec.and_self], by rw [BitVec.and_assoc, BitVec.and_self]⟩
  · exact hacc x hx

theorem zoneBytes_length (z : Zone) : (zoneBytes z).length = 10 := by simp [zoneBytes]

theorem zoneBytes_masked {z : Zone} (h : masked z) :
    zoneBytes z = toBytes 4 z.first ++ toBytes 4 z.last ++ toBytes 1 z.readMask.toNat ++ toBytes 1 z.writeMask.toNat := by
  simp [zoneBytes, toBytes_one, h.1, h.2]

/-- A zone in bounds reads back from its ten bytes (Table 2-2). -/
theorem zoneAt_of_eq {d before after : Data} {z : Zone} {i : Nat} (hd : d = before ++ zoneBytes z ++ after)
    (hb : before.length = 1 + 10 * i) (hm : masked z) (hz : zoneInBounds z = true) : zoneAt d i = z := by
  rw [zoneBytes_masked hm] at hd
  have hbounds : z.first ≤ z.last ∧ z.last ≤ 277422 := by
    rw [zoneInBounds, Bool.and_eq_true, decide_eq_true_eq, decide_eq_true_eq] at hz
    exact hz
  have hfirst : fieldAt d (1 + 10 * i) 4 = z.first :=
    fieldAt_of_eq (pre := before)
      (post := toBytes 4 z.last ++ toBytes 1 z.readMask.toNat ++ toBytes 1 z.writeMask.toNat ++ after)
      (by simp only [hd, List.append_assoc]) hb (by omega)
  have hlast : fieldAt d (5 + 10 * i) 4 = z.last :=
    fieldAt_of_eq (pre := before ++ toBytes 4 z.first)
      (post := toBytes 1 z.readMask.toNat ++ toBytes 1 z.writeMask.toNat ++ after)
      (by simp only [hd, List.append_assoc]) (by simp [hb]; omega) (by omega)
  have hread : fieldAt d (9 + 10 * i) 1 = z.readMask.toNat :=
    fieldAt_of_eq (pre := before ++ toBytes 4 z.first ++ toBytes 4 z.last) (post := toBytes 1 z.writeMask.toNat ++ after)
      (by simp only [hd, List.append_assoc]) (by simp [hb]; omega) z.readMask.isLt
  have hwrite : fieldAt d (10 + 10 * i) 1 = z.writeMask.toNat :=
    fieldAt_of_eq (pre := before ++ toBytes 4 z.first ++ toBytes 4 z.last ++ toBytes 1 z.readMask.toNat) (post := after)
      (by simp only [hd, List.append_assoc]) (by simp [hb]; omega) z.writeMask.isLt
  obtain ⟨hr, hw⟩ := hm
  cases z
  simp only [zoneAt, hfirst, hlast, hread, hwrite, BitVec.ofNat_toNat, BitVec.setWidth_eq]
  simp_all

section
variable {zs : List Zone} (hc : zs.length ≤ 8)
include hc

/-- The bytes of the zone table's sector (Table 2-2). -/
theorem zonesImage_content : ∃ post, zonesImage zs = toBytes 1 zs.length ++ zs.flatMap zoneBytes ++ post := by
  refine labelSector_content ?_
  have hlen : (zs.flatMap zoneBytes).length = 10 * zs.length := by
    simp [List.length_flatMap, zoneBytes_length, Nat.mul_comm]
  simp [hlen]
  omega

theorem zonesImage_count : fieldAt (zonesImage zs) 0 1 = zs.length := by
  obtain ⟨post, h⟩ := zonesImage_content hc
  exact fieldAt_of_eq (pre := []) (post := zs.flatMap zoneBytes ++ post) (by rw [h, List.append_assoc]; rfl) rfl (by omega)

/-- The zones in bounds read back in their order. -/
theorem zonesImage_zones (hb : zs.all zoneInBounds = true) (hm : ∀ z ∈ zs, masked z) :
    (List.range zs.length).map (zoneAt (zonesImage zs)) = zs := by
  obtain ⟨post, h⟩ := zonesImage_content hc
  refine List.ext_getElem (by simp) fun i _ hi => ?_
  rw [List.getElem_map, List.getElem_range]
  obtain ⟨before, after, hd, hlen⟩ := exists_record zoneBytes_length h hi
  exact zoneAt_of_eq hd (by simpa using hlen) (hm _ (List.getElem_mem hi)) (List.all_eq_true.1 hb _ (List.getElem_mem hi))

end

/-! ### The Defect Map -/

theorem entriesAscend_le {es : List (Nat × Nat)} (h : entriesAscend es = true) : ∀ e ∈ es, e.1 ≤ Config.lastLogical := by
  induction es with
  | nil => exact nofun
  | cons e es ih =>
    cases es with
    | nil =>
      intro x hx
      rw [List.mem_singleton.1 hx]
      simpa [entriesAscend] using h
    | cons f es =>
      obtain ⟨hlt, hrest⟩ : e.1 < f.1 ∧ entriesAscend (f :: es) = true := by simpa [entriesAscend] using h
      intro x hx
      rcases List.mem_cons.1 hx with rfl | hx
      · exact hlt.le.trans (ih hrest f List.mem_cons_self)
      · exact ih hrest x hx

/-- Six bytes of a map's entry (Table 2-3). -/
def entryBytes (e : Nat × Nat) : Data := toBytes 4 e.1 ++ toBytes 2 e.2

theorem entryBytes_length (e : Nat × Nat) : (entryBytes e).length = 6 := by simp [entryBytes]

section
variable {m : DefectMap} (hm : mapSound m = true)
include hm

/-- What R16 gives of a map's numbers. -/
theorem mapSound_bounds :
    m.entries.length ≤ 512 ∧ m.cursor ≤ 1088 ∧ ∀ e ∈ m.entries, e.1 ≤ 277422 ∧ e.2 < m.cursor := by
  simp only [mapSound, Bool.and_eq_true, decide_eq_true_eq, List.all_eq_true] at hm
  obtain ⟨⟨⟨⟨hlen, hcur⟩, hasc⟩, hlt⟩, -⟩ := hm
  exact ⟨hlen, hcur, fun e he => ⟨entriesAscend_le hasc e he, hlt e he⟩⟩

/-- The map bytes (Table 2-3), and that they fill four sectors' contents. -/
theorem mapBytes_content (n : Nat) : ∃ post, mapBytes m n =
    toBytes 2 m.entries.length ++ toBytes 2 m.cursor ++ toBytes 2 n ++ m.entries.flatMap entryBytes ++ post := by
  have hlen : (m.entries.flatMap entryBytes).length = 6 * m.entries.length := by
    simp [List.length_flatMap, entryBytes_length, Nat.mul_comm]
  refine ⟨_, padTo_of_le (d := toBytes 2 m.entries.length ++ toBytes 2 m.cursor ++ toBytes 2 n ++
    m.entries.flatMap entryBytes) ?_⟩
  have := (mapSound_bounds hm).1
  simp [hlen]
  omega

/-- A sound map reads back from its map bytes. -/
theorem mapOfBytes_mapBytes {n : Nat} (hn : n < 65536) :
    mapOfBytes (mapBytes m n) = { m with flushCount := n, dirty := false, pending := .none, flushing := none } := by
  obtain ⟨post, h⟩ := mapBytes_content hm n
  obtain ⟨hlen, hcur, hent⟩ := mapSound_bounds hm
  have hcount : fieldAt (mapBytes m n) 0 2 = m.entries.length :=
    fieldAt_of_eq (pre := []) (post := toBytes 2 m.cursor ++ toBytes 2 n ++ m.entries.flatMap entryBytes ++ post)
      (by simp only [h, List.append_assoc, List.nil_append]) rfl (by omega)
  have hcursor : fieldAt (mapBytes m n) 2 2 = m.cursor :=
    fieldAt_of_eq (pre := toBytes 2 m.entries.length) (post := toBytes 2 n ++ m.entries.flatMap entryBytes ++ post)
      (by simp only [h, List.append_assoc]) (by simp) (by omega)
  have hflush : fieldAt (mapBytes m n) 4 2 = n :=
    fieldAt_of_eq (pre := toBytes 2 m.entries.length ++ toBytes 2 m.cursor) (post := m.entries.flatMap entryBytes ++ post)
      (by simp only [h, List.append_assoc]) (by simp) (by omega)
  have hentries : (List.range m.entries.length).map
      (fun i => (fieldAt (mapBytes m n) (6 + 6 * i) 4, fieldAt (mapBytes m n) (10 + 6 * i) 2)) = m.entries := by
    refine List.ext_getElem (by simp) fun i _ hi => ?_
    obtain ⟨before, after, hd, hb⟩ := exists_record entryBytes_length h hi
    obtain ⟨h1, h2⟩ := hent _ (List.getElem_mem hi)
    rw [List.getElem_map, List.getElem_range]
    refine Prod.ext ?_ ?_
    · exact fieldAt_of_eq (pre := before) (post := toBytes 2 m.entries[i].2 ++ after)
        (by simp only [hd, entryBytes, List.append_assoc]) (by simpa using hb) (by omega)
    · exact fieldAt_of_eq (pre := before ++ toBytes 4 m.entries[i].1) (post := after)
        (by simp only [hd, entryBytes, List.append_assoc]) (by simp [hb]; omega) (by omega)
  simp only [mapOfBytes, hcount, hcursor, hflush, hentries]

end

/-- The four sectors of map bytes hold them in order (R15). -/
theorem mapImages_bytes {bytes : Data} (h : bytes.length = 4088) :
    (labelSector (bytes.take 1022)).take 1022 ++ (labelSector ((bytes.drop 1022).take 1022)).take 1022 ++
      (labelSector ((bytes.drop 2044).take 1022)).take 1022 ++ (labelSector ((bytes.drop 3066).take 1022)).take 1022 =
      bytes := by
  have hpart : ∀ k, k + 1022 ≤ 4088 → padTo 1022 ((bytes.drop k).take 1022) = (bytes.drop k).take 1022 :=
    fun k hk => padTo_self (by simp [h]; omega)
  have hjoin : ∀ k, (bytes.drop k).take 1022 ++ bytes.drop (k + 1022) = bytes.drop k := fun k => by
    rw [← List.drop_drop, List.take_append_drop]
  have hlast : (bytes.drop 3066).take 1022 = bytes.drop 3066 := List.take_of_length_le (by simp [h])
  have h0 := hpart 0 (by decide)
  rw [List.drop_zero] at h0
  simp only [labelSector_take]
  rw [h0, hpart 1022 (by decide), hpart 2044 (by decide), hpart 3066 (by decide), hlast, List.append_assoc, hjoin 2044,
    List.append_assoc, hjoin 1022, List.take_append_drop]

/-! ### The class of a label track -/

/-- Six sectors that meet every condition of R16. -/
theorem classOfData_sound {s0 s1 s2 s3 s4 s5 bytes : Data} {zs : List Zone}
    (hcheck : [s0, s1, s2, s3, s4, s5].all passesCheck = true) (hid : s0.take 4 = identityText ∧ fieldAt s0 4 1 = 1)
    (hcount : fieldAt s1 0 1 = zs.length) (h8 : zs.length ≤ 8) (hzs : (List.range zs.length).map (zoneAt s1) = zs)
    (hb : zs.all zoneInBounds = true) (ho : anyOverlap zs = false)
    (hbytes : s2.take 1022 ++ s3.take 1022 ++ s4.take 1022 ++ s5.take 1022 = bytes)
    (hm : mapSound (mapOfBytes bytes) = true) :
    classOfData s0 s1 s2 s3 s4 s5 = .sound (labelOfBytes s0) (sortZones zs) (mapOfBytes bytes) := by
  have hentries : fieldAt bytes 0 2 ≤ Config.maxEntries := by
    have h := (mapSound_bounds hm).1
    rwa [mapOfBytes, List.length_map, List.length_range] at h
  simp only [classOfData, hcheck, hid.1, hid.2, hcount, h8, hzs, hb, ho, hbytes, hentries, hm, decide_true, Bool.and_true,
    Bool.not_false, if_true]

/-- Soundness does not speak of the flush (R16). -/
theorem mapSound_congr {m m' : DefectMap} (he : m'.entries = m.entries) (hc : m'.cursor = m.cursor) :
    mapSound m' = mapSound m := by
  simp only [mapSound, he, hc]

end Sys2Proof.Machine

namespace Sys2Proof.Cartridge

open Machine

/-- Settles O8, by reading each field back from the place where it is spelled. -/
theorem labelTrackReadsBack : Obligations.LabelTrackReadsBack := by
  intro l zs m n hname hprep hcount hbounds hoverlap hsort hmap hn
  have hmasked : ∀ z ∈ zs, masked z := hsort ▸ masked_of_mem_sortZones zs
  have hback := mapOfBytes_mapBytes hmap hn
  have hsound : mapSound (mapOfBytes (mapBytes m n)) = true := by
    rw [hback]
    exact (mapSound_congr rfl rfl).trans hmap
  have hcheck : (labelImage l :: zonesImage zs :: mapImages (mapBytes m n)).all passesCheck = true := by
    simp [mapImages, labelImage, zonesImage, passesCheck_labelSector]
  refine (classOfData_sound hcheck (labelImage_identity hname) (zonesImage_count hcount) hcount
    (zonesImage_zones hcount hbounds hmasked) hbounds hoverlap (mapImages_bytes (padTo_length 4088 _)) hsound).trans ?_
  rw [labelOfBytes_labelImage hname hprep, hsort, hback]

end Sys2Proof.Cartridge
end


section
/-! A suspension against RUN_TO_END. The law of the stacks lets a mode set wait behind an empty stack; a BUILD_STEP that
enters its write phase within a preemption puts it in effect, and the record tried next then suspends the active one. -/

namespace Sys2Proof.Machine

/-- An active READ of level 5 with RUN_TO_END set and not yet in effect; above it, in the order of trial, a BUILD_STEP that
has read its last sector, and a waiting READ of level 4. The bay is triggered. -/
def overtaking0 : State :=
  let r4 := { rec0 .read 4 1 [newSector .unread] with state := .active, started := true, level := 5 }
  let b5 := { newRec .buildStep none .B 3 100 1 [newSector .read] [] with seq := 5, started := true }
  let r6 := { rec0 .read 6 1 [newSector .unread] with link := some (1, 8), first := 1, level := 4 }
  { with0 [r4, b5, r6] with
    sched := ⟨{ Sched.reset with active := some 4, modeSet := .runToEnd, triggered := true }, Sched.reset⟩
    pending := [.unbind 0 0] }

/-- What an UNBIND leaves of it. -/
def overtaken0 : State := conclude (doneNow 0 0 0 (unbindMirror false (overtaking0.withPending [])))

theorem overtaking0_steps : step overtaking0 = .next overtaken0 := rfl

/-- READ 4 stands suspended while RUN_TO_END is in effect. -/
theorem overtaken0_stack : (overtaken0.schedOf .A).mode = .runToEnd ∧ (overtaken0.schedOf .A).stack = [4] := by
  decide +kernel

theorem overtaking0_stackLaw : stackLaw overtaking0 := by
  refine ⟨⟨by decide, by decide, by decide, by decide, by decide, by decide, trivial⟩, by decide, fun b => ?_⟩
  cases b with
  | A =>
    refine ⟨fun q h => ?_, (fun q h => nomatch h), by decide, by decide, by decide⟩
    cases h
    exact ⟨_, rfl, rfl, rfl, rfl, rfl⟩
  | B => exact ⟨(fun q h => nomatch h), (fun q h => nomatch h), by decide, by decide, by decide⟩

theorem overtaking0_bayKept (b : Bay) : bayKept overtaking0 b := by
  cases b <;> exact ⟨by decide, by decide, by decide, by decide⟩

/-- Its records that need a cartridge are on bay A, which is READY; it has no PREPARE. -/
theorem overtaking0_tenantsKept (b : Bay) : tenantsKept overtaking0 b := by
  have tenants : ∀ r ∈ overtaking0.recs, needsCartridge r = true → r.bay = .A ∧ r.endCause.isSome = false := by decide
  have prepares : ∀ r ∈ overtaking0.recs, isPrepare r = false := by decide
  rintro r hr rfl
  refine ⟨fun needs => ?_, fun hp => absurd hp (by simp [prepares r hr])⟩
  obtain ⟨bay, cause⟩ := tenants r hr needs
  rw [bay]
  exact ⟨by decide, by decide, fun _ => ⟨by decide, fun h => absurd h (by simp [cause])⟩⟩

theorem overtaking0_pairKept : pairKept overtaking0 := ⟨fun h => absurd rfl h, by decide⟩

theorem overtaking0_spareLaw : spareLaw overtaking0 := by
  intro b m h
  cases b <;> cases h
  decide

theorem overtaking0_passKept (b : Bay) : passKept overtaking0 b := by
  cases b <;> exact fun _ _ h => nomatch h

/-- No record of it relocates. -/
theorem overtaking0_triesKept : triesKept overtaking0 := by
  have none : ∀ r ∈ overtaking0.recs, r.relocations = [] := by decide
  intro r hr t ht
  rw [none r hr] at ht
  exact nomatch ht

theorem overtaking0_relocationLaw : relocationLaw overtaking0 :=
  ⟨overtaking0_stackLaw, overtaking0_spareLaw, overtaking0_bayKept, overtaking0_tenantsKept, overtaking0_pairKept,
    overtaking0_passKept, overtaking0_triesKept⟩

end Sys2Proof.Machine

namespace Sys2Proof.Bays
open Machine

/-- Refutes O37: the law does not say that a mode set waits only behind a stack, so a BUILD_STEP entering its write phase
within a preemption puts RUN_TO_END in effect before the next record tried suspends the active one. -/
theorem not_relocationLawKept : ¬ Obligations.RelocationLawKept := by
  intro h
  have kept : relocationLaw overtaken0 := h.1 _ _ overtaking0_relocationLaw (by decide) overtaking0_steps
  obtain ⟨mode, stack⟩ := overtaken0_stack
  obtain ⟨⟨_, _, suspensions⟩, _⟩ := kept
  obtain ⟨_, _, _, _, runsToEnd⟩ := suspensions .A
  exact absurd (stack.symm.trans (runsToEnd mode)) (by decide)

end Sys2Proof.Bays
end


section
/-! The state after reset: every law of `Safety` holds of it, for nothing is in its table, list, slots or schedulers. -/

namespace Sys2Proof.Machine

theorem reset_mechOf (b : Bay) : State.reset.mechOf b = Mech.reset := by cases b <;> rfl

theorem reset_schedOf (b : Bay) : State.reset.schedOf b = Sched.reset := by cases b <;> rfl

/-- No pass is in flight, so a law over the passes in flight says nothing of it. -/
theorem reset_no_pass (b : Bay) (p : Pass) : (State.reset.schedOf b).pass ≠ some p := by
  rw [reset_schedOf]
  exact Option.some_ne_none p |>.symm

theorem reset_no_map (b : Bay) (m : DefectMap) : (State.reset.mechOf b).map ≠ some m := by
  rw [reset_mechOf]
  exact Option.some_ne_none m |>.symm

theorem reset_stackLaw : stackLaw State.reset := by
  refine ⟨trivial, (fun _ h => nomatch h), fun b => ?_⟩
  unfold stackKept placed
  rw [reset_schedOf]
  exact ⟨(fun q h => nomatch h), (fun q h => nomatch h), List.Pairwise.nil, Nat.zero_le 7, fun _ => rfl⟩

theorem reset_spareLaw : spareLaw State.reset := fun b m h => absurd h (reset_no_map b m)

theorem reset_bayKept (b : Bay) : bayKept State.reset b := by cases b <;> exact ⟨by decide, by decide, by decide, by decide⟩

theorem reset_relocationLaw : relocationLaw State.reset :=
  ⟨reset_stackLaw, reset_spareLaw, reset_bayKept, (fun _ _ h => nomatch h), ⟨fun h => absurd rfl h, fun _ h => nomatch h⟩,
    (fun b p _ h => absurd h (reset_no_pass b p)), fun _ h => nomatch h⟩

theorem reset_writeLaw : writeLaw State.reset :=
  ⟨reset_stackLaw, (fun _ h => nomatch h), (fun _ h => nomatch h), fun _ _ _ _ h => nomatch h⟩

/-- Every slot is free, so none has a holder. -/
theorem reset_holderLaw : holderLaw State.reset := by
  refine ⟨trivial, fun x hx q hq => ?_⟩
  rw [List.eq_of_mem_replicate hx] at hq
  exact nomatch hq

end Sys2Proof.Machine

namespace Sys2Proof.Bays
open Machine

/-- Settles O3: the values by evaluation, the laws one by one. -/
theorem resetValues : Obligations.ResetValues := by
  refine ⟨⟨rfl, rfl, by decide +kernel, List.length_replicate, rfl, rfl, rfl, rfl, rfl, rfl, rfl, rfl, rfl, rfl, rfl, rfl, rfl, rfl, rfl, rfl,
    fun b => ?_⟩, List.length_replicate, ⟨by decide, by decide⟩, rfl, rfl, fun b m h => absurd h (reset_no_map b m),
    reset_mediumLaw, (fun t h => nomatch h), ⟨by decide, by decide, rfl, by decide, by decide, by decide⟩, reset_spareLaw,
    (fun b p _ _ _ h => absurd h (reset_no_pass b p)), ⟨(fun t h => nomatch h), fun b p _ h => absurd h (reset_no_pass b p)⟩,
    trivial, (fun p h => nomatch h), reset_holderLaw, reset_stackLaw, reset_writeLaw, reset_relocationLaw⟩
  rw [reset_mechOf, reset_schedOf]
  exact ⟨rfl, rfl, rfl, rfl, rfl, rfl, rfl, rfl, rfl, rfl, rfl, rfl, rfl, rfl, rfl, rfl⟩

end Sys2Proof.Bays
end


section
/-! Waking, triggering and creating, by what each leaves; then the READ and the WRITE that no check refuses. -/

namespace Sys2Proof.Machine

variable {b : Bay} {s : State}

theorem wake_resting (h : (s.mechOf b).mode = .resting) :
    wake b s = s.mapMech b fun m =>
      { m with mode := .waking, spindle := if (s.mechOf b).spindle = .stopped then .starting else (s.mechOf b).spindle } :=
  mapMech_congr (if_pos h)

theorem wake_other (h : (s.mechOf b).mode ≠ .resting) : wake b s = s := mapMech_self (if_neg h)

theorem trigger_schedOf : (trigger b s).schedOf b = { s.schedOf b with triggered := true } :=
  s.sched.get_upd_same b _

theorem trigger_schedOf_other : (trigger b s).schedOf b.other = s.schedOf b.other := s.sched.get_upd_other b _

theorem makeDecision_in_flight (h : passInFlight s b = true) : makeDecision b s = answerTrigger b s := if_pos h

theorem makeDecision_cannot_start (hp : passInFlight s b = false) (hc : canStart s b = false) :
    makeDecision b s = s.mapSched b fun c => { c with triggered := false, last := .cannotStart } := by
  unfold makeDecision
  rw [hp, if_neg Bool.false_ne_true, if_pos hc]
  cases b <;> rfl

/-- The state in which a record stands at the end of the table and no bay is yet woken or triggered. -/
def withCreated (r : Rec) (s : State) : State :=
  { s with recs := s.recs ++ [{ r with seq := s.nextSeq }], counter := s.counter + 1 }

/-- An EJECT wakes and triggers nothing (R31). -/
theorem createRec_eject {r : Rec} (h : isEject r = true) : createRec r s = withCreated r s := if_pos h

/-- Any other record but a BUILD_STEP wakes its bay and triggers it. -/
theorem createRec_wakes {r : Rec} (he : isEject r = false) (hs : isStep r = false) :
    createRec r s = trigger r.bay (wake r.bay (withCreated r s)) := by
  have bay : schedBay r = r.bay := by rw [schedBay, hs]; rfl
  unfold createRec
  simp only [he, hs, bay, Bool.false_eq_true, if_false]
  rfl

theorem onLink_released {t : State} (h : s.link.resetLine = false) : onLink s t = t := if_neg (by simp [h])

theorem takeAsk_accepted {a : Ask} {accept : Bay → State → State} (h : requestCode s a = none) (hb : a.bay = some b) :
    takeAsk a accept s = conclude (accept b s) := by
  unfold takeAsk
  rw [h, hb]

theorem takeAsk_refused {a : Ask} {accept : Bay → State → State} {c : Code} (h : requestCode s a = some c) :
    takeAsk a accept s = selectNext (refuse a.ch a.tag c s) := by
  unfold takeAsk
  rw [h]

/-- A WRITE to a bay that is no primary creates its own record alone. -/
theorem acceptWrite_unmirrored {a : Ask} (h : mirrorPrimary s ≠ some b) :
    acceptWrite a b s = reply a.ch a.tag .grant (some s.nextSeq)
      (createRec (askRec a b (writeSectors ((freeIds s).take a.count)) []) (claim (.record s.nextSeq) a.count s).1) := by
  unfold acceptWrite
  simp only [h, if_false]
  rfl

end Sys2Proof.Machine

namespace Sys2Proof.Bays
open Machine

/-- Settles O23. -/
theorem wakeAndTrigger : Obligations.WakeAndTrigger :=
  ⟨fun _ _ => wake_resting, fun _ _ => wake_other, fun _ _ => ⟨rfl, trigger_schedOf_other, trigger_schedOf⟩,
    fun _ _ => makeDecision_in_flight, fun _ _ => makeDecision_cannot_start⟩

/-- Settles O19: acceptance is the creation of the one record, after the claim for a WRITE. -/
theorem transferTaken : Obligations.TransferTaken := by
  refine ⟨fun ch tag b first count level s hl hc => ?_, fun ch tag b first count level s hl hc hm => ?_⟩
  · calc exec (.read ch tag (some b) first count level) s
        = .next (onLink s (takeRead ch tag (some b) first count level s)) := rfl
      _ = .next (conclude (acceptRead (readAsk ch tag (some b) first count level) b s)) := by
        rw [onLink_released hl, takeRead, takeAsk_accepted hc rfl]
      _ = _ := by rw [acceptRead, createRec_wakes rfl rfl]; rfl
  · calc exec (.write ch tag (some b) first count level) s
        = .next (onLink s (takeWrite ch tag (some b) first count level s)) := rfl
      _ = .next (conclude (acceptWrite (writeAsk ch tag (some b) first count level) b s)) := by
        rw [onLink_released hl, takeWrite, takeAsk_accepted hc rfl]
      _ = _ := by
        rw [acceptWrite_unmirrored hm, createRec_wakes rfl rfl]
        rfl

end Sys2Proof.Bays
end

section
/-! Slots claimed by number, and the WRITE to the primary of a mirror. -/

namespace Sys2Proof.Machine

theorem freeIdsFrom_ge (l : List Slot) (n : Nat) : ∀ i ∈ freeIdsFrom n l, n ≤ i := by
  induction l generalizing n with
  | nil => exact fun _ h => nomatch h
  | cons x xs ih =>
    intro i hi
    have later : i ∈ freeIdsFrom (n + 1) xs → n ≤ i := fun h => Nat.le_of_succ_le (ih (n + 1) i h)
    unfold freeIdsFrom at hi
    split at hi
    · cases hi with
      | head => exact Nat.le_refl _
      | tail _ h => exact later h
    · exact later hi

theorem freeIdsFrom_nodup (l : List Slot) (n : Nat) : (freeIdsFrom n l).Nodup := by
  induction l generalizing n with
  | nil => exact List.nodup_nil
  | cons x xs ih =>
    unfold freeIdsFrom
    split
    · exact List.nodup_cons.mpr ⟨fun h => Nat.not_succ_le_self n (freeIdsFrom_ge xs (n + 1) n h), ih (n + 1)⟩
    · exact ih (n + 1)

theorem foldl_set_getElem? {α : Type} (x : α) (ids : List Nat) (l : List α) (j : Nat) :
    (ids.foldl (fun acc i => acc.set i x) l)[j]? = if j ∈ ids then l[j]?.map fun _ => x else l[j]? := by
  induction ids generalizing l with
  | nil => rfl
  | cons i is ih =>
    rw [List.foldl_cons, ih, List.getElem?_set']
    by_cases hij : i = j
    · subst hij
      simp only [if_true, List.mem_cons, true_or, Option.map_eq_map, Option.map_map]
      split <;> rfl
    · have : j ∈ i :: is ↔ j ∈ is := by simp [Ne.symm hij]
      simp only [hij, if_false, this]

/-- Over numbers that differ each place is changed once. -/
theorem foldl_modify_getElem? {α : Type} (f : α → α) {ids : List Nat} (h : ids.Nodup) (l : List α) (j : Nat) :
    (ids.foldl (fun acc i => acc.modify i f) l)[j]? = if j ∈ ids then l[j]?.map f else l[j]? := by
  induction ids generalizing l with
  | nil => rfl
  | cons i is ih =>
    obtain ⟨hi, his⟩ := List.nodup_cons.mp h
    rw [List.foldl_cons, ih his, List.getElem?_modify]
    by_cases hij : i = j
    · subst hij
      simp [hi]
    · have : j ∈ i :: is ↔ j ∈ is := by simp [Ne.symm hij]
      simp [hij, this]

/-- Sharing the slots just put under one holder leaves them under both. -/
theorem shareSlots_putSlots {h k : Holder} {d : Option Data} {ids : List Nat} (hn : ids.Nodup) (s : State) :
    shareSlots k ids (putSlots ids (.held [h] d) s) = putSlots ids (.held [h, k] d) s := by
  refine congrArg s.withSlots (List.ext_getElem? fun j => ?_)
  unfold putSlots
  rw [foldl_modify_getElem? _ hn, State.withSlots_slots, foldl_set_getElem?, foldl_set_getElem?]
  split
  · rw [Option.map_map]
    rfl
  · rfl

theorem seqsAscend_lt {lo c : Nat} {l : List Rec} (h : seqsAscend lo c l) : ∀ r ∈ l, r.seq < c := by
  induction l generalizing lo with
  | nil => exact fun _ hr => nomatch hr
  | cons x xs ih =>
    obtain ⟨_, hx, hxs⟩ := h
    intro r hr
    cases hr with
    | head => exact hx
    | tail _ hr => exact ih hxs r hr

theorem seqLaw.lt_nextSeq {s : State} (h : seqLaw s) : ∀ r ∈ s.recs, r.seq < s.nextSeq := seqsAscend_lt h

/-- A change of the record just created touches it alone. -/
theorem mapRec_withCreated {s : State} (h : seqLaw s) (r : Rec) {f : Rec → Rec}
    (hf : f { r with seq := s.nextSeq } = { f r with seq := s.nextSeq }) :
    (withCreated r s).mapRec s.nextSeq f = withCreated (f r) s := by
  have old : (s.recs.map fun x => if x.seq = s.nextSeq then f x else x) = s.recs :=
    (List.map_congr_left fun x hx => if_neg (h.lt_nextSeq x hx).ne).trans (List.map_id' _)
  unfold withCreated State.mapRec State.withRecs
  simp only [List.map_append, old, List.map_cons, List.map_nil, if_true, hf]

theorem createInternal_kept {s : State} {r : Rec} (h : forcedOut (s.mechOf r.bay).mode = false) :
    createInternal r s = createRec r s := by
  unfold createInternal
  simp only [h, Bool.false_and, Bool.false_eq_true, if_false]

theorem wake_mechOf_ne {b c : Bay} (s : State) (h : c ≠ b) : (wake b s).mechOf c = s.mechOf c := by
  rw [wake, mechOf_mapMech, if_neg h]

theorem createCopy_kept {s : State} {a : Ask} {b : Bay} {w : Nat} {ids : List Nat}
    (h : forcedOut (s.mechOf b.other).mode = false) :
    createCopy a b w ids s = trigger b.other (wake b.other (withCreated
      (newRec .mirrorCopy none b.other a.level a.first a.count (writeSectors ids) [w])
      (shareSlots (.record s.nextSeq) ids (s.mapRec w fun x => { x with partners := [s.nextSeq] })))) := by
  unfold createCopy
  rw [createInternal_kept h, createRec_wakes rfl rfl]
  rfl

/-- A WRITE to the primary creates its record and then its copy, each the other's partner, over the slots claimed. -/
theorem acceptWrite_mirrored {s : State} {a : Ask} {b : Bay} (hw : a.kind = .write) (hs : seqLaw s)
    (h : mirrorPrimary s = some b) (hf : forcedOut (s.mechOf b.other).mode = false) :
    acceptWrite a b s = reply a.ch a.tag .grant (some s.nextSeq) (trigger b.other (wake b.other (trigger b (wake b
      (withCreated
        (newRec .mirrorCopy none b.other a.level a.first a.count (writeSectors ((freeIds s).take a.count)) [s.nextSeq])
        (withCreated (askRec a b (writeSectors ((freeIds s).take a.count)) [(s.counter + 1).toNat])
          (putSlots ((freeIds s).take a.count)
            (.held [.record s.nextSeq, .record (s.counter + 1).toNat] none) s))))))) := by
  have distinct : ((freeIds s).take a.count).Nodup := (freeIdsFrom_nodup s.slots 0).sublist (List.take_sublist _ _)
  have unfolded : acceptWrite a b s = reply a.ch a.tag .grant (some s.nextSeq) (createCopy a b s.nextSeq
      ((freeIds s).take a.count) (createRec (askRec a b (writeSectors ((freeIds s).take a.count)) [])
        (putSlots ((freeIds s).take a.count) (.held [.record s.nextSeq] none) s))) := by
    unfold acceptWrite
    simp only [h, if_true]
    rfl
  rw [unfolded]
  generalize (freeIds s).take a.count = ids at distinct ⊢
  have plain : isEject (askRec a b (writeSectors ids) []) = false ∧ isStep (askRec a b (writeSectors ids) []) = false := by
    simp [askRec, newRec, isEject, isStep, hw]
  let claimed := putSlots ids (.held [.record s.nextSeq] none) s
  have partnered : (withCreated (askRec a b (writeSectors ids) []) claimed).mapRec s.nextSeq
      (fun x => { x with partners := [(s.counter + 1).toNat] }) =
      withCreated (askRec a b (writeSectors ids) [(s.counter + 1).toNat]) claimed :=
    mapRec_withCreated (s := claimed) hs _ rfl
  have shared := shareSlots_putSlots (h := .record s.nextSeq) (k := .record (s.counter + 1).toNat) (d := none) distinct s
  rw [createRec_wakes plain.1 plain.2, createCopy_kept]
  · calc _ = reply a.ch a.tag .grant (some s.nextSeq) (trigger b.other (wake b.other (trigger b (wake b
          (withCreated (newRec .mirrorCopy none b.other a.level a.first a.count (writeSectors ids) [s.nextSeq])
            (shareSlots (.record (s.counter + 1).toNat) ids ((withCreated (askRec a b (writeSectors ids) []) claimed).mapRec
              s.nextSeq fun x => { x with partners := [(s.counter + 1).toNat] }))))))) := rfl
      _ = reply a.ch a.tag .grant (some s.nextSeq) (trigger b.other (wake b.other (trigger b (wake b
          (withCreated (newRec .mirrorCopy none b.other a.level a.first a.count (writeSectors ids) [s.nextSeq])
            (withCreated (askRec a b (writeSectors ids) [(s.counter + 1).toNat])
              (shareSlots (.record (s.counter + 1).toNat) ids claimed))))))) := by rw [partnered]; rfl
      _ = _ := by rw [shared]
  · calc _ = forcedOut ((wake b s).mechOf b.other).mode := rfl
      _ = false := by rw [wake_mechOf_ne s b.other_ne, hf]

end Sys2Proof.Machine

namespace Sys2Proof.Bays
open Machine

/-- Settles O20. -/
theorem mirroredWriteTaken : Obligations.MirroredWriteTaken := by
  intro ch tag b first count level s hl hs hc hm hf
  calc exec (.write ch tag (some b) first count level) s
      = .next (onLink s (takeWrite ch tag (some b) first count level s)) := rfl
    _ = .next (conclude (acceptWrite (writeAsk ch tag (some b) first count level) b s)) := by
      rw [onLink_released hl, takeWrite, takeAsk_accepted hc rfl]
    _ = _ := by
      rw [acceptWrite_mirrored rfl hs hm hf]
      simp only [withCreated, List.append_assoc, BitVec.add_assoc]
      rfl

end Sys2Proof.Bays
end

section
/-! The checks of a link request, one by one, and what it takes to pass them all. -/

namespace Sys2Proof.Machine

variable {s : State} {b : Bay}

theorem firstCode_eq_none {cs : List (Bool × Code)} : firstCode cs = none ↔ ∀ p ∈ cs, p.1 = false := by
  induction cs with
  | nil => simp [firstCode]
  | cons p cs ih =>
    obtain ⟨refused, c⟩ := p
    cases refused <;> simp [firstCode, ih]

/-- The first check that fails gives its code. -/
theorem firstCode_first {passed : List (Bool × Code)} (c : Code) (later : List (Bool × Code))
    (h : ∀ p ∈ passed, p.1 = false) : firstCode (passed ++ (true, c) :: later) = some c := by
  induction passed with
  | nil => rfl
  | cons p ps ih =>
    obtain ⟨hp, hps⟩ := List.forall_mem_cons.mp h
    obtain ⟨refused, d⟩ := p
    subst hp
    exact ih hps

/-- A request passes when none of its checks fails; one that names no bay fails check 2. -/
theorem requestCode_eq_none {a : Ask} :
    requestCode s a = none ↔ ∃ b, a.bay = some b ∧ (∀ p ∈ fieldChecks a, p.1 = false) ∧ ∀ p ∈ bayChecks s a b, p.1 = false := by
  unfold requestCode
  rw [firstCode_eq_none, List.forall_mem_append]
  cases hb : a.bay with
  | none =>
    have unnamed : ¬ ∀ p ∈ fieldChecks a, p.1 = false := fun h =>
      absurd (h (badFields a, .badField) (by simp [fieldChecks])) (by simp [badFields, hb])
    exact iff_of_false (fun h => unnamed h.1) (fun ⟨_, h, _⟩ => nomatch h)
  | some b => simp

theorem prepareOn_eq_false : prepareOn s b = false ↔ ∀ r ∈ s.recs, isPrepare r = true → r.bay ≠ b := by
  simp [prepareOn, List.any_eq_false]

theorem linkRec?_free {ch tag : Nat} :
    (s.linkRec? ch tag).isSome = false ↔ ∀ r ∈ s.recs, r.link ≠ some (ch, tag) := by
  simp [State.linkRec?, List.find?_eq_none]

theorem zoneRefuses_eq_false {zs : Option (List Zone)} {ch first count : Nat} {right : Right} :
    zoneRefuses zs ch first count right = false ↔
      ∀ z ∈ zs.getD [], z.first < first + count → first ≤ z.last → (maskFor z right).getLsbD ch = true := by
  simp [zoneRefuses, touched, maskLets, List.any_eq_false]

theorem tableFull_eq_false {k : Kind} :
    tableFull s b k = false ↔ s.recs.length < 16 ∧ s.recs.countP isLink < 12 ∧
      (k = .write → mirrorPrimary s = some b → s.recs.length < 15) := by
  have none_free : freePlaces s = 0 ↔ ¬ s.recs.length < 16 := by unfold freePlaces Config.places; omega
  have one_free : freePlaces s < 2 ↔ ¬ s.recs.length < 15 := by unfold freePlaces Config.places; omega
  have links : ¬ Config.maxLink ≤ linkCount s ↔ s.recs.countP isLink < 12 := Nat.not_le
  simp only [tableFull, Bool.or_eq_false_iff, Bool.and_eq_false_iff, decide_eq_false_iff_not, links, none_free, one_free,
    not_not]
  tauto

theorem badLevel_eq_false {level : Nat} : badLevel level = false ↔ level ≤ 7 := by simp [badLevel]

theorem badExtent_eq_false {first count : Nat} :
    badExtent first count = false ↔ 1 ≤ count ∧ count ≤ 32 ∧ first + count - 1 ≤ 277422 := by
  simp only [badExtent, Bool.or_eq_false_iff, decide_eq_false_iff_not]
  unfold Config.lastLogical
  omega

/-- The kinds that Table 3-1 takes in READY and RESTING alone. -/
def takesUsual : Kind → Bool
  | .read => true
  | .write => true
  | .setZones _ => true
  | _ => false

/-- Checks 4 and 5 for such a kind. -/
theorem bayRefuses_usual {k : Kind} (h : takesUsual k = true) :
    ((s.mechOf b).mode ≠ .empty ∧ bayRefuses s b k = false) ↔
      ((s.mechOf b).mode = .ready ∨ (s.mechOf b).mode = .resting) ∧ ∀ r ∈ s.recs, isPrepare r = true → r.bay ≠ b := by
  have other : k ≠ .eject true ∧ asksPrepare k = false := by cases k <;> simp_all [takesUsual, asksPrepare]
  have takes : stateTakes (s.mechOf b).mode k = true ↔ (s.mechOf b).mode = .ready ∨ (s.mechOf b).mode = .resting := by
    cases k <;> simp_all [takesUsual, stateTakes]
  have held : (s.mechOf b).mode = .ready ∨ (s.mechOf b).mode = .resting → (s.mechOf b).mode ≠ .empty := by
    rintro (h | h) <;> simp [h]
  simp only [bayRefuses, other, Bool.or_eq_false_iff, Bool.not_eq_false', takes, decide_false, Bool.not_false, Bool.and_true,
    Bool.false_and, prepareOn_eq_false, and_true]
  exact ⟨And.right, fun h => ⟨held h.1, h⟩⟩

/-- Check 11 asks that no band of a stream of the bay share a sector with the WRITE. -/
theorem bandBars_write {a : Ask} (h : a.kind = .write) :
    bandBars s b a = false ↔ ∀ t : Stream, s.stream = some t → t.bay = b →
      ∀ x ∈ t.bands, ¬(x.first < a.first + a.count ∧ a.first < x.first + (x.length + 1023) / 1024) := by
  unfold bandBars
  cases s.stream with
  | none => simp
  | some t =>
    simp only [h, bandOver, decide_true, Bool.true_and, Bool.and_eq_false_iff, List.any_eq_false,
      decide_eq_false_iff_not, Bool.and_eq_true, decide_eq_true_eq, Option.some.injEq, forall_eq']
    exact imp_iff_not_or.symm

/-- Checks 1 to 3. -/
theorem fieldChecks_pass {a : Ask} : (∀ p ∈ fieldChecks a, p.1 = false) ↔
    (needsPrivilege a.kind = true → a.ch = 0) ∧ badFields a = false ∧ zonesClash a.kind = false := by
  simp only [fieldChecks, List.forall_mem_cons, Bool.and_eq_false_imp, decide_eq_false_iff_not, not_not, List.not_mem_nil,
    false_imp_iff, implies_true, and_true]

/-- Checks 4 to 13. -/
theorem bayChecks_pass {a : Ask} : (∀ p ∈ bayChecks s a b, p.1 = false) ↔
    ((s.mechOf b).mode ≠ .empty ∧ bayRefuses s b a.kind = false) ∧ (inhibitBars a.kind = true → (s.mechOf b).inhibit = false) ∧
      (∀ r ∈ s.recs, r.link ≠ some (a.ch, a.tag)) ∧ zoneBars s b a = false ∧ streamBars s b a.kind = false ∧
      mirrorBars s b a.kind = false ∧ bandBars s b a = false ∧
      (s.recs.length < 16 ∧ s.recs.countP isLink < 12 ∧
        (a.kind = .write → mirrorPrimary s = some b → s.recs.length < 15)) ∧
      (a.kind = .write → a.count ≤ freeCount s) := by
  simp only [bayChecks, List.forall_mem_cons, Bool.and_eq_false_imp, decide_eq_true_eq, decide_eq_false_iff_not,
    List.not_mem_nil, false_imp_iff, implies_true, and_true, linkRec?_free, tableFull_eq_false, not_lt, and_assoc, ne_eq]

end Sys2Proof.Machine

namespace Sys2Proof.Bays
open Machine

/-- Settles O17. -/
theorem transferChecks : Obligations.TransferChecks := by
  refine ⟨fun ch tag first count level bay s => ?_, fun ch tag first count level bay s => ?_⟩ <;>
    rw [requestCode_eq_none] <;> refine exists_congr fun b => and_congr_right fun hb => ?_ <;>
    rw [fieldChecks_pass, bayChecks_pass, bayRefuses_usual rfl]
  · change bay = some b at hb
    simp [readAsk, hb, needsPrivilege, badFields, zonesClash, inhibitBars, zoneBars, streamBars, asksPrepare, mirrorBars,
      bandBars, badLevel_eq_false, badExtent_eq_false, zoneRefuses_eq_false, maskFor, and_assoc]
  · change bay = some b at hb
    rw [bandBars_write rfl]
    simp [writeAsk, hb, needsPrivilege, badFields, zonesClash, inhibitBars, zoneBars, streamBars, asksPrepare, mirrorBars,
      isSecondary, badLevel_eq_false, badExtent_eq_false, zoneRefuses_eq_false, maskFor, and_assoc]

end Sys2Proof.Bays
end

section
/-! The label-track writers: when a PREPARE or a SET_ZONES passes, the code of one that does not, and the order of a zone list. -/

namespace Sys2Proof.Machine

variable {s : State} {b : Bay}

theorem requestCode_notPrivileged {a : Ask} (hk : needsPrivilege a.kind = true) (hc : a.ch ≠ 0) :
    requestCode s a = some .notPrivileged := by
  unfold requestCode
  simp [fieldChecks, firstCode, hk, hc]

/-- The code of a check of R55 from 4 on, when it fails and those before it pass. -/
theorem requestCode_at {a : Ask} {c : Code} (n : Nat) (hb : a.bay = some b) (hf : ∀ p ∈ fieldChecks a, p.1 = false)
    (hp : ∀ p ∈ (bayChecks s a b).take n, p.1 = false) (hn : (bayChecks s a b)[n]? = some (true, c)) :
    requestCode s a = some c := by
  obtain ⟨hlt, hat⟩ := List.getElem?_eq_some_iff.mp hn
  have split : fieldChecks a ++ bayChecks s a b =
      (fieldChecks a ++ (bayChecks s a b).take n) ++ (true, c) :: (bayChecks s a b).drop (n + 1) := by
    rw [List.append_assoc, ← hat, List.getElem_cons_drop, List.take_append_drop]
  unfold requestCode
  simp only [hb, split]
  exact firstCode_first c _ (List.forall_mem_append.mpr ⟨hf, hp⟩)

/-- Checks 4 and 5 for a PREPARE: a record on its bay refuses it, and a PREPARE is such a record. -/
theorem bayRefuses_prepare {serial : BitVec 32} {name : Data}
    (hm : (s.mechOf b).mode = .ready ∨ (s.mechOf b).mode = .resting ∨ (s.mechOf b).mode = .unlabelled ∨
      (s.mechOf b).mode = .damaged) (hr : ∀ r ∈ s.recs, r.bay ≠ b) (hf : flushDeferred s b = false) :
    (s.mechOf b).mode ≠ .empty ∧ bayRefuses s b (.prepare serial name) = false := by
  have held : (s.mechOf b).mode ≠ .empty := by rintro h; simp [h] at hm
  have takes : stateTakes (s.mechOf b).mode (.prepare serial name) = true := by simpa [stateTakes, or_assoc] using hm
  have prepares : prepareOn s b = false := prepareOn_eq_false.mpr fun r h _ => hr r h
  have vacant : (s.recs.any fun r => decide (r.bay = b)) = false := List.any_eq_false.mpr fun r h => by simp [hr r h]
  exact ⟨held, by simp [bayRefuses, takes, prepares, vacant, hf]⟩

/-- The checks of a PREPARE before the stream's and the mirror's. -/
theorem prepare_passes_first {tag : Nat} {serial : BitVec 32} {name : Data}
    (hm : (s.mechOf b).mode = .ready ∨ (s.mechOf b).mode = .resting ∨ (s.mechOf b).mode = .unlabelled ∨
      (s.mechOf b).mode = .damaged) (hr : ∀ r ∈ s.recs, r.bay ≠ b) (hf : flushDeferred s b = false)
    (hl : ∀ r ∈ s.recs, r.link ≠ some (0, tag)) :
    (∀ p ∈ fieldChecks (prepareAsk 0 tag (some b) serial name), p.1 = false) ∧
      ∀ p ∈ (bayChecks s (prepareAsk 0 tag (some b) serial name) b).take 5, p.1 = false := by
  obtain ⟨held, takes⟩ := bayRefuses_prepare (serial := serial) (name := name) hm hr hf
  have free := linkRec?_free.mpr hl
  exact ⟨fieldChecks_pass.mpr ⟨fun _ => rfl, rfl, rfl⟩,
    by simp [bayChecks, prepareAsk, held, takes, inhibitBars, free, zoneBars]⟩

theorem exec_prepare_refused {ch : Fin 4} {tag : Fin 256} {bay : Option Bay} {serial : BitVec 32} {name : Data} {c : Code}
    (hl : s.link.resetLine = false) (hn : name.length = 16) (hc : requestCode s (prepareAsk ch tag bay serial name) = some c) :
    exec (.prepare ch tag bay serial name) s = .next (selectNext (reply ch tag (.refuse c) none s)) :=
  calc exec (.prepare ch tag bay serial name) s = .next (onLink s (takePrepare ch tag bay serial name s)) := rfl
    _ = .next (takeAsk (prepareAsk ch tag bay serial name) (acceptPrepare (prepareAsk ch tag bay serial name)) s) := by
      rw [onLink_released hl, takePrepare, if_pos (show nameSuits name = true from decide_eq_true hn)]
    _ = _ := by rw [takeAsk_refused hc]; rfl

/-! ### The order of a zone list -/

theorem insertZone_perm (z : Zone) (l : List Zone) : (insertZone z l).Perm (z :: l) := by
  induction l with
  | nil => exact .refl _
  | cons y ys ih =>
    unfold insertZone
    split
    · exact .refl _
    · exact (ih.cons y).trans (.swap z y ys)

theorem insertZone_sorted (z : Zone) {l : List Zone} (h : l.Pairwise fun x y => x.first ≤ y.first) :
    (insertZone z l).Pairwise fun x y => x.first ≤ y.first := by
  induction l with
  | nil => exact List.pairwise_singleton _ z
  | cons y ys ih =>
    obtain ⟨least, rest⟩ := List.pairwise_cons.mp h
    unfold insertZone
    split
    case isTrue hz =>
      refine List.pairwise_cons.mpr ⟨fun x hx => ?_, h⟩
      rcases List.mem_cons.mp hx with rfl | hx
      · exact hz
      · exact hz.trans (least x hx)
    case isFalse hz =>
      refine List.pairwise_cons.mpr ⟨fun x hx => ?_, ih rest⟩
      rcases mem_insertZone hx with rfl | hx
      · omega
      · exact least x hx

theorem sortZones_sorted (zs : List Zone) : (sortZones zs).Pairwise fun x y => x.first ≤ y.first :=
  List.foldlRecOn (motive := fun acc : List Zone => acc.Pairwise fun x y => x.first ≤ y.first) zs _ List.Pairwise.nil
    fun _ h _ _ => insertZone_sorted _ h

/-- A zone as the table keeps it, the masks' high bits disregarded (R171). -/
def maskedZone (z : Zone) : Zone := ⟨z.first, z.last, z.readMask &&& 0x0F#8, z.writeMask &&& 0x0F#8⟩

theorem foldl_insertZone_perm (zs acc : List Zone) :
    (zs.foldl (fun l z => insertZone (maskedZone z) l) acc).Perm (zs.map maskedZone ++ acc) := by
  induction zs generalizing acc with
  | nil => exact .refl _
  | cons z _ ih =>
    exact (ih _).trans (((insertZone_perm (maskedZone z) acc).append_left _).trans List.perm_middle)

theorem sortZones_perm (zs : List Zone) : (sortZones zs).Perm (zs.map maskedZone) := by
  have h := foldl_insertZone_perm zs []
  rwa [List.append_nil] at h

end Sys2Proof.Machine

namespace Sys2Proof.Bays
open Machine

/-- Settles O21: each acceptance by the checks it passes, each refusal by the first it fails. -/
theorem labelWriterTaken : Obligations.LabelWriterTaken := by
  refine ⟨⟨⟨fun tag b serial name s hl hn hm hr hf hs hu hg h16 h12 => ?_, fun ch tag bay serial name s hl hn hc => ?_,
    fun ch tag bay serial name s hl hn => ?_⟩, fun tag b level zones s hl h7 h8 hz ho hm hp hi hg h16 h12 => ?_,
    fun zones => ⟨sortZones_sorted zones, sortZones_perm zones⟩, fun ch tag bay level zones s hl hc => ?_⟩,
    fun tag b serial name s hl hn hm hr hf hg => ⟨fun t ht hb => ?_, fun hs hu => ?_⟩⟩
  · have passes : requestCode s (prepareAsk 0 tag (some b) serial name) = none :=
      requestCode_eq_none.mpr ⟨b, rfl, fieldChecks_pass.mpr ⟨fun _ => rfl, rfl, rfl⟩,
        bayChecks_pass.mpr ⟨bayRefuses_prepare hm hr hf, (fun h => nomatch h), hg, rfl,
          by simp [streamBars, hs], by simp [mirrorBars, prepareAsk, hu], rfl, ⟨h16, h12, fun h => nomatch h⟩, fun h => nomatch h⟩⟩
    calc exec (.prepare 0 tag (some b) serial name) s = .next (onLink s (takePrepare 0 tag (some b) serial name s)) := rfl
      _ = .next (conclude (acceptPrepare (prepareAsk 0 tag (some b) serial name) b s)) := by
        rw [onLink_released hl, takePrepare, if_pos (show nameSuits name = true from decide_eq_true hn), takeAsk_accepted passes rfl]
      _ = _ := by rw [acceptPrepare, createRec_wakes rfl rfl]; rfl
  · exact exec_prepare_refused hl hn (requestCode_notPrivileged rfl (mt Fin.val_eq_zero_iff.mp hc))
  · calc exec (.prepare ch tag bay serial name) s = .next (onLink s (takePrepare ch tag bay serial name s)) := rfl
      _ = _ := by
        rw [onLink_released hl, takePrepare, if_neg (by simpa [nameSuits] using hn)]
        rfl
  · have inBounds : zones.all zoneInBounds = true := List.all_eq_true.mpr fun z h =>
      Bool.and_eq_true_iff.mpr ⟨decide_eq_true (hz z h).1, decide_eq_true (hz z h).2⟩
    have fields : badFields (setZonesAsk 0 tag (some b) level zones) = false := by
      simp [badFields, setZonesAsk, badZones, inBounds, h8, badLevel_eq_false.mpr h7]
    have passes : requestCode s (setZonesAsk 0 tag (some b) level zones) = none :=
      requestCode_eq_none.mpr ⟨b, rfl, fieldChecks_pass.mpr ⟨fun _ => rfl, fields, ho⟩,
        bayChecks_pass.mpr ⟨(bayRefuses_usual rfl).mpr ⟨hm, hp⟩, (fun _ => hi), hg, rfl, rfl, rfl, rfl,
          ⟨h16, h12, fun h => nomatch h⟩, fun h => nomatch h⟩⟩
    calc exec (.setZones 0 tag (some b) level zones) s = .next (onLink s (takeSetZones 0 tag (some b) level zones s)) := rfl
      _ = .next (conclude (acceptSetZones (setZonesAsk 0 tag (some b) level zones) zones b s)) := by
        rw [onLink_released hl, takeSetZones, takeAsk_accepted passes rfl]
      _ = _ := by rw [acceptSetZones, createRec_wakes rfl rfl]; rfl
  · have refused : requestCode s (setZonesAsk ch tag bay level zones) = some .notPrivileged :=
      requestCode_notPrivileged rfl (mt Fin.val_eq_zero_iff.mp hc)
    calc exec (.setZones ch tag bay level zones) s = .next (onLink s (takeSetZones ch tag bay level zones s)) := rfl
      _ = _ := by
        rw [onLink_released hl, takeSetZones, takeAsk_refused refused]
        rfl
  · obtain ⟨fields, first⟩ := prepare_passes_first (serial := serial) (name := name) hm hr hf hg
    exact exec_prepare_refused hl hn (requestCode_at 5 rfl fields first
      (by simp [bayChecks, prepareAsk, streamBars, asksPrepare, streamOn, ht, hb]))
  · obtain ⟨fields, first⟩ := prepare_passes_first (serial := serial) (name := name) hm hr hf hg
    have off : streamOn s b = false := by
      unfold streamOn
      split
      · exact decide_eq_false (hs _ ‹_›)
      · rfl
    refine exec_prepare_refused hl hn (requestCode_at 6 rfl fields ?_
      (by simp [bayChecks, prepareAsk, mirrorBars, asksPrepare, hu]))
    rw [List.take_add_one]
    exact List.forall_mem_append.mpr ⟨first, by simp [bayChecks, streamBars, off]⟩

end Sys2Proof.Bays
end

section
/-! What each STATUS says of the state, where it is more than the field itself. -/

namespace Sys2Proof.Machine

variable {s : State} {b : Bay}

theorem mem_arrived (r : Rec) (i : Nat) :
    i ∈ (operationStatus s r).arrived ↔ ∃ y : Sector, r.sectors[i]? = some y ∧ y.arrived = true := by
  simp [operationStatus, mem_indexed]

theorem eligible_iff (r : Rec) :
    eligible s r = true ↔ r.state = .waiting ∧ isHeld s r = false ∧ canStartRec s r = true := by
  simp [eligible, and_assoc]

theorem currentLevel_active {q : Nat} {r : Rec} (ha : (s.schedOf b).active = some q) (hr : s.rec? q = some r) :
    currentLevel s b = r.level := by
  simp [currentLevel, levelOf, ha, hr]

theorem currentLevel_stack {q : Nat} {qs : List Nat} {r : Rec} (ha : (s.schedOf b).active = none)
    (hs : (s.schedOf b).stack = q :: qs) (hr : s.rec? q = some r) : currentLevel s b = r.level := by
  simp [currentLevel, levelOf, ha, hs, hr]

theorem currentLevel_none (ha : (s.schedOf b).active = none) (hs : (s.schedOf b).stack = []) : currentLevel s b = 8 := by
  simp [currentLevel, levelOf, ha, hs]

theorem labelShown_iff (m : BayMode) : labelShown m = true ↔ m = .ready ∨ m = .resting ∨ m = .waking := by
  simp [labelShown, or_assoc]

theorem isFree_eq (x : Slot) : x.isFree = decide (x = .free) := by cases x <;> simp [Slot.isFree]

theorem isRing_eq (x : Slot) : x.isRing = decide (x = .ring) := by cases x <;> simp [Slot.isRing]

theorem freeCount_eq : freeCount s = (s.slots.filter fun y => decide (y = .free)).length := by
  rw [freeCount, List.countP_eq_length_filter]
  exact congrArg _ (List.filter_congr fun x _ => isFree_eq x)

theorem ringCount_eq : ringCount s = (s.slots.filter fun y => decide (y = .ring)).length := by
  rw [ringCount, List.countP_eq_length_filter]
  exact congrArg _ (List.filter_congr fun x _ => isRing_eq x)

/-- A slot is free, of the ring, or held. -/
theorem slots_sorted (l : List Slot) : l.length - l.countP Slot.isFree - l.countP Slot.isRing =
    (l.filter fun y => decide (y ≠ .free) && decide (y ≠ .ring)).length := by
  have sum : l.countP Slot.isFree + l.countP Slot.isRing +
      (l.filter fun y => decide (y ≠ .free) && decide (y ≠ .ring)).length = l.length := by
    induction l with
    | nil => rfl
    | cons x xs ih => cases x <;> simp [List.countP_cons, Slot.isFree, Slot.isRing] at ih ⊢ <;> omega
  omega

theorem flushDeferred_iff :
    flushDeferred s b = true ↔ ∃ m : DefectMap, (s.mechOf b).map = some m ∧ m.pending = .deferred := by
  unfold flushDeferred
  cases (s.mechOf b).map <;> simp

theorem stepDeferred_iff :
    stepDeferred s = true ↔ ∃ (p : Bay) (c g : Nat), s.mirror = .paired p c g (.building .deferred) := by
  unfold stepDeferred
  split <;> simp_all

theorem replyHeld_iff (l : Link) : replyHeld l = true ↔ l.assembly = .idle ∧ 64 ≤ plainReplies l := by
  rw [replyHeld, Bool.and_eq_true, decide_eq_true_iff, decide_eq_true_iff]
  rfl

theorem stepPresent_iff :
    stepPresent s = true ↔ ∃ (p : Bay) (c g : Nat), s.mirror = .paired p c g (.building .present) := by
  unfold stepPresent
  split <;> simp_all

end Sys2Proof.Machine

namespace Sys2Proof.Bays
open Machine

/-- Settles O26, scope by scope. -/
theorem queriesAnswered : Obligations.QueriesAnswered := by
  refine ⟨⟨fun ch tag target b s hl => ?_, fun r s => ⟨_, rfl, ?_⟩, fun s => ⟨_, rfl, ?_⟩, fun s => ⟨_, rfl, ?_⟩,
    fun b s => ⟨_, rfl, ?_⟩, fun b s => ?_⟩, fun s => ⟨_, rfl, ?_⟩⟩
  · have taken : ∀ t : State, onLink s t = t := fun t => onLink_released hl
    refine ⟨congrArg _ (taken _), congrArg _ (taken _), congrArg _ (taken _), fun r hr => (congrArg _ (taken _)).trans ?_,
      fun hn => (congrArg _ (taken _)).trans ?_, congrArg _ (taken _), congrArg _ (taken _)⟩
    · rw [takeQueryOperation, hr]
      rfl
    · rw [takeQueryOperation, hn]
      rfl
  · exact ⟨rfl, rfl, rfl, rfl, rfl, rfl, rfl, rfl, rfl, rfl, eligible_iff r, by simp [operationStatus], rfl, mem_arrived r,
      List.countP_eq_length_filter, rfl, rfl, rfl, rfl⟩
  · refine ⟨rfl, rfl, rfl, fun h => by simp [streamStatus, h], fun t ht => ⟨openStatus s t, by simp [streamStatus, ht], rfl, rfl,
      rfl, rfl, rfl, rfl, rfl, rfl, rfl, rfl, rfl, rfl, rfl, rfl, rfl, rfl, rfl, fun h => ?_, fun h => ?_⟩⟩
    · exact ⟨if_pos h, if_pos h⟩
    · exact ⟨if_neg h, if_neg h⟩
  · refine ⟨rfl, List.countP_eq_length_filter, List.countP_eq_length_filter, fun p c g r hm hr => ?_, fun hm => if_neg fun h => ?_⟩
    · have present : stepPresent s = true := stepPresent_iff.mpr ⟨p, c, g, hm⟩
      simp [mirrorStatus, present, hr]
    · obtain ⟨p, c, g, h⟩ := stepPresent_iff.mp h
      exact hm p c g h
  · refine ⟨List.countP_eq_length_filter, rfl, rfl, rfl, rfl, rfl, rfl, rfl, currentLevel_none, fun q r => currentLevel_active,
      fun q qs r => currentLevel_stack, fun h => by simp [bayStatus, h],
      fun p hp => ⟨passStatus s p, by simp [bayStatus, hp], rfl, rfl, rfl, rfl, fun n h => by simp [passStatus, h, ownerStatus],
        fun h => by simp [passStatus, h, ownerStatus], fun q r h hr => by simp [passStatus, h, ownerStatus, hr]⟩,
      fun h => by simp [bayStatus, h], fun m h => ⟨by simp only [bayStatus, h]; rfl, fun shown => ?_⟩⟩
    simp [bayStatus, h, (labelShown_iff _).mpr shown]
  · refine ⟨rfl, rfl, rfl, rfl, rfl, fun shown => if_pos ((labelShown_iff _).mpr shown), fun h1 h2 h3 => if_neg fun h => ?_⟩
    rcases (labelShown_iff _).mp h with h | h | h
    exacts [h1 h, h2 h, h3 h]
  · refine ⟨freeCount_eq, ringCount_eq, slots_sorted s.slots, List.countP_eq_length_filter, List.countP_eq_length_filter, rfl,
      rfl, List.countP_eq_length_filter, List.countP_eq_length_filter, List.countP_eq_length_filter,
      List.countP_eq_length_filter, List.countP_eq_length_filter, List.countP_eq_length_filter,
      List.countP_eq_length_filter, List.countP_eq_length_filter, List.countP_eq_length_filter,
      List.countP_eq_length_filter, fun b => ?_, stepDeferred_iff, rfl, fun b => ?_, rfl, rfl, rfl, replyHeld_iff s.link⟩
    · cases b <;> exact flushDeferred_iff
    · cases b <;> rfl

end Sys2Proof.Bays
end

section
/-! OPEN_STREAM by its checks, and the clamping of marks. -/

namespace Sys2Proof.Machine

/-- A list of checks as the chain of its conditions. -/
theorem firstCode_cons {p : Prop} [Decidable p] {x : Bool} {c : Code} {rest : List (Bool × Code)} {y : Option Code}
    (h : x = true ↔ p) (hr : firstCode rest = y) : firstCode ((x, c) :: rest) = if p then some c else y := by
  by_cases hp : p
  · rw [h.mpr hp, if_pos hp]
    rfl
  · rw [Bool.eq_false_iff.mpr (mt h.mp hp), if_neg hp, ← hr]
    rfl

theorem badStream_iff (ring line pace : Nat) : badStream ring line pace = true ↔
    ring < 16 ∨ 192 < ring ∨ line < 16 ∨ 8192 < line ∨ pace < 1 ∨ 4096 < pace := by
  simp only [badStream, Bool.or_eq_true, decide_eq_true_eq, or_assoc]

theorem usual_prepared_iff (s : State) (b : Bay) : (!isUsual (s.mechOf b).mode || prepareOn s b) = true ↔
    ((s.mechOf b).mode ≠ .ready ∧ (s.mechOf b).mode ≠ .resting) ∨ ∃ r ∈ s.recs, isPrepare r = true ∧ r.bay = b := by
  simp [isUsual, prepareOn]

theorem clampTo_below {lo hi n : Nat} (hn : n < lo) : clampTo lo hi n = lo := by unfold clampTo; omega

theorem clampTo_above {lo hi n : Nat} (h : lo ≤ hi) (hn : hi < n) : clampTo lo hi n = hi := by unfold clampTo; omega

theorem clampTo_within {lo hi n : Nat} (h : lo ≤ n) (hn : n ≤ hi) : clampTo lo hi n = n := by unfold clampTo; omega

theorem clampTo_bounds {lo hi : Nat} (n : Nat) (h : lo ≤ hi) : lo ≤ clampTo lo hi n ∧ clampTo lo hi n ≤ hi := by
  unfold clampTo; omega

/-- The ranges of R129 are never empty. -/
theorem clampMarks_ranges {ring : Nat} (m : Marks) (h : 16 ≤ ring) :
    1 ≤ (clampMarks ring m).high - 1 ∧ (clampMarks ring m).low ≤ (clampMarks ring m).high := by
  have high : 2 ≤ (clampMarks ring m).high := (clampTo_bounds m.high (by omega)).1
  have low : (clampMarks ring m).low ≤ (clampMarks ring m).high - 1 := (clampTo_bounds m.low (show 1 ≤ (clampMarks ring m).high - 1 by omega)).2
  omega

theorem takeOpenStream_accepted {s : State} {ch tag : Nat} {b : Bay} {ring line pace : Nat} {marks : Option Marks}
    (h : openCode s (some b) ring line pace = none) :
    takeOpenStream ch tag (some b) ring line pace marks s = answerStream ch tag (acceptOpen b ring line pace marks s) := by
  unfold takeOpenStream
  simp only [h]

theorem takeOpenStream_refused {s : State} {ch tag : Nat} {bay : Option Bay} {ring line pace : Nat} {marks : Option Marks}
    {c : Code} (h : openCode s bay ring line pace = some c) :
    takeOpenStream ch tag bay ring line pace marks s = selectNext (refuse ch tag c s) := by
  unfold takeOpenStream
  simp only [h]

end Sys2Proof.Machine

namespace Sys2Proof.Bays
open Machine

/-- Settles O29: the refusals follow the chain of R128, of which an accepted OPEN_STREAM reaches the end. -/
theorem streamOpenedAndMarked : Obligations.StreamOpenedAndMarked := by
  refine ⟨⟨fun ch tag b ring line pace marks s hl hs r16 r192 l16 l8192 p1 p4096 hrate hm hp hp2 hf => ⟨_, rfl, ?_⟩,
    fun ch tag bay ring line pace marks s hl c hc => ?_⟩, fun ch tag m s hl hs => ?_, fun ch tag m x s hl hs => ⟨_, rfl, ?_⟩,
    fun ring m r16 r192 => ?_⟩
  · have held : (s.mechOf b).mode ≠ .empty := by rintro h; simp [h] at hm
    have usual : isUsual (s.mechOf b).mode = true := by simpa [isUsual] using hm
    have fields : badStream ring line pace = false := Bool.eq_false_iff.mpr (by rw [Ne, badStream_iff]; omega)
    have passes : openCode s (some b) ring line pace = none := by
      unfold openCode
      rw [firstCode_eq_none]
      simp [openChecks, hs, fields, held, usual, prepareOn_eq_false.mpr hp, isSecondary, hp2, hrate, hf]
    calc exec (.openStream ch tag (some b) ring line pace marks) s
        = .next (onLink s (takeOpenStream ch tag (some b) ring line pace marks s)) := rfl
      _ = .next (answerStream ch tag (acceptOpen b ring line pace marks s)) := by
        rw [onLink_released hl, takeOpenStream_accepted passes]
      _ = _ := rfl
  · have refused : openCode s bay ring line pace = some c := by
      rw [← hc]
      unfold openCode openChecks
      cases bay with
      | none =>
        exact firstCode_cons (by simp [Option.isSome_iff_ne_none]) (by simp [firstCode])
      | some b =>
        simp only [List.cons_append, List.nil_append]
        refine firstCode_cons (by simp [Option.isSome_iff_ne_none]) (firstCode_cons ?_ (firstCode_cons (by simp)
          (firstCode_cons (by simp) (firstCode_cons ?_ (firstCode_cons (by simp [isSecondary]) (firstCode_cons (by simp) rfl))))))
        · simp [badStream_iff]
        · simpa using usual_prepared_iff s b
    calc exec (.openStream ch tag bay ring line pace marks) s
        = .next (onLink s (takeOpenStream ch tag bay ring line pace marks s)) := rfl
      _ = _ := by
        rw [onLink_released hl, takeOpenStream_refused refused]
        rfl
  · calc exec (.setMarks ch tag m) s = .next (onLink s (takeSetMarks ch tag m s)) := rfl
      _ = _ := by
        rw [onLink_released hl, takeSetMarks, hs]
        rfl
  · calc exec (.setMarks ch tag m) s = .next (onLink s (takeSetMarks ch tag m s)) := rfl
      _ = _ := by
        rw [onLink_released hl, takeSetMarks, hs]
        rfl
  · obtain ⟨lowRange, primeRange⟩ := clampMarks_ranges m r16
    have highRange : 2 ≤ ring := by omega
    exact ⟨⟨clampTo_below, clampTo_above highRange, clampTo_within⟩,
      ⟨clampTo_below, clampTo_above lowRange, clampTo_within⟩, clampTo_below, clampTo_above primeRange,
      clampTo_within⟩

end Sys2Proof.Bays
end

section
/-! What a controller reset makes of each slot, each pass in flight and each MAP_FLUSH. -/

namespace Sys2Proof.Machine

variable {s : State}

/-- What becomes of the slot of number `i`, with `n` ring slots still to be kept. -/
def keptSlot (s : State) (i n : Nat) : Slot → Slot
  | .held hs d =>
    if passUses s .A i hs || passUses s .B i hs then .held [.passes (passUses s .A i hs) (passUses s .B i hs)] d else .free
  | .ring => if n = 0 then .free else .held [.passes (decide (0 < fillingOn s .A)) (decide (0 < fillingOn s .B))] none
  | .free => .free

theorem keepSlots_getElem? (i n : Nat) (xs : List Slot) (j : Nat) :
    (keepSlots s i n xs)[j]? = xs[j]?.map (keptSlot s (i + j) (n - (xs.take j).countP Slot.isRing)) := by
  induction xs generalizing i n j with
  | nil => rfl
  | cons x xs ih =>
    cases j with
    | zero => cases x <;> rfl
    | succ j =>
      have place : i + 1 + j = i + (j + 1) := by omega
      cases x <;> simp [keepSlots, ih, place, List.countP_cons, Slot.isRing, Nat.sub_sub, Nat.add_comm 1]

theorem controllerReset_slots_getElem? (j : Nat) : (controllerReset s).slots[j]? = s.slots[j]?.map
    (keptSlot s j (fillingOn s .A + fillingOn s .B - (s.slots.take j).countP Slot.isRing)) := by
  have h := keepSlots_getElem? (s := s) 0 (fillingOn s .A + fillingOn s .B) s.slots j
  rwa [Nat.zero_add] at h

theorem keepSlots_length (i n : Nat) (xs : List Slot) : (keepSlots s i n xs).length = xs.length := by
  induction xs generalizing i n with
  | nil => rfl
  | cons x xs ih => cases x <;> simp [keepSlots, ih]

/-- Every slot of the state after it is a kept one. -/
theorem mem_controllerReset_slots {x : Slot} (h : x ∈ (controllerReset s).slots) :
    ∃ i k y, x = keptSlot s i (fillingOn s .A + fillingOn s .B - k) y := by
  obtain ⟨j, hj⟩ := List.mem_iff_getElem?.mp h
  rw [controllerReset_slots_getElem?, Option.map_eq_some_iff] at hj
  obtain ⟨y, _, rfl⟩ := hj
  exact ⟨_, _, y, rfl⟩

theorem keptSlot_cases (i n : Nat) (y : Slot) :
    keptSlot s i n y = .free ∨ ∃ (a b : Bool) (d : Option Data), keptSlot s i n y = .held [.passes a b] d := by
  cases y with
  | free => exact .inl rfl
  | ring => exact (ite_eq_or_eq _ _ _).imp id fun h => ⟨_, _, _, h⟩
  | held hs d => exact (ite_eq_or_eq _ _ _).symm.imp id fun h => ⟨_, _, _, h⟩

/-- With no pass in flight no slot is used. -/
theorem passUses_of_no_pass {b : Bay} (h : (s.schedOf b).pass = none) (i : Nat) (hs : List Holder) :
    passUses s b i hs = false := by
  simp [passUses, h]

theorem fillingOn_of_no_pass {b : Bay} (h : (s.schedOf b).pass = none) : fillingOn s b = 0 := by simp [fillingOn, h]

theorem holderOf_iff (q : Nat) (h : Holder) :
    holderOf s q h = true ↔ h = .record q ∨ ∃ r : Rec, s.rec? q = some r ∧ ∃ o ∈ r.partners, h = .record o := by
  unfold holderOf
  cases s.rec? q <;> simp

theorem passHolder_iff (b : Bay) (h : Holder) :
    passHolder b h = true ↔ ∃ x y : Bool, h = .passes x y ∧ (if b = .A then x else y) = true := by
  cases h <;> cases b <;> simp [passHolder]

theorem any_holderOf_iff (q : Nat) (hs : List Holder) : hs.any (holderOf s q) = true ↔
    Holder.record q ∈ hs ∨ ∃ r : Rec, s.rec? q = some r ∧ ∃ o ∈ r.partners, Holder.record o ∈ hs := by
  simp only [List.any_eq_true, holderOf_iff]
  constructor
  · rintro ⟨_, hm, rfl | ⟨r, hr, o, ho, rfl⟩⟩
    · exact .inl hm
    · exact .inr ⟨r, hr, o, ho, hm⟩
  · rintro (hm | ⟨r, hr, o, ho, hm⟩)
    · exact ⟨_, hm, .inl rfl⟩
    · exact ⟨_, hm, .inr ⟨r, hr, o, ho, rfl⟩⟩

theorem any_passHolder_iff (b : Bay) (hs : List Holder) : hs.any (passHolder b) = true ↔
    ∃ x y : Bool, Holder.passes x y ∈ hs ∧ (if b = .A then x else y) = true := by
  simp only [List.any_eq_true, passHolder_iff]
  constructor
  · rintro ⟨_, hm, x, y, rfl, hxy⟩
    exact ⟨x, y, hm, hxy⟩
  · rintro ⟨x, y, hm, hxy⟩
    exact ⟨_, hm, x, y, rfl, hxy⟩

theorem passUses_iff (b : Bay) (i : Nat) (hs : List Holder) : passUses s b i hs = true ↔
    ∃ p : Pass, (s.schedOf b).pass = some p ∧
      ((∃ q : Nat, p.owner = .record q ∧ i ∈ p.slots ∧
          (Holder.record q ∈ hs ∨ ∃ r : Rec, s.rec? q = some r ∧ ∃ o ∈ r.partners, Holder.record o ∈ hs)) ∨
        (p.owner = .discarded ∧ ∃ x y : Bool, Holder.passes x y ∈ hs ∧ (if b = .A then x else y) = true)) := by
  simp only [← any_holderOf_iff, ← any_passHolder_iff]
  unfold passUses
  cases (s.schedOf b).pass with
  | none => simp
  | some p => cases ho : p.owner <;> simp [ho]

theorem keepFlush_eq (r : Rec) : keepFlush s r =
    { r with
      state := if r.state = .ending then .ending else if ownPassInFlight s r then .active else .waiting
      stalled := false } := by
  unfold keepFlush
  cases r.state <;> rfl

theorem controllerReset_schedOf (b : Bay) : (controllerReset s).schedOf b = resetSched s (s.schedOf b) := by cases b <;> rfl

theorem keepPass_flush {p : Pass} {q : Nat} {r : Rec} (ho : p.owner = .record q) (hr : s.rec? q = some r)
    (hf : isFlush r = true) : keepPass s p = p := by
  unfold keepPass
  simp only [ho, hr, hf, if_true]

theorem keepPass_other {p : Pass} (h : ∀ (q : Nat) (r : Rec), p.owner = .record q → s.rec? q = some r → isFlush r = false) :
    keepPass s p = { p with owner := .discarded } := by
  unfold keepPass
  split
  · split
    · rw [if_neg (by simp [h _ _ ‹_› ‹_›])]
    · rfl
  · rfl

/-- A pass stays with its action, track and sectors, whoever owns it then. -/
theorem keepPass_work (p : Pass) : (keepPass s p).action = p.action ∧ (keepPass s p).track = p.track ∧
    (keepPass s p).first = p.first ∧ (keepPass s p).items = p.items := by
  unfold keepPass
  split
  · split
    · split <;> exact ⟨rfl, rfl, rfl, rfl⟩
    · exact ⟨rfl, rfl, rfl, rfl⟩
  · exact ⟨rfl, rfl, rfl, rfl⟩

/-- Neither bay with a pass in flight: no slot stays held. -/
theorem keptSlot_idle (h : ∀ b : Bay, (s.schedOf b).pass = none) (i k : Nat) (y : Slot) :
    keptSlot s i (fillingOn s .A + fillingOn s .B - k) y = .free := by
  cases y with
  | free => rfl
  | ring => exact if_pos (by rw [fillingOn_of_no_pass (h .A), fillingOn_of_no_pass (h .B), Nat.zero_add, Nat.zero_sub])
  | held hs d => exact if_neg (by simp [passUses_of_no_pass (h .A), passUses_of_no_pass (h .B)])

end Sys2Proof.Machine

namespace Sys2Proof.Bays
open Machine

/-- Settles O11: the commands that cause the reset, then what it makes of each block. -/
theorem controllerResets : Obligations.ControllerResets := by
  refine ⟨⟨fun tag s hl => ?_, fun ch tag s hl hc => ?_, fun s hl => ?_, fun s hl => if_pos hl, fun s => rfl⟩,
    fun s => ⟨fun b => ?_, fun b p hp => ?_, List.map_congr_left fun r _ => keepFlush_eq r, fun r hr => ?_, rfl,
      keepSlots_length _ _ _, fun x hx => ?_, fun h x hx => ?_, fun i => ⟨fun h => ?_, fun hs d h => ⟨fun ha hb => ?_, fun hab => ?_⟩,
      fun h => ⟨fun hi => ?_, fun hi => ?_⟩⟩, fun b i hs => passUses_iff b i hs, rfl, rfl, rfl, rfl, rfl, rfl, rfl, rfl, rfl, rfl⟩⟩
  · exact congrArg Host.Outcome.next (onLink_released hl)
  · exact congrArg Host.Outcome.next ((onLink_released hl).trans (if_neg (mt Fin.val_eq_zero_iff.mp hc)))
  · exact if_neg (by simp [hl])
  · rw [controllerReset_schedOf]
    refine ⟨by cases b <;> rfl, rfl, rfl, rfl, rfl, rfl, ?_⟩
    unfold resetSched
    rw [Option.map_map]
    refine congrArg (fun f => (s.schedOf b).pass.map f) (funext fun p => ?_)
    obtain ⟨ha, ht, hf, hi⟩ := keepPass_work (s := s) p
    simp only [Function.comp, ha, ht, hf, hi]
  · rw [controllerReset_schedOf]
    unfold resetSched
    rw [hp]
    exact ⟨fun q r ho hr hf => congrArg some (keepPass_flush ho hr hf), fun h => congrArg some (keepPass_other h)⟩
  · obtain ⟨o, ho, rfl⟩ := List.mem_map.mp hr
    refine ⟨(List.mem_filter.mp ho).2, ?_⟩
    rw [keepFlush_eq]
    split
    · exact nofun
    · split <;> exact nofun
  · obtain ⟨i, k, y, rfl⟩ := mem_controllerReset_slots hx
    exact keptSlot_cases i _ y
  · obtain ⟨i, k, y, rfl⟩ := mem_controllerReset_slots hx
    exact keptSlot_idle h _ _ y
  all_goals rw [controllerReset_slots_getElem?, h]
  · rfl
  · exact congrArg some (if_neg (by simp [ha, hb]))
  · exact congrArg some (if_pos (by simpa using hab))
  · exact congrArg some (if_pos (Nat.sub_eq_zero_of_le hi))
  · exact congrArg some (if_neg (Nat.sub_ne_zero_of_lt hi))

end Sys2Proof.Bays
end

section
/-! What the entry of a record to ENDING changes (R65 to R68), and what it leaves alone: the other records, the places of the
other records in their schedulers, and the slots of the other holders. -/

namespace Sys2Proof.Machine

/-! ### Schedulers: a trigger only marks -/

/-- Nothing of the schedulers is changed but their marks, and no mark is taken away. -/
structure OnlyTriggers (s t : State) : Prop where
  sched : ∀ b, t.schedOf b = { s.schedOf b with triggered := (t.schedOf b).triggered }
  triggered : ∀ b, (s.schedOf b).triggered = true → (t.schedOf b).triggered = true

theorem OnlyTriggers.of_sched {s t : State} (h : t.sched = s.sched) : OnlyTriggers s t := by
  have same : ∀ b, t.schedOf b = s.schedOf b := fun b => congrArg (fun x => x.get b) h
  exact ⟨fun b => by rw [same], fun b ht => (same b).symm ▸ ht⟩

theorem OnlyTriggers.trans {s t u : State} (h : OnlyTriggers s t) (h' : OnlyTriggers t u) : OnlyTriggers s u where
  sched b := by
    rw [h'.sched b, h.sched b]
  triggered b ht := h'.triggered b (h.triggered b ht)

theorem OnlyTriggers.trigger (b : Bay) (s : State) : OnlyTriggers s (trigger b s) := by
  constructor <;> intro c <;> cases b <;> cases c <;> first | rfl | exact id | exact fun _ => rfl

theorem OnlyTriggers.triggerBoth (s : State) : OnlyTriggers s (triggerBoth s) := (trigger .A s).trans (trigger .B _)

theorem OnlyTriggers.signalRelease (before s : State) : OnlyTriggers s (signalRelease before s) := by
  rcases signalRelease_cases before s with ⟨_, e⟩ | ⟨_, e⟩ <;> rw [e]
  · exact triggerBoth s
  · exact of_sched rfl

theorem OnlyTriggers.foldl {α : Type} {f : State → α → State} (hf : ∀ s x, OnlyTriggers s (f s x)) (l : List α) (s : State) :
    OnlyTriggers s (l.foldl f s) :=
  foldl_keeps (P := OnlyTriggers s) (fun t x ht => ht.trans (hf t x)) l s (of_sched rfl)

theorem OnlyTriggers.signalHoldEnds (before s : State) : OnlyTriggers s (signalHoldEnds before s) :=
  OnlyTriggers.foldl (fun t r => by
    split
    · exact trigger (schedBay r) t
    · exact of_sched rfl) s.recs s

theorem OnlyTriggers.dropAll (h : Holder) (s : State) : OnlyTriggers s (dropAll h s) :=
  (of_sched (s := s) (t := s.withSlots (s.slots.map (dropFrom h))) rfl).trans (signalRelease s _)

theorem OnlyTriggers.dropOne (h : Holder) (i : Nat) (s : State) : OnlyTriggers s (dropOne h i s) :=
  (of_sched (s := s) (t := s.withSlots (s.slots.modify i (dropFrom h))) rfl).trans (signalRelease s _)

theorem OnlyTriggers.dropUnqueued (r : Rec) (s : State) (i : Nat) : OnlyTriggers s (dropUnqueued r s i) := by
  unfold Machine.dropUnqueued
  split
  · rename_i j _
    exact OnlyTriggers.trans (t := s.mapRec r.seq _) (of_sched rfl) (dropOne (.record r.seq) j _)
  · exact of_sched rfl

theorem OnlyTriggers.giveUp (r : Rec) (s : State) : OnlyTriggers s (giveUp r s) := by
  unfold Machine.giveUp
  split
  · split
    · exact OnlyTriggers.foldl (OnlyTriggers.dropUnqueued r) _ s
    · exact of_sched rfl
  · exact dropAll _ s

theorem OnlyTriggers.endEffect (r : Rec) (s : State) : OnlyTriggers s (endEffect r s) := by
  unfold Machine.endEffect
  split
  · exact of_sched rfl
  · split <;> exact of_sched rfl

/-! ### Schedulers: the place of the record that ends -/

theorem checkMode_schedOf (b : Bay) (s : State) :
    ((checkMode b s).schedOf b).active = (s.schedOf b).active ∧ ((checkMode b s).schedOf b).stack = (s.schedOf b).stack ∧
      ((checkMode b s).schedOf b).pass = (s.schedOf b).pass ∧ ((checkMode b s).schedOf b).modeSet = (s.schedOf b).modeSet ∧
      ((s.schedOf b).triggered = true → ((checkMode b s).schedOf b).triggered = true) ∧
      (((checkMode b s).schedOf b).stack = [] → ((checkMode b s).schedOf b).mode = ((checkMode b s).schedOf b).modeSet) := by
  unfold checkMode
  dsimp only
  split
  · cases b <;> exact ⟨rfl, rfl, rfl, rfl, fun _ => rfl, fun _ => rfl⟩
  · rename_i h
    exact ⟨rfl, rfl, rfl, rfl, id, fun he => Classical.byContradiction fun hm => h ⟨he, hm⟩⟩

theorem checkMode_schedOf_ne {b c : Bay} (h : c ≠ b) (s : State) : (checkMode b s).schedOf c = s.schedOf c := by
  unfold checkMode
  dsimp only
  split
  · rw [trigger, schedOf_mapSched, if_neg h, schedOf_mapSched, if_neg h]
  · rfl

/-- The place that a record leaves: it is no longer active or in the stack, the others keep their places. -/
structure PlaceLeft (q : Nat) (c c' : Sched) : Prop where
  pass : c'.pass = c.pass
  modeSet : c'.modeSet = c.modeSet
  active : c'.active = if c.active = some q then none else c.active
  stack : c'.stack = if c.active = some q then c.stack else c.stack.filter fun x => decide (x ≠ q)
  triggered : c.triggered = true ∨ c.active = some q ∨ q ∈ c.stack → c'.triggered = true
  mode : (c.stack = [] → c.mode = c.modeSet) ∨ (c.active ≠ some q ∧ q ∈ c.stack) → c'.stack = [] → c'.mode = c'.modeSet

theorem leaveScheduler_schedOf (r : Rec) (s : State) :
    PlaceLeft r.seq (s.schedOf (schedBay r)) ((leaveScheduler r s).schedOf (schedBay r)) := by
  unfold leaveScheduler
  dsimp only
  generalize schedBay r = b
  by_cases ha : (s.schedOf b).active = some r.seq
  · rw [if_pos ha]
    have left : (trigger b (s.mapSched b fun c => { c with active := none })).schedOf b =
        { s.schedOf b with active := none, triggered := true } := by cases b <;> rfl
    rw [left]
    exact ⟨rfl, rfl, (if_pos ha).symm, (if_pos ha).symm, fun _ => rfl, fun h => h.elim id fun h => absurd ha h.1⟩
  · rw [if_neg ha]
    by_cases hm : r.seq ∈ (s.schedOf b).stack
    · rw [if_pos hm]
      obtain ⟨active, stack, pass, modeSet, triggered, mode⟩ := checkMode_schedOf b
        (trigger b (s.mapSched b fun c => { c with stack := c.stack.filter fun q => decide (q ≠ r.seq) }))
      have left : (trigger b (s.mapSched b fun c => { c with stack := c.stack.filter fun q => decide (q ≠ r.seq) })).schedOf b =
          { s.schedOf b with stack := (s.schedOf b).stack.filter (fun q => decide (q ≠ r.seq)), triggered := true } := by
        cases b <;> rfl
      rw [left] at active stack pass modeSet triggered
      exact ⟨pass, modeSet, active.trans (if_neg ha).symm, stack.trans (if_neg ha).symm, fun _ => triggered rfl, fun _ => mode⟩
    · rw [if_neg hm]
      have kept : ((s.schedOf b).stack.filter fun x => decide (x ≠ r.seq)) = (s.schedOf b).stack :=
        List.filter_eq_self.mpr fun x hx => decide_eq_true fun e => hm (e ▸ hx)
      exact ⟨rfl, rfl, (if_neg ha).symm, kept.symm.trans (if_neg ha).symm, fun h => h.elim id fun h => absurd h (not_or.mpr ⟨ha, hm⟩),
        fun h => h.elim id fun h => absurd h.2 hm⟩

theorem leaveScheduler_schedOf_ne {r : Rec} {c : Bay} (h : c ≠ schedBay r) (s : State) :
    (leaveScheduler r s).schedOf c = s.schedOf c := by
  unfold leaveScheduler
  dsimp only
  split
  · rw [trigger, schedOf_mapSched, if_neg h, schedOf_mapSched, if_neg h]
  · split
    · rw [checkMode_schedOf_ne h, trigger, schedOf_mapSched, if_neg h, schedOf_mapSched, if_neg h]
    · rfl

/-- A change of the table does not touch the schedulers. -/
theorem mapRec_schedOf (s : State) (q : Nat) (f : Rec → Rec) (b : Bay) : (s.mapRec q f).schedOf b = s.schedOf b := rfl

/-- What every end of a record keeps of a scheduler: the pass, the mode set, the marks, and places given up. -/
structure SchedKept (c c' : Sched) : Prop where
  pass : c'.pass = c.pass
  modeSet : c'.modeSet = c.modeSet
  active : c.active = none → c'.active = none
  stack : ∀ q ∈ c'.stack, q ∈ c.stack
  triggered : c.triggered = true → c'.triggered = true
  mode : (c.stack = [] → c.mode = c.modeSet) → c'.stack = [] → c'.mode = c'.modeSet

theorem SchedKept.trans {c c' c'' : Sched} (h : SchedKept c c') (h' : SchedKept c' c'') : SchedKept c c'' :=
  ⟨h'.pass.trans h.pass, h'.modeSet.trans h.modeSet, fun e => h'.active (h.active e), fun q hq => h.stack q (h'.stack q hq),
    fun e => h'.triggered (h.triggered e), fun e => h'.mode (h.mode e)⟩

theorem SchedKept.refl (c : Sched) : SchedKept c c := ⟨rfl, rfl, id, fun _ => id, id, id⟩

theorem PlaceLeft.kept {q : Nat} {c c' : Sched} (h : PlaceLeft q c c') : SchedKept c c' where
  pass := h.pass
  modeSet := h.modeSet
  active e := by rw [h.active, e]; split <;> rfl
  stack x hx := by
    rw [h.stack] at hx
    split at hx
    · exact hx
    · exact List.mem_of_mem_filter hx
  triggered e := h.triggered (.inl e)
  mode e := h.mode (.inl e)

theorem OnlyTriggers.kept {s t : State} (h : OnlyTriggers s t) (b : Bay) : SchedKept (s.schedOf b) (t.schedOf b) := by
  have hb := h.sched b
  refine ⟨?_, ?_, ?_, ?_, h.triggered b, ?_⟩ <;> rw [hb]
  · exact id
  · exact fun _ => id
  · exact id

theorem leaveScheduler_kept (r : Rec) (s : State) (b : Bay) : SchedKept (s.schedOf b) ((leaveScheduler r s).schedOf b) := by
  by_cases h : b = schedBay r
  · subst h
    exact (leaveScheduler_schedOf r s).kept
  · rw [leaveScheduler_schedOf_ne h]
    exact .refl _

/-! ### Slots -/

theorem mem_dropFrom_holders (h k : Holder) (y : Slot) : k ∈ (dropFrom h y).holders ↔ k ∈ y.holders ∧ k ≠ h := by
  cases y with
  | free => simp [dropFrom, Slot.holders]
  | ring => simp [dropFrom, Slot.holders]
  | held hs d =>
    have rest : k ∈ hs.filter (fun x => decide (x ≠ h)) ↔ k ∈ hs ∧ k ≠ h := by simp
    by_cases e : hs.filter (fun x => decide (x ≠ h)) = []
    · rw [e] at rest
      rw [show dropFrom h (.held hs d) = .free from if_pos e]
      exact rest
    · rw [show dropFrom h (.held hs d) = .held (hs.filter fun x => decide (x ≠ h)) d from if_neg e]
      exact rest

/-- A slot with another holder keeps what it holds. -/
theorem dropFrom_content {h k : Holder} {y : Slot} (hk : k ∈ y.holders) (hne : k ≠ h) :
    (dropFrom h y).content = y.content := by
  cases y with
  | free => rfl
  | ring => rfl
  | held hs d =>
    have other : hs.filter (fun x => decide (x ≠ h)) ≠ [] := List.ne_nil_of_mem (List.mem_filter.mpr ⟨hk, decide_eq_true hne⟩)
    rw [show dropFrom h (.held hs d) = .held (hs.filter fun x => decide (x ≠ h)) d from if_neg other]
    rfl

/-- A slot loses holders of `Q` alone, and keeps what it holds while another record holds it. -/
structure SlotKept (Q : Nat → Prop) (y z : Slot) : Prop where
  fewer : ∀ h ∈ z.holders, h ∈ y.holders
  others : ∀ q, ¬Q q → Holder.record q ∈ y.holders → Holder.record q ∈ z.holders ∧ z.content = y.content

theorem SlotKept.refl (Q : Nat → Prop) (y : Slot) : SlotKept Q y y := ⟨fun _ => id, fun _ _ h => ⟨h, rfl⟩⟩

theorem SlotKept.trans {Q : Nat → Prop} {x y z : Slot} (h : SlotKept Q x y) (h' : SlotKept Q y z) : SlotKept Q x z where
  fewer k hk := h.fewer k (h'.fewer k hk)
  others q hq hm := by
    obtain ⟨hy, cy⟩ := h.others q hq hm
    obtain ⟨hz, cz⟩ := h'.others q hq hy
    exact ⟨hz, cz.trans cy⟩

theorem SlotKept.dropFrom {Q : Nat → Prop} {q : Nat} (hq : Q q) (y : Slot) : SlotKept Q y (dropFrom (.record q) y) where
  fewer k hk := ((mem_dropFrom_holders _ k y).mp hk).1
  others p hp hm := by
    have hne : Holder.record p ≠ .record q := fun e => hp (Holder.record.inj e ▸ hq)
    exact ⟨(mem_dropFrom_holders _ _ y).mpr ⟨hm, hne⟩, dropFrom_content hm hne⟩

/-- Place by place. -/
structure SlotsKept (Q : Nat → Prop) (l l' : List Slot) : Prop where
  length : l'.length = l.length
  at_place : ∀ (j : Nat) (y : Slot), l[j]? = some y → ∃ z, l'[j]? = some z ∧ SlotKept Q y z

theorem SlotsKept.refl (Q : Nat → Prop) (l : List Slot) : SlotsKept Q l l := ⟨rfl, fun _ y h => ⟨y, h, .refl Q y⟩⟩

theorem SlotsKept.trans {Q : Nat → Prop} {l l' l'' : List Slot} (h : SlotsKept Q l l') (h' : SlotsKept Q l' l'') :
    SlotsKept Q l l'' where
  length := h'.length.trans h.length
  at_place j x hx := by
    obtain ⟨y, hy, k⟩ := h.at_place j x hx
    obtain ⟨z, hz, k'⟩ := h'.at_place j y hy
    exact ⟨z, hz, k.trans k'⟩

/-- What a slot holds at the end it held at the beginning. -/
theorem SlotsKept.before {Q : Nat → Prop} {l l' : List Slot} (h : SlotsKept Q l l') {j : Nat} {z : Slot} (hz : l'[j]? = some z) :
    ∃ y, l[j]? = some y ∧ SlotKept Q y z := by
  have inside : j < l.length := h.length ▸ (List.getElem?_eq_some_iff.mp hz).1
  obtain ⟨z', hz', k⟩ := h.at_place j _ (List.getElem?_eq_getElem inside)
  exact ⟨_, List.getElem?_eq_getElem inside, Option.some.inj (hz'.symm.trans hz) ▸ k⟩

theorem SlotsKept.map_dropFrom {Q : Nat → Prop} {q : Nat} (hq : Q q) (l : List Slot) :
    SlotsKept Q l (l.map (dropFrom (.record q))) :=
  ⟨List.length_map .., fun j y h => ⟨_, by rw [List.getElem?_map, h]; rfl, .dropFrom hq y⟩⟩

theorem SlotsKept.modify_dropFrom {Q : Nat → Prop} {q : Nat} (hq : Q q) (i : Nat) (l : List Slot) :
    SlotsKept Q l (l.modify i (dropFrom (.record q))) := by
  refine ⟨List.length_modify .., fun j y h => ?_⟩
  rw [List.getElem?_modify, h]
  by_cases hij : i = j
  · exact ⟨_, by simp [hij], .dropFrom hq y⟩
  · exact ⟨y, by simp [hij], .refl Q y⟩

/-! ### The whole of it -/

/-- A record that is in ENDING or will be (R64). -/
def Ended (r : Rec) : Prop := r.state = .ending ∨ r.endCause.isSome = true

/-- A record stays the request it is and ended; one outside `Q` changes in its flags at most. -/
structure RecKept (Q : Nat → Prop) (x y : Rec) : Prop where
  ask : SameAsk x y
  ended : Ended x → Ended y
  others : ¬Q x.seq → y = { x with flags := y.flags }

theorem RecKept.refl (Q : Nat → Prop) (x : Rec) : RecKept Q x x := ⟨.refl x, id, fun _ => rfl⟩

theorem RecKept.trans {Q : Nat → Prop} {x y z : Rec} (h : RecKept Q x y) (h' : RecKept Q y z) : RecKept Q x z where
  ask := h.ask.trans h'.ask
  ended e := h'.ended (h.ended e)
  others hq := by
    have hy := h.others hq
    have hz := h'.others (h.ask.seq ▸ hq)
    rw [hz, hy]

/-- What the end of records with numbers in `Q` leaves. -/
structure Ending (Q : Nat → Prop) (s t : State) : Prop where
  counter : t.counter = s.counter
  recs : ∃ g, (∀ x, RecKept Q x (g x)) ∧ t.recs = s.recs.map g
  sched : ∀ b, SchedKept (s.schedOf b) (t.schedOf b)
  slots : SlotsKept Q s.slots t.slots
  released : freeCount s < freeCount t → ∀ b, (t.schedOf b).triggered = true

theorem Ending.refl (Q : Nat → Prop) (s : State) : Ending Q s s :=
  ⟨rfl, ⟨id, .refl Q, (List.map_id _).symm⟩, fun _ => .refl _, .refl Q _, fun h => absurd h (Nat.lt_irrefl _)⟩

theorem Ending.trans {Q : Nat → Prop} {s t u : State} (h : Ending Q s t) (h' : Ending Q t u) : Ending Q s u where
  counter := h'.counter.trans h.counter
  recs := by
    obtain ⟨f, kf, hf⟩ := h.recs
    obtain ⟨g, kg, hg⟩ := h'.recs
    exact ⟨g ∘ f, fun x => (kf x).trans (kg (f x)), by rw [hg, hf, List.map_map]⟩
  sched b := (h.sched b).trans (h'.sched b)
  slots := h.slots.trans h'.slots
  released hl b := by
    by_cases later : freeCount t < freeCount u
    · exact h'.released later b
    · exact (h'.sched b).triggered (h.released (by omega) b)

theorem Ending.mono {Q Q' : Nat → Prop} {s t : State} (hQ : ∀ q, Q q → Q' q) (h : Ending Q s t) : Ending Q' s t where
  counter := h.counter
  recs := by
    obtain ⟨g, kg, hg⟩ := h.recs
    exact ⟨g, fun x => ⟨(kg x).ask, (kg x).ended, fun hn => (kg x).others fun hq => hn (hQ _ hq)⟩, hg⟩
  sched := h.sched
  slots := ⟨h.slots.length, fun j y hy => by
    obtain ⟨z, hz, k⟩ := h.slots.at_place j y hy
    exact ⟨z, hz, k.fewer, fun q hn => k.others q fun hq => hn (hQ q hq)⟩⟩
  released := h.released

section
variable {Q : Nat → Prop} {s t : State}

/-- A change of places and marks alone. -/
theorem Ending.of_sched (hc : t.counter = s.counter) (hr : t.recs = s.recs) (hs : t.slots = s.slots)
    (h : ∀ b, SchedKept (s.schedOf b) (t.schedOf b)) : Ending Q s t where
  counter := hc
  recs := ⟨id, .refl Q, hr.trans (List.map_id _).symm⟩
  sched := h
  slots := hs ▸ .refl Q _
  released hl := absurd hl (by simp [freeCount, hs])

theorem Ending.mapRec (s : State) (q : Nat) {f : Rec → Rec} (hf : ∀ x, RecKept Q x (if x.seq = q then f x else x)) :
    Ending Q s (s.mapRec q f) :=
  ⟨rfl, ⟨_, hf, rfl⟩, fun _ => .refl _, .refl Q _, fun h => absurd h (Nat.lt_irrefl _)⟩

theorem RecKept.of_eq {q : Nat} (hq : Q q) {f : Rec → Rec} (ha : ∀ x, SameAsk x (f x)) (he : ∀ x, Ended x → Ended (f x))
    (x : Rec) : RecKept Q x (if x.seq = q then f x else x) := by
  split
  · rename_i h
    exact ⟨ha x, he x, fun hn => absurd (h ▸ hq) hn⟩
  · exact .refl Q x

theorem signalRelease_counter (before s : State) : (signalRelease before s).counter = s.counter := by
  unfold signalRelease
  split <;> rfl

/-- Slots given up, with the release signal where the pool has grown (R39). -/
theorem Ending.drop (s : State) {l : List Slot} (h : SlotsKept Q s.slots l) :
    Ending Q s (signalRelease s (s.withSlots l)) where
  counter := signalRelease_counter _ _
  recs := ⟨id, .refl Q, (signalRelease_recs _ _).trans (List.map_id _).symm⟩
  sched b := (OnlyTriggers.signalRelease s (s.withSlots l)).kept b
  slots := by
    rw [signalRelease_slots]
    exact h
  released := by
    rcases signalRelease_cases s (s.withSlots l) with ⟨hl, e⟩ | ⟨hl, e⟩ <;> rw [e]
    · exact fun _ b => by cases b <;> rfl
    · exact fun h => absurd h hl

theorem leaveScheduler_only (r : Rec) (s : State) :
    (leaveScheduler r s).counter = s.counter ∧ (leaveScheduler r s).slots = s.slots := by
  have mode : ∀ b t, (checkMode b t).counter = t.counter ∧ (checkMode b t).slots = t.slots := fun b t => by
    unfold checkMode
    dsimp only
    split <;> exact ⟨rfl, rfl⟩
  unfold leaveScheduler
  dsimp only
  split
  · exact ⟨rfl, rfl⟩
  · split
    · exact mode _ _
    · exact ⟨rfl, rfl⟩

theorem Ending.leaveScheduler (r : Rec) (s : State) : Ending Q s (leaveScheduler r s) :=
  .of_sched (leaveScheduler_only r s).1 (leaveScheduler_recs r s) (leaveScheduler_only r s).2 (leaveScheduler_kept r s)

theorem endEffect_only (r : Rec) (s : State) :
    (endEffect r s).counter = s.counter ∧ (endEffect r s).recs = s.recs ∧ (endEffect r s).slots = s.slots := by
  unfold endEffect
  split
  · exact ⟨rfl, rfl, rfl⟩
  · split <;> exact ⟨rfl, rfl, rfl⟩

theorem Ending.endEffect (r : Rec) (s : State) : Ending Q s (endEffect r s) :=
  .of_sched (endEffect_only r s).1 (endEffect_only r s).2.1 (endEffect_only r s).2.2 fun b => (OnlyTriggers.endEffect r s).kept b

theorem signalHoldEnds_only (before s : State) :
    (signalHoldEnds before s).counter = s.counter ∧ (signalHoldEnds before s).slots = s.slots :=
  foldl_keeps (P := fun t => t.counter = s.counter ∧ t.slots = s.slots) (fun t r ht => by split <;> exact ht) _ _ ⟨rfl, rfl⟩

theorem Ending.signalHoldEnds (before s : State) : Ending Q s (signalHoldEnds before s) :=
  .of_sched (signalHoldEnds_only before s).1 (signalHoldEnds_recs before s) (signalHoldEnds_only before s).2
    fun b => (OnlyTriggers.signalHoldEnds before s).kept b

theorem Ending.foldl {α : Type} {f : State → α → State} {l : List α} (h : ∀ x ∈ l, ∀ t, Ending Q s t → Ending Q t (f t x)) :
    Ending Q s (l.foldl f s) :=
  List.foldlRecOn (motive := Ending Q s) l f (.refl Q s) fun t ht x hx => ht.trans (h x hx t ht)

theorem Ending.dropUnqueued {r : Rec} (hq : Q r.seq) (s : State) (i : Nat) : Ending Q s (dropUnqueued r s i) := by
  unfold Machine.dropUnqueued
  split
  · rename_i j _
    have change : ∀ x : Rec, SameAsk x (x.mapSector i fun y => { y with slot := none }) := fun _ => ⟨rfl, rfl, rfl, rfl, rfl, rfl, rfl⟩
    exact (Ending.mapRec s r.seq (RecKept.of_eq hq change fun _ => id)).trans (.drop _ (.modify_dropFrom hq j _))
  · exact .refl Q s

theorem Ending.giveUp {r : Rec} (hq : Q r.seq) (s : State) : Ending Q s (giveUp r s) := by
  unfold Machine.giveUp
  split
  · split
    · exact .foldl fun i _ t _ => .dropUnqueued hq t i
    · exact .refl Q s
  · exact .drop s (.map_dropFrom hq _)

/-- The entry to ENDING, step by step. -/
theorem enterEndingAlone_eq {q : Nat} {r : Rec} (hr : s.rec? q = some r) (he : r.state ≠ .ending) :
    enterEndingAlone q s = signalHoldEnds s (endEffect r (giveUp r (leaveScheduler r
      (s.mapRec q fun x => { x with state := .ending, stalled := false })))) := by
  unfold enterEndingAlone
  simp only [hr, he, if_false]

theorem enterEndingAlone_ended {q : Nat} {r : Rec} (hr : s.rec? q = some r) (he : r.state = .ending) :
    enterEndingAlone q s = s := by
  unfold enterEndingAlone
  simp only [hr, he, if_true]

theorem Ending.enterEndingAlone {q : Nat} (hq : Q q) (s : State) : Ending Q s (enterEndingAlone q s) := by
  cases hr : s.rec? q with
  | none =>
    unfold Machine.enterEndingAlone
    rw [hr]
    exact .refl Q s
  | some r =>
    by_cases he : r.state = .ending
    · rw [enterEndingAlone_ended hr he]
      exact .refl Q s
    · rw [enterEndingAlone_eq hr he]
      have change : ∀ x : Rec, SameAsk x { x with state := .ending, stalled := false } := fun _ => ⟨rfl, rfl, rfl, rfl, rfl, rfl, rfl⟩
      have marked := Ending.mapRec s q (RecKept.of_eq hq change fun _ _ => .inl rfl)
      exact (((marked.trans (.leaveScheduler r _)).trans (.giveUp ((rec?_seq hr).symm ▸ hq) _)).trans (.endEffect r _)).trans
        (.signalHoldEnds s _)

theorem Ending.degradeWriteOf (r : Rec) (s : State) : Ending Q s (degradeWriteOf r s) := by
  unfold Machine.degradeWriteOf
  split
  · refine .foldl fun p _ t _ => Ending.mapRec t p fun x => ?_
    split
    · exact ⟨⟨rfl, rfl, rfl, rfl, rfl, rfl, rfl⟩, id, fun _ => rfl⟩
    · exact .refl Q x
  · exact .refl Q s

theorem endByAlone_ended {c : EndCause} {q : Nat} {r : Rec} (hr : s.rec? q = some r) (he : Ended r) : endByAlone c q s = s := by
  unfold endByAlone
  simp only [hr]
  exact if_pos he

/-- The end cause set on a record, its write degraded where it is abandoned. -/
def caused (c : EndCause) (r : Rec) (s : State) : State :=
  let s1 := s.mapRec r.seq fun x => { x with endCause := some c }
  if c = .abandoned then degradeWriteOf r s1 else s1

theorem endByAlone_eq {c : EndCause} {q : Nat} {r : Rec} (hr : s.rec? q = some r) (he : ¬Ended r) :
    endByAlone c q s =
      if r.state = .active ∧ ownPassInFlight s r then caused c r s else enterEndingAlone q (caused c r s) := by
  unfold endByAlone
  simp only [hr]
  obtain rfl := rec?_seq hr
  exact if_neg he

theorem Ending.caused {c : EndCause} {r : Rec} (hq : Q r.seq) (s : State) : Ending Q s (caused c r s) := by
  have change : ∀ x : Rec, SameAsk x { x with endCause := some c } := fun _ => ⟨rfl, rfl, rfl, rfl, rfl, rfl, rfl⟩
  have marked := Ending.mapRec s r.seq (RecKept.of_eq hq change fun _ _ => .inr rfl)
  unfold Machine.caused
  dsimp only
  split
  · exact marked.trans (.degradeWriteOf r _)
  · exact marked

theorem Ending.endByAlone {c : EndCause} {q : Nat} (hq : Q q) (s : State) : Ending Q s (endByAlone c q s) := by
  cases hr : s.rec? q with
  | none =>
    unfold Machine.endByAlone
    rw [hr]
    exact .refl Q s
  | some r =>
    by_cases he : Ended r
    · rw [endByAlone_ended hr he]
      exact .refl Q s
    · rw [endByAlone_eq hr he]
      have marked : Ending Q s (Machine.caused c r s) := .caused ((rec?_seq hr).symm ▸ hq) s
      split
      · exact marked
      · exact marked.trans (.enterEndingAlone hq _)

theorem endByAlone_ending (c : EndCause) (q : Nat) (s : State) : Ending (· = q) s (endByAlone c q s) :=
  .endByAlone (Q := (· = q)) rfl s

/-- Kinds stay, so the FALLBACK_READ records after a change are those before it. -/
theorem Ending.fallbacks {t : State} (h : Ending Q s t) (hf : ∀ o ∈ s.recs, isFallback o = true → Q o.seq) :
    ∀ o ∈ t.recs, isFallback o = true → Q o.seq := by
  obtain ⟨g, kg, hg⟩ := h.recs
  intro o ho hk
  rw [hg] at ho
  obtain ⟨x, hx, rfl⟩ := List.mem_map.mp ho
  have same := (kg x).ask
  refine same.seq ▸ hf x hx ?_
  rwa [isFallback, same.kind] at hk

theorem Ending.cancelFallbacks {q : Nat} (hf : ∀ o ∈ s.recs, isFallback o = true → Q o.seq) :
    Ending Q s (cancelFallbacks q s) := by
  refine .foldl fun x hx t _ => .endByAlone ?_ t
  obtain ⟨o, ho, rfl⟩ := List.mem_map.mp hx
  obtain ⟨hm, hk⟩ := List.mem_filter.mp ho
  exact hf o hm (Bool.and_eq_true_iff.mp hk).1

theorem Ending.endBy {c : EndCause} {q : Nat} (hq : Q q) (hf : ∀ o ∈ s.recs, isFallback o = true → Q o.seq) :
    Ending Q s (endBy c q s) := by
  have alone : Ending Q s (Machine.endByAlone c q s) := .endByAlone hq s
  unfold Machine.endBy
  split
  · exact .refl Q s
  · split
    · exact alone.trans (.cancelFallbacks (alone.fallbacks hf))
    · exact alone

theorem Ending.rec? {t : State} (h : Ending Q s t) {q : Nat} {r : Rec} (hr : s.rec? q = some r) :
    ∃ x, t.rec? q = some x ∧ RecKept Q r x := by
  obtain ⟨g, kg, hg⟩ := h.recs
  have found : t.rec? q = (s.withRecs (s.recs.map g)).rec? q := by
    unfold State.rec?
    rw [hg, State.withRecs_recs]
  exact ⟨g r, by rw [found, rec?_map s q fun x => (kg x).ask, hr, Option.map_some], kg r⟩

theorem seqsAscend_map {lo c : Nat} {l : List Rec} {g : Rec → Rec} (hg : ∀ x, (g x).seq = x.seq) (h : seqsAscend lo c l) :
    seqsAscend lo c (l.map g) := by
  induction l generalizing lo with
  | nil => trivial
  | cons x xs ih =>
    obtain ⟨hlo, hc, hxs⟩ := h
    refine ⟨?_, ?_, ?_⟩
    · rwa [hg]
    · rwa [hg]
    · rw [hg]
      exact ih hxs

theorem Ending.seqLaw {t : State} (h : Ending Q s t) (hs : seqLaw s) : seqLaw t := by
  obtain ⟨g, kg, hg⟩ := h.recs
  unfold Machine.seqLaw State.nextSeq
  rw [h.counter, hg]
  exact seqsAscend_map (fun x => (kg x).ask.seq) hs

/-! ### The record that ends -/

theorem rec?_of_recs {t : State} (h : t.recs = s.recs) (q : Nat) : t.rec? q = s.rec? q := by
  unfold State.rec?
  rw [h]

/-- A record that has lost slots of sectors at most. -/
structure SlotsGone (x y : Rec) : Prop where
  rest : y = { x with sectors := y.sectors }
  progress : y.sectors.map Sector.progress = x.sectors.map Sector.progress

theorem SlotsGone.trans {x y z : Rec} (h : SlotsGone x y) (h' : SlotsGone y z) : SlotsGone x z where
  rest := by rw [h'.rest, h.rest]
  progress := h'.progress.trans h.progress

theorem SlotsGone.mapSector (x : Rec) (i : Nat) : SlotsGone x (x.mapSector i fun y => { y with slot := none }) where
  rest := rfl
  progress := by
    refine List.ext_getElem? fun j => ?_
    simp only [Rec.mapSector, List.getElem?_map, List.getElem?_modify]
    cases x.sectors[j]? with
    | none => rfl
    | some y => by_cases hij : i = j <;> simp [hij]

theorem dropUnqueued_rec? {r x : Rec} {q : Nat} (i : Nat) (hx : s.rec? q = some x) :
    ∃ y, (dropUnqueued r s i).rec? q = some y ∧ SlotsGone x y := by
  unfold dropUnqueued
  split
  · have change : ∀ x : Rec, SameAsk x (x.mapSector i fun y => { y with slot := none }) := fun _ => ⟨rfl, rfl, rfl, rfl, rfl, rfl, rfl⟩
    have found := rec?_mapRec (s := s) r.seq q change
    rw [hx, Option.map_some] at found
    refine ⟨_, (rec?_of_recs (signalRelease_recs _ _) q).trans found, ?_⟩
    split
    · exact .mapSector x i
    · exact ⟨rfl, rfl⟩
  · exact ⟨x, hx, rfl, rfl⟩

theorem giveUp_rec? {r x : Rec} {q : Nat} (hx : s.rec? q = some x) :
    ∃ y, (giveUp r s).rec? q = some y ∧ SlotsGone x y := by
  unfold giveUp
  split
  · split
    · refine foldl_keeps (P := fun t => ∃ y, t.rec? q = some y ∧ SlotsGone x y) (fun t i ⟨y, hy, k⟩ => ?_) _ _ ⟨x, hx, rfl, rfl⟩
      obtain ⟨z, hz, k'⟩ := dropUnqueued_rec? i hy
      exact ⟨z, hz, k.trans k'⟩
    · exact ⟨x, hx, rfl, rfl⟩
  · exact ⟨x, (rec?_of_recs (dropAll_recs _ _) q).trans hx, rfl, rfl⟩

/-- The record is in ENDING, not stalled, and as it was but for its slots. -/
theorem enterEndingAlone_rec? {q : Nat} {r : Rec} (hr : s.rec? q = some r) (he : r.state ≠ .ending) :
    ∃ x, (enterEndingAlone q s).rec? q = some x ∧ SlotsGone { r with state := .ending, stalled := false } x := by
  have change : ∀ x : Rec, SameAsk x { x with state := .ending, stalled := false } := fun _ => ⟨rfl, rfl, rfl, rfl, rfl, rfl, rfl⟩
  have marked : (leaveScheduler r (s.mapRec q fun x => { x with state := .ending, stalled := false })).rec? q =
      some { r with state := .ending, stalled := false } := by
    rw [← rec?_mapRec_same change hr, rec?_of_recs (leaveScheduler_recs r _)]
  obtain ⟨x, hx, k⟩ := giveUp_rec? (r := r) marked
  refine ⟨x, ?_, k⟩
  rw [enterEndingAlone_eq hr he, rec?_of_recs (signalHoldEnds_recs _ _), rec?_of_recs (endEffect_only r _).2.1, hx]

theorem degradeWriteOf_rec? {r x : Rec} {q : Nat} (hx : s.rec? q = some x) :
    ∃ y, (degradeWriteOf r s).rec? q = some y ∧ y = { x with flags := y.flags } := by
  have kept : Ending (fun _ => False) s (degradeWriteOf r s) := .degradeWriteOf r s
  obtain ⟨y, hy, k⟩ := kept.rec? hx
  exact ⟨y, hy, k.others id⟩

/-- What a record's end by a cause makes of it (R65 to R67): at once in ENDING, or when its own pass is done. -/
structure EndedBy (c : EndCause) (inFlight : Bool) (r x : Rec) : Prop where
  ask : SameAsk r x
  endCause : x.endCause = some c
  state : x.state = if r.state = .active ∧ inFlight = true then r.state else .ending

theorem endByAlone_rec? {c : EndCause} {q : Nat} {r : Rec} (hr : s.rec? q = some r) (he : ¬Ended r) :
    ∃ x, (endByAlone c q s).rec? q = some x ∧ EndedBy c (ownPassInFlight s r) r x := by
  have change : ∀ x : Rec, SameAsk x { x with endCause := some c } := fun _ => ⟨rfl, rfl, rfl, rfl, rfl, rfl, rfl⟩
  obtain rfl := rec?_seq hr
  obtain ⟨u, hu, ku⟩ : ∃ u, (caused c r s).rec? r.seq = some u ∧ u = { r with endCause := some c, flags := u.flags } := by
    have marked := rec?_mapRec_same change hr
    unfold caused
    dsimp only
    split
    · exact degradeWriteOf_rec? marked
    · exact ⟨_, marked, rfl⟩
  rw [endByAlone_eq hr he]
  split
  · rename_i own
    exact ⟨u, hu, by rw [ku]; exact ⟨rfl, rfl, rfl, rfl, rfl, rfl, rfl⟩, by rw [ku], by rw [if_pos own, ku]⟩
  · rename_i own
    have live : u.state ≠ .ending := by
      rw [ku]
      exact fun e => he (.inl e)
    obtain ⟨x, hx, kx⟩ := enterEndingAlone_rec? hu live
    refine ⟨x, hx, ?_, ?_, ?_⟩
    · rw [kx.rest, ku]
      exact ⟨rfl, rfl, rfl, rfl, rfl, rfl, rfl⟩
    · rw [kx.rest, ku]
    · rw [if_neg own, kx.rest]

/-! ### Several records that end, and a read with its fallbacks -/

/-- A pass in flight stays its record's, whatever flags the record was given. -/
theorem ownPassInFlight_kept {t : State} (h : Ending Q s t) {o o' : Rec} (ho : o' = { o with flags := o'.flags }) :
    ownPassInFlight t o' = ownPassInFlight s o := by
  have bay : schedBay o' = schedBay o := by rw [ho]; rfl
  have seq : o'.seq = o.seq := by rw [ho]
  unfold ownPassInFlight
  rw [bay, seq, (h.sched _).pass]

theorem EndedBy.of_flags {c : EndCause} {p : Bool} {r r' x x' : Rec} (h : EndedBy c p r x) (hr : r = { r' with flags := r.flags })
    (hx : x' = { x with flags := x'.flags }) : EndedBy c p r' x' := by
  rw [hr] at h
  rw [hx]
  exact ⟨⟨h.ask.seq, h.ask.kind, h.ask.link, h.ask.bay, h.ask.level, h.ask.first, h.ask.count⟩, h.endCause, h.state⟩

theorem endBy_of_not_read {c : EndCause} {q : Nat} {r : Rec} (hr : s.rec? q = some r) (h : isRead r = false) :
    endBy c q s = endByAlone c q s := by
  unfold endBy
  simp [hr, h]

/-- Records that are no READs end one after the other, each by its own state. -/
theorem foldl_end_rec? {c : EndCause} {f : State → Nat → State}
    (hf : ∀ t q r, t.rec? q = some r → isRead r = false → f t q = endByAlone c q t) {l : List Nat} (hn : l.Nodup) {s : State}
    (hl : ∀ q ∈ l, ∃ r, s.rec? q = some r ∧ isRead r = false) :
    Ending (· ∈ l) s (l.foldl f s) ∧ ∀ q ∈ l, ∀ r, s.rec? q = some r → ¬Ended r →
      ∃ x, (l.foldl f s).rec? q = some x ∧ EndedBy c (ownPassInFlight s r) r x := by
  induction l generalizing s with
  | nil => exact ⟨.refl _ s, fun _ h => nomatch h⟩
  | cons a l ih =>
    obtain ⟨hal, hnl⟩ := List.nodup_cons.mp hn
    obtain ⟨ra, hra, reada⟩ := hl a List.mem_cons_self
    have alone : Ending (· = a) s (f s a) := hf s a ra hra reada ▸ endByAlone_ending c a s
    obtain ⟨rest, each⟩ := ih hnl (s := f s a) fun q hq => by
      obtain ⟨r, hr, hread⟩ := hl q (List.mem_cons_of_mem _ hq)
      obtain ⟨x, hx, k⟩ := alone.rec? hr
      exact ⟨x, hx, by rwa [isRead, k.ask.kind]⟩
    refine ⟨(alone.mono fun q h => h ▸ List.mem_cons_self).trans (rest.mono fun _ => List.mem_cons_of_mem a), fun q hq r hr he => ?_⟩
    rcases List.mem_cons.mp hq with rfl | hq
    · obtain ⟨x, hx, k⟩ := endByAlone_rec? (c := c) hr he
      rw [← hf s q ra hra reada] at hx
      obtain ⟨y, hy, ky⟩ := rest.rec? hx
      exact ⟨y, hy, k.of_flags rfl (ky.others (by rwa [rec?_seq hx]))⟩
    · have other : ¬r.seq = a := fun e => hal (e ▸ (rec?_seq hr).symm ▸ hq)
      obtain ⟨x, hx, k⟩ := alone.rec? hr
      have same := k.others other
      obtain ⟨y, hy, ky⟩ := each q hq x hx (by rw [same]; exact he)
      rw [ownPassInFlight_kept alone same] at ky
      exact ⟨y, hy, ky.of_flags same rfl⟩

theorem seqsAscend_nodup {lo c : Nat} {l : List Rec} (h : seqsAscend lo c l) : (l.map Rec.seq).Nodup := by
  induction l generalizing lo with
  | nil => exact List.nodup_nil
  | cons x xs ih =>
    obtain ⟨_, _, hxs⟩ := h
    refine List.nodup_cons.mpr ⟨fun hm => ?_, ih hxs⟩
    obtain ⟨y, hy, e⟩ := List.mem_map.mp hm
    have later := seqsAscend_ge hxs y hy
    omega

theorem seqsOf_nodup (h : Machine.seqLaw s) (p : Rec → Bool) : (seqsOf s p).Nodup :=
  (seqsAscend_nodup h).sublist (List.filter_sublist.map _)

/-- The numbers of a list of records are found with their kind. -/
theorem rec?_of_seqsOf (h : Machine.seqLaw s) {p : Rec → Bool} {q : Nat} (hq : q ∈ seqsOf s p) :
    ∃ r, s.rec? q = some r ∧ p r = true := by
  obtain ⟨r, hr, rfl⟩ := List.mem_map.mp hq
  obtain ⟨hm, hp⟩ := List.mem_filter.mp hr
  exact ⟨r, rec?_of_mem h hm, hp⟩

theorem not_read_of_fallback {r : Rec} (h : isFallback r = true) : isRead r = false := by
  simp_all [isFallback, isRead]

/-- The fallbacks of a read end by their own states, and no other record with them. -/
theorem cancelFallbacks_rec? (h : Machine.seqLaw s) (q : Nat) :
    Ending (· ∈ seqsOf s fun r => isFallback r && decide (q ∈ r.partners)) s (cancelFallbacks q s) ∧
      ∀ o ∈ s.recs, isFallback o = true → q ∈ o.partners → ¬Ended o →
        ∃ x, (cancelFallbacks q s).rec? o.seq = some x ∧ EndedBy .cancelled (ownPassInFlight s o) o x := by
  obtain ⟨rest, each⟩ := foldl_end_rec? (c := .cancelled) (f := fun t x => endByAlone .cancelled x t) (s := s)
    (fun _ _ _ _ _ => rfl) (seqsOf_nodup h fun r => isFallback r && decide (q ∈ r.partners)) (fun x hx => by
      obtain ⟨r, hr, hp⟩ := rec?_of_seqsOf h hx
      exact ⟨r, hr, not_read_of_fallback (Bool.and_eq_true_iff.mp hp).1⟩)
  refine ⟨rest, fun o ho hk hq he => each o.seq ?_ o (rec?_of_mem h ho) he⟩
  exact List.mem_map.mpr ⟨o, List.mem_filter.mpr ⟨ho, by simp [hk, hq]⟩, rfl⟩

/-- A read is not among its fallbacks. -/
theorem not_mem_fallbacks (h : Machine.seqLaw s) {q : Nat} {r : Rec} (hr : s.rec? q = some r) (hk : isRead r = true)
    (p : Rec → Bool) : q ∉ seqsOf s fun o => isFallback o && p o := fun hm => by
  obtain ⟨o, ho, hp⟩ := rec?_of_seqsOf h hm
  obtain rfl := Option.some.inj (hr.symm.trans ho)
  exact absurd hk (by simp [not_read_of_fallback (Bool.and_eq_true_iff.mp hp).1])

theorem endBy_of_read {c : EndCause} {q : Nat} {r : Rec} (hr : s.rec? q = some r) (h : isRead r = true) (he : ¬Ended r) :
    endBy c q s = cancelFallbacks q (endByAlone c q s) := by
  obtain ⟨live, free⟩ := not_or.mp he
  unfold endBy
  simp [hr, h, unfinished, live, Option.not_isSome_iff_eq_none.mp free]

/-- The record that a cause ends, with its fallbacks or without. -/
theorem endBy_rec? (h : Machine.seqLaw s) {c : EndCause} {q : Nat} {r : Rec} (hr : s.rec? q = some r) (he : ¬Ended r) :
    ∃ x, (endBy c q s).rec? q = some x ∧ EndedBy c (ownPassInFlight s r) r x := by
  obtain ⟨x, hx, k⟩ := endByAlone_rec? (c := c) hr he
  cases hk : isRead r with
  | false => exact endBy_of_not_read hr hk ▸ ⟨x, hx, k⟩
  | true =>
    have law : Machine.seqLaw (endByAlone c q s) := (endByAlone_ending c q s).seqLaw h
    have read : isRead x = true := by rwa [isRead, k.ask.kind]
    obtain ⟨y, hy, ky⟩ := (cancelFallbacks_rec? law q).1.rec? hx
    rw [endBy_of_read hr hk he]
    exact ⟨y, hy, k.of_flags rfl (ky.others (by rw [rec?_seq hx]; exact not_mem_fallbacks law hx read _))⟩

end

end Sys2Proof.Machine
end

section
/-! A CANCEL by the kind of its target, and what the record that enters ENDING gives up. -/

namespace Sys2Proof.Machine

variable {s : State}

/-! ### The place and the slots given up -/

theorem PlaceLeft.of_triggers {q : Nat} {c : Sched} {b : Bay} {t u : State} (h : PlaceLeft q c (t.schedOf b))
    (ht : OnlyTriggers t u) : PlaceLeft q c (u.schedOf b) := by
  have marks := ht.triggered b
  refine ⟨?_, ?_, ?_, ?_, fun e => marks (h.triggered e), ?_⟩ <;> rw [ht.sched b]
  exacts [h.pass, h.modeSet, h.active, h.stack, h.mode]

/-- The record of this number leaves its scheduler's place as it enters ENDING. -/
theorem enterEndingAlone_place {q : Nat} {r : Rec} (hr : s.rec? q = some r) (he : r.state ≠ .ending) :
    PlaceLeft q (s.schedOf (schedBay r)) ((enterEndingAlone q s).schedOf (schedBay r)) := by
  have marked := leaveScheduler_schedOf r (s.mapRec q fun x => { x with state := .ending, stalled := false })
  rw [rec?_seq hr] at marked
  rw [enterEndingAlone_eq hr he]
  exact ((marked.of_triggers (.giveUp r _)).of_triggers (.endEffect r _)).of_triggers (.signalHoldEnds s _)

theorem dropAll_slots (h : Holder) (s : State) : (dropAll h s).slots = s.slots.map (dropFrom h) := signalRelease_slots _ _

/-- The slots after the entry to ENDING are those after the giving up. -/
theorem enterEndingAlone_slots {q : Nat} {r : Rec} (hr : s.rec? q = some r) (he : r.state ≠ .ending) :
    ∃ t : State, t.slots = s.slots ∧ (enterEndingAlone q s).slots = (giveUp r t).slots := by
  refine ⟨_, (leaveScheduler_only r (s.mapRec q fun x => { x with state := .ending, stalled := false })).2, ?_⟩
  rw [enterEndingAlone_eq hr he, (signalHoldEnds_only _ _).2, (endEffect_only r _).2.2]

theorem dropUnqueued_slot {r : Rec} {i j : Nat} (h : r.sectors[i]?.bind Sector.slot = some j) :
    (dropUnqueued r s i).slots = s.slots.modify j (dropFrom (.record r.seq)) := by
  unfold dropUnqueued
  rw [h]
  exact signalRelease_slots _ _

theorem dropUnqueued_other {r : Rec} {i j : Nat} (h : r.sectors[i]?.bind Sector.slot ≠ some j) :
    (dropUnqueued r s i).slots[j]? = s.slots[j]? := by
  cases hk : r.sectors[i]?.bind Sector.slot with
  | none =>
    unfold dropUnqueued
    rw [hk]
  | some k =>
    have ne : ¬k = j := fun e => h (hk.trans (congrArg some e))
    rw [dropUnqueued_slot hk, List.getElem?_modify]
    simp [ne]

/-- The slots of sectors that are not queued are given up one by one. -/
theorem foldl_dropUnqueued_gone {r : Rec} {l : List Nat} {i j : Nat} {y : Slot} (hi : i ∈ l)
    (h : r.sectors[i]?.bind Sector.slot = some j) (hy : (l.foldl (dropUnqueued r) s).slots[j]? = some y) :
    Holder.record r.seq ∉ y.holders := by
  induction l generalizing s with
  | nil => exact nomatch hi
  | cons a l ih =>
    rcases List.mem_cons.mp hi with rfl | hi
    · have later : Ending (· = r.seq) (dropUnqueued r s i) (l.foldl (dropUnqueued r) (dropUnqueued r s i)) :=
        .foldl fun k _ t _ => .dropUnqueued (Q := (· = r.seq)) rfl t k
      obtain ⟨x, hx, k⟩ := later.slots.before hy
      rw [dropUnqueued_slot h, List.getElem?_modify] at hx
      obtain ⟨w, _, rfl⟩ := Option.map_eq_some_iff.mp hx
      intro hm
      have held := k.fewer _ hm
      rw [if_pos rfl] at held
      exact ((mem_dropFrom_holders _ _ w).mp held).2 rfl
    · exact ih hi hy

theorem foldl_dropUnqueued_kept {r : Rec} {l : List Nat} {j : Nat} (h : ∀ i ∈ l, r.sectors[i]?.bind Sector.slot ≠ some j) :
    (l.foldl (dropUnqueued r) s).slots[j]? = s.slots[j]? := by
  induction l generalizing s with
  | nil => rfl
  | cons a l ih =>
    rw [List.foldl_cons, ih fun i hi => h i (List.mem_cons_of_mem a hi), dropUnqueued_other (h a List.mem_cons_self)]

/-- The sectors whose slots a read gives up. -/
theorem mem_unqueued {r : Rec} {i : Nat} :
    i ∈ (List.range r.count).filter (fun i => decide (r.queued ≤ i)) ↔ i < r.count ∧ r.queued ≤ i := by
  simp

theorem giveUp_kept {r : Rec} (hk : r.kind = .read) (hc : r.endCause = none) (s : State) : giveUp r s = s := by
  simp [giveUp, isRead, hk, hc]

theorem giveUp_unqueued {r : Rec} (hk : r.kind = .read) (hc : r.endCause ≠ none) (s : State) : giveUp r s =
    ((List.range r.count).filter fun i => decide (r.queued ≤ i)).foldl (dropUnqueued r) s := by
  simp [giveUp, isRead, hk, Option.isSome_iff_ne_none.mpr hc]

/-- Only a read with an end cause takes other records with it. -/
theorem enterEnding_alone {q : Nat} {r : Rec} (hr : s.rec? q = some r) (h : r.kind ≠ .read ∨ r.endCause = none) :
    enterEnding q s = enterEndingAlone q s := by
  unfold enterEnding
  rcases h with h | h <;> simp [hr, isRead, h]

theorem enterEnding_read {q : Nat} {r : Rec} (hr : s.rec? q = some r) (hk : r.kind = .read) (hc : r.endCause ≠ none) :
    enterEnding q s = cancelFallbacks q (enterEndingAlone q s) := by
  unfold enterEnding
  simp [hr, isRead, hk, Option.isSome_iff_ne_none.mpr hc]

/-- After the record's own entry to ENDING no more than other records end. -/
theorem enterEnding_after {q : Nat} {r : Rec} (h : seqLaw s) (hr : s.rec? q = some r) (he : r.state ≠ .ending) :
    ∃ Q : Nat → Prop, ¬Q q ∧ Ending Q (enterEndingAlone q s) (enterEnding q s) := by
  by_cases alone : r.kind ≠ .read ∨ r.endCause = none
  · exact ⟨fun _ => False, id, enterEnding_alone hr alone ▸ .refl _ _⟩
  · obtain ⟨read, cause⟩ := not_or.mp alone
    have read := not_not.mp read
    obtain ⟨x, hx, k⟩ := enterEndingAlone_rec? hr he
    have law : seqLaw (enterEndingAlone q s) := (Ending.enterEndingAlone (Q := (· = q)) rfl s).seqLaw h
    have readx : isRead x = true := by
      rw [k.rest]
      exact decide_eq_true read
    exact ⟨_, not_mem_fallbacks law hx readx _, enterEnding_read hr read cause ▸ (cancelFallbacks_rec? law q).1⟩

/-! ### What a cancelled record leaves of its bay -/

theorem checkMode_mech (b : Bay) (s : State) : (checkMode b s).mech = s.mech := by
  unfold checkMode
  dsimp only
  split <;> rfl

theorem leaveScheduler_mech (r : Rec) (s : State) : (leaveScheduler r s).mech = s.mech := by
  unfold leaveScheduler
  dsimp only
  split
  · rfl
  · split
    · exact checkMode_mech _ _
    · rfl

theorem signalRelease_mech (before s : State) : (signalRelease before s).mech = s.mech := by
  unfold signalRelease
  split <;> rfl

theorem signalHoldEnds_mech (before s : State) : (signalHoldEnds before s).mech = s.mech :=
  foldl_keeps (P := fun t => t.mech = s.mech) (fun t r ht => by split <;> exact ht) _ _ rfl

theorem endEffect_of_other {r : Rec} (hp : isPrepare r = false) (hf : isFlush r = false) (s : State) : endEffect r s = s := by
  simp [endEffect, hp, hf]

/-- The end of a record that is no READ, PREPARE or MAP_FLUSH leaves the bays as they are. -/
theorem enterEndingAlone_mech {q : Nat} {r : Rec} (hr : s.rec? q = some r) (hk : isRead r = false) (hp : isPrepare r = false)
    (hf : isFlush r = false) : (enterEndingAlone q s).mech = s.mech := by
  by_cases he : r.state = .ending
  · rw [enterEndingAlone_ended hr he]
  · rw [enterEndingAlone_eq hr he, signalHoldEnds_mech, endEffect_of_other hp hf, giveUp_of_not_read hk, dropAll,
      signalRelease_mech, State.withSlots_mech, leaveScheduler_mech]
    rfl

/-! ### The target of a CANCEL -/

theorem cancelRec_ended {r : Rec} (h : Ended r) : cancelRec r s = s :=
  if_pos h.symm

theorem cancelRec_live {r : Rec} (h : ¬Ended r) (hz : (isSetZones r && r.started) = false) :
    cancelRec r s = if isEject r then cancelEject r s else if isWrite r then cancelWrite r s else endBy .cancelled r.seq s := by
  unfold cancelRec
  rw [if_neg (mt Or.symm h), hz]
  rfl

/-- The copies that a WRITE's CANCEL ends with it. -/
theorem cancelWrite_eq (r : Rec) (s : State) : cancelWrite r s =
    (seqsOf s fun o => isCopy o && decide (o.seq ∈ r.partners)).foldl (fun t q => endBy .cancelled q t)
      (endBy .cancelled r.seq s) := rfl

theorem not_read_of_copy {r : Rec} (h : isCopy r = true) : isRead r = false := by simp_all [isCopy, isRead]

theorem not_write_of_copy {r : Rec} (h : isCopy r = true) : isWrite r = false := by simp_all [isCopy, isWrite]

/-- A WRITE and each of its copies end by their own states. -/
theorem cancelWrite_rec? (h : seqLaw s) {r : Rec} (hr : r ∈ s.recs) (he : ¬Ended r) (hw : isWrite r = true) :
    (∃ t, (cancelWrite r s).rec? r.seq = some t ∧ EndedBy .cancelled (ownPassInFlight s r) r t) ∧
      ∀ o ∈ s.recs, isCopy o = true → o.seq ∈ r.partners → ¬Ended o →
        ∃ x, (cancelWrite r s).rec? o.seq = some x ∧ EndedBy .cancelled (ownPassInFlight s o) o x := by
  have found := rec?_of_mem h hr
  have read : isRead r = false := by simp_all [isWrite, isRead]
  have alone : Ending (· = r.seq) s (endBy .cancelled r.seq s) := endBy_of_not_read found read ▸ endByAlone_ending .cancelled r.seq s
  have copies : ∀ q ∈ seqsOf s (fun o => isCopy o && decide (o.seq ∈ r.partners)), ∃ o, s.rec? q = some o ∧ isCopy o = true :=
    fun q hq => by
      obtain ⟨o, ho, hp⟩ := rec?_of_seqsOf h hq
      exact ⟨o, ho, (Bool.and_eq_true_iff.mp hp).1⟩
  obtain ⟨rest, each⟩ := foldl_end_rec? (c := .cancelled) (f := fun t q => endBy .cancelled q t)
    (s := endBy .cancelled r.seq s) (fun _ _ _ hr hk => endBy_of_not_read hr hk)
    (seqsOf_nodup h fun o => isCopy o && decide (o.seq ∈ r.partners)) fun q hq => by
      obtain ⟨o, ho, hk⟩ := copies q hq
      obtain ⟨x, hx, k⟩ := alone.rec? ho
      exact ⟨x, hx, not_read_of_copy (by rwa [isCopy, k.ask.kind])⟩
  refine ⟨?_, fun o ho hk hp hoe => ?_⟩
  · obtain ⟨t, ht, k⟩ := endBy_rec? h (c := .cancelled) found he
    obtain ⟨u, hu, ku⟩ := rest.rec? ht
    refine ⟨u, hu, k.of_flags rfl (ku.others fun hm => ?_)⟩
    rw [rec?_seq ht] at hm
    obtain ⟨o, ho, hk⟩ := copies _ hm
    obtain rfl := Option.some.inj (found.symm.trans ho)
    exact absurd hw (by simp [not_write_of_copy hk])
  · have ne : ¬o.seq = r.seq := fun e => by
      obtain rfl := Option.some.inj ((rec?_of_mem h ho).symm.trans (e ▸ found))
      exact absurd hw (by simp [not_write_of_copy hk])
    obtain ⟨x, hx, k⟩ := alone.rec? (rec?_of_mem h ho)
    have same := k.others ne
    obtain ⟨y, hy, ky⟩ := each o.seq (List.mem_map.mpr ⟨o, List.mem_filter.mpr ⟨ho, by simp [hk, hp]⟩, rfl⟩) x hx
      (by rw [same]; exact hoe)
    rw [ownPassInFlight_kept alone same] at ky
    exact ⟨y, hy, ky.of_flags same rfl⟩

theorem cancelEject_waiting {r : Rec} (h : r.state = .waiting) : cancelEject r s =
    (endBy .cancelled r.seq s).mapMech r.bay fun m => { m with mode := afterEjectCancel (otherEjects s r.bay r.seq) m.mode } :=
  if_pos h

theorem cancelEject_other {r : Rec} (h : r.state ≠ .waiting) : cancelEject r s =
    s.mapRec r.seq fun x => { x with endCause := some .cancelled } :=
  if_neg h

theorem eject_kinds {r : Rec} (h : isEject r = true) :
    isRead r = false ∧ isPrepare r = false ∧ isFlush r = false ∧ isSetZones r = false ∧ isWrite r = false := by
  rcases isEject_iff.mp h with h | h <;> simp [isRead, isPrepare, isFlush, isSetZones, isWrite, h]

/-- A WAITING EJECT cancelled: its bay's state is the one that R34 gives. -/
theorem cancelEject_mode {r : Rec} (hr : s.rec? r.seq = some r) (hk : isEject r = true) (he : ¬Ended r) (hw : r.state = .waiting) :
    ((cancelEject r s).mechOf r.bay).mode = afterEjectCancel (otherEjects s r.bay r.seq) (s.mechOf r.bay).mode := by
  obtain ⟨read, prepare, flush, _, _⟩ := eject_kinds hk
  have change : ∀ x : Rec, SameAsk x { x with endCause := some .cancelled } := fun _ => ⟨rfl, rfl, rfl, rfl, rfl, rfl, rfl⟩
  have caused := rec?_mapRec_same change hr
  have same : (endBy .cancelled r.seq s).mech = s.mech := by
    rw [endBy_of_not_read hr read, endByAlone_eq hr he, if_neg (by simp [hw])]
    exact enterEndingAlone_mech caused read prepare flush
  rw [cancelEject_waiting hw, mechOf_mapMech, if_pos rfl, State.mechOf, same]
  rfl

/-- The target of a CANCEL that is not yet ended. -/
theorem cancelRec_rec? (h : seqLaw s) {r : Rec} (hr : r ∈ s.recs) (he : ¬Ended r) (hz : (isSetZones r && r.started) = false) :
    ∃ t : Rec, (cancelRec r s).rec? r.seq = some t ∧ SameAsk r t ∧ t.endCause = some .cancelled ∧
      t.state =
        (if isEject r then (if r.state = .waiting then .ending else r.state)
         else if r.state = .active ∧ ownPassInFlight s r = true then r.state else .ending) := by
  have found := rec?_of_mem h hr
  rw [cancelRec_live he hz]
  by_cases hk : isEject r = true
  · simp only [hk, if_true]
    by_cases hw : r.state = .waiting
    · rw [cancelEject_waiting hw, if_pos hw]
      obtain ⟨x, hx, k⟩ := endBy_rec? h (c := .cancelled) found he
      exact ⟨x, hx, k.ask, k.endCause, by rw [k.state, if_neg (by simp [hw])]⟩
    · rw [cancelEject_other hw, if_neg hw]
      have change : ∀ x : Rec, SameAsk x { x with endCause := some .cancelled } := fun _ => ⟨rfl, rfl, rfl, rfl, rfl, rfl, rfl⟩
      exact ⟨_, rec?_mapRec_same change found, change r, rfl, rfl⟩
  · rw [if_neg hk, if_neg hk]
    split
    · rename_i hw
      obtain ⟨⟨t, ht, k⟩, _⟩ := cancelWrite_rec? h hr he hw
      exact ⟨t, ht, k.ask, k.endCause, k.state⟩
    · obtain ⟨x, hx, k⟩ := endBy_rec? h (c := .cancelled) found he
      exact ⟨x, hx, k.ask, k.endCause, k.state⟩

/-- Those that end with the target: a WRITE's copy and a READ's fallbacks. -/
theorem cancelRec_companion (h : seqLaw s) {r o : Rec} (hr : r ∈ s.recs) (ho : o ∈ s.recs) (he : ¬Ended r) (hoe : ¬Ended o)
    (hro : (r.kind = .write ∧ o.kind = .mirrorCopy ∧ o.seq ∈ r.partners) ∨
      (r.kind = .read ∧ o.kind = .fallbackRead ∧ r.seq ∈ o.partners)) :
    ∃ x : Rec, (cancelRec r s).rec? o.seq = some x ∧ EndedBy .cancelled (ownPassInFlight s o) o x := by
  have found := rec?_of_mem h hr
  rcases hro with ⟨hk, hok, hp⟩ | ⟨hk, hok, hp⟩
  · rw [cancelRec_live he (by simp [isSetZones, hk]), if_neg (by simp [isEject, hk]), if_pos (show isWrite r = true from decide_eq_true hk)]
    exact (cancelWrite_rec? h hr he (decide_eq_true hk)).2 o ho (decide_eq_true hok) hp hoe
  · have read : isRead r = true := decide_eq_true hk
    rw [cancelRec_live he (by simp [isSetZones, hk]), if_neg (by simp [isEject, hk]), if_neg (by simp [isWrite, hk]),
      endBy_of_read found read he]
    have alone : Ending (· = r.seq) s (endByAlone .cancelled r.seq s) := endByAlone_ending .cancelled r.seq s
    have ne : ¬o.seq = r.seq := fun e => by
      obtain rfl := Option.some.inj ((rec?_of_mem h ho).symm.trans (e ▸ found))
      exact absurd (hk.symm.trans hok) nofun
    obtain ⟨x, hx, k⟩ := alone.rec? (rec?_of_mem h ho)
    have same := k.others ne
    have member : x ∈ (endByAlone .cancelled r.seq s).recs := List.mem_of_find?_eq_some hx
    have live : ¬Ended x := by rw [same]; exact hoe
    have kind : isFallback x = true := by rw [same]; exact decide_eq_true hok
    have partner : r.seq ∈ x.partners := by rw [same]; exact hp
    obtain ⟨y, hy, ky⟩ := (cancelFallbacks_rec? (alone.seqLaw h) r.seq).2 x member kind partner live
    rw [ownPassInFlight_kept alone same] at ky
    exact ⟨y, k.ask.seq ▸ hy, ky.of_flags same rfl⟩

/-- Which other EJECT records stay on the bay (R34). -/
theorem mem_otherEjects {b : Bay} {q : Nat} {o : Rec} :
    o ∈ otherEjects s b q ↔ o ∈ s.recs ∧ isEject o = true ∧ o.bay = b ∧ o.seq ≠ q ∧ o.state ≠ .ending := by
  simp [otherEjects, unfinished, and_assoc]

theorem cancelRec_mode {r : Rec} (h : seqLaw s) (hr : r ∈ s.recs) (hk : isEject r = true) (he : ¬Ended r)
    (hw : r.state = .waiting) :
    ((cancelRec r s).mechOf r.bay).mode = afterEjectCancel (otherEjects s r.bay r.seq) (s.mechOf r.bay).mode := by
  rw [cancelRec_live he (by simp [eject_kinds hk]), if_pos hk, cancelEject_mode (rec?_of_mem h hr) hk he hw]

theorem afterEjectCancel_last {others : List Rec} (h : others = []) (kind : EjectKind) (former : Former) :
    afterEjectCancel others (.ejecting kind former) = former.mode := if_pos h

theorem afterEjectCancel_forced {others : List Rec} {o : Rec} (ho : o ∈ others) (hk : o.kind = .eject true) (kind : EjectKind)
    (former : Former) : afterEjectCancel others (.ejecting kind former) = .ejecting .forced former := by
  have some_left : others ≠ [] := List.ne_nil_of_mem ho
  have forced : (others.any fun o => decide (o.kind = .eject true)) = true := List.any_eq_true.mpr ⟨o, ho, decide_eq_true hk⟩
  exact (if_neg some_left).trans (congrArg (BayMode.ejecting · former) (if_pos forced))

theorem afterEjectCancel_normal {others : List Rec} (h : others ≠ []) (hn : ∀ o ∈ others, o.kind ≠ .eject true)
    (kind : EjectKind) (former : Former) : afterEjectCancel others (.ejecting kind former) = .ejecting .normal former := by
  have none_forced : ¬(others.any fun o => decide (o.kind = .eject true)) = true := fun e => by
    obtain ⟨o, ho, hk⟩ := List.any_eq_true.mp e
    exact hn o ho (of_decide_eq_true hk)
  exact (if_neg h).trans (congrArg (BayMode.ejecting · former) (if_neg none_forced))

end Sys2Proof.Machine

namespace Sys2Proof.Bays
open Machine

/-- Settles O25: the target, those that end with it, and what a record gives up. -/
theorem cancelTaken : Obligations.CancelTaken := by
  refine ⟨⟨⟨fun ch tag target s hl => ⟨fun hn => ?_, fun r hr => ?_⟩, fun r s h => cancelRec_ended h.symm, fun r s hz hs => ?_,
    fun r s h hr hc hs hz => ?_⟩, fun r kind former back s h hr hk hc hs => ⟨fun hw hm hb => ⟨fun ho => ?_, fun ho => ?_, fun ho hn => ?_⟩,
      fun hw => ?_⟩, fun r o s h hr ho hc hs hoc hos hro => ?_⟩, fun q r c c' s t h hr he ht hcd hcd' => ?_, fun k hs d => ?_⟩
  · calc exec (.cancel ch tag target) s = .next (onLink s (takeCancel ch tag target s)) := rfl
      _ = _ := by
        rw [onLink_released hl, takeCancel, hn]
        rfl
  · calc exec (.cancel ch tag target) s = .next (onLink s (takeCancel ch tag target s)) := rfl
      _ = _ := by
        rw [onLink_released hl, takeCancel, hr]
        rfl
  · by_cases he : Ended r
    · exact cancelRec_ended he
    · have other : isEject r = false := by
        cases hk : isEject r with
        | false => rfl
        | true => exact absurd hz (by simp [eject_kinds hk])
      unfold cancelRec
      rw [if_neg (mt Or.symm he), if_neg (by simp [other]), if_pos (by simp [hz, hs])]
  · obtain ⟨t, ht, k, cause, state⟩ := cancelRec_rec? h hr (by simp [Ended, hc, hs]) hz
    exact ⟨t, ht, cause, k.link, k.kind, state⟩
  · have last : otherEjects s r.bay r.seq = [] := List.eq_nil_iff_forall_not_mem.mpr fun o hm => by
      obtain ⟨mem, kind, bay, other, live⟩ := mem_otherEjects.mp hm
      exact other (ho o mem kind bay live)
    rw [cancelRec_mode h hr hk (by simp [Ended, hc, hs]) hw, hm, afterEjectCancel_last last]
    simp only [List.mem_cons, Prod.mk.injEq, List.not_mem_nil, or_false] at hb
    rcases hb with ⟨rfl, rfl⟩ | ⟨rfl, rfl⟩ | ⟨rfl, rfl⟩ | ⟨rfl, rfl⟩ <;> rfl
  · obtain ⟨o, mem, kind, bay, live, other⟩ := ho
    rw [cancelRec_mode h hr hk (by simp [Ended, hc, hs]) hw, hm]
    exact afterEjectCancel_forced (mem_otherEjects.mpr ⟨mem, isEject_iff.mpr (.inl kind), bay, other, live⟩) kind _ _
  · obtain ⟨o, mem, kind, bay, live, other⟩ := ho
    rw [cancelRec_mode h hr hk (by simp [Ended, hc, hs]) hw, hm]
    refine afterEjectCancel_normal (List.ne_nil_of_mem (mem_otherEjects.mpr ⟨mem, isEject_iff.mpr (.inr kind), bay, other, live⟩))
      (fun x hx hf => ?_) _ _
    obtain ⟨mem, _, bay, other, live⟩ := mem_otherEjects.mp hx
    exact other (hn x mem hf bay live)
  · rw [cancelRec_live (by simp [Ended, hc, hs]) (by simp [eject_kinds hk]), if_pos hk, cancelEject_other hw]
    rfl
  · obtain ⟨x, hx, k⟩ := cancelRec_companion h hr ho (by simp [Ended, hc, hs]) (by simp [Ended, hoc, hos]) hro
    exact ⟨x, hx, k.endCause, k.state⟩
  · subst hcd hcd' ht
    obtain ⟨Q, hq, after⟩ := enterEnding_after h hr he
    have place := enterEndingAlone_place hr he
    have later := after.sched (schedBay r)
    refine ⟨?_, fun ha => ?_, fun ha hm => ?_, fun hk => ?_, fun hk => ?_, fun hk hc => ?_, fun hk hc => ⟨?_, ?_⟩, fun hl => ?_⟩
    · obtain ⟨x, hx, k⟩ := enterEndingAlone_rec? hr he
      obtain ⟨u, hu, ku⟩ := after.rec? hx
      refine ⟨u, hu, ?_⟩
      rw [ku.others (by rwa [rec?_seq hx])]
      refine ⟨?_, ?_, ?_, ?_, k.progress⟩ <;> rw [k.rest]
    · exact ⟨later.active (by rw [place.active, if_pos ha]), later.triggered (place.triggered (.inr (.inl ha)))⟩
    · have gone : q ∉ ((enterEndingAlone q s).schedOf (schedBay r)).stack := by
        rw [place.stack, if_neg ha]
        exact fun e => absurd rfl (of_decide_eq_true (List.mem_filter.mp e).2)
      refine ⟨fun e => gone (later.stack q e), later.triggered (place.triggered (.inr (.inr hm))), fun e => ?_⟩
      rw [later.mode (place.mode (.inr ⟨ha, hm⟩)) e, later.modeSet, place.modeSet]
    · rw [enterEnding_alone hr hk]
      exact ⟨place.active, place.stack⟩
    · obtain ⟨t, ht, slots⟩ := enterEndingAlone_slots hr he
      rw [enterEnding_alone hr (.inl hk), slots, giveUp_of_not_read (by simp [isRead, hk]), dropAll_slots, ht, rec?_seq hr]
    · obtain ⟨t, ht, slots⟩ := enterEndingAlone_slots hr he
      rw [enterEnding_alone hr (.inr hc), slots, giveUp_kept hk hc, ht]
    · intro i j x y hi hlt hx hs hy
      obtain ⟨t, _, slots⟩ := enterEndingAlone_slots hr he
      rw [giveUp_unqueued hk hc] at slots
      obtain ⟨w, hw, fewer⟩ := after.slots.before hy
      rw [slots] at hw
      have gone := foldl_dropUnqueued_gone (mem_unqueued.mpr ⟨hlt, hi⟩) (by rw [hx]; exact hs) hw
      rw [rec?_seq hr] at gone
      exact fun hm => gone (fewer.fewer _ hm)
    · intro j y hy hm hn
      obtain ⟨t, ht, slots⟩ := enterEndingAlone_slots hr he
      rw [giveUp_unqueued hk hc] at slots
      have kept : (enterEndingAlone q s).slots[j]? = some y := by
        rw [slots, foldl_dropUnqueued_kept fun i hi e => ?_, ht, hy]
        obtain ⟨hlt, hi⟩ := mem_unqueued.mp hi
        obtain ⟨x, hx, hs⟩ := Option.bind_eq_some_iff.mp e
        exact hn i x hi hlt hx hs
      obtain ⟨z, hz, k⟩ := after.slots.at_place j y kept
      obtain ⟨holder, content⟩ := k.others q hq hm
      exact ⟨z, hz, holder, content⟩
    · have whole := (Ending.enterEndingAlone (Q := fun _ => True) (q := q) trivial s).trans (after.mono fun _ _ => trivial)
      exact ⟨whole.released hl .A, whole.released hl .B⟩
  · refine ⟨fun ho => ?_, fun ho => ?_, rfl, rfl⟩
    · exact if_pos (List.filter_eq_nil_iff.mpr fun x hx => by simp [ho x hx])
    · obtain ⟨x, hx, ne⟩ := ho
      exact if_neg (List.ne_nil_of_mem (List.mem_filter.mpr ⟨hx, decide_eq_true ne⟩))

end Sys2Proof.Bays
end

section
/-! A RELOCATE asked for: when it is skipped, and the record made. -/

namespace Sys2Proof.Machine

variable {s : State} {b : Bay}

/-- The cases in which R117 skips a request, in their order. -/
def relocateSkips (s : State) (b : Bay) (n : Nat) : Bool :=
  (s.mechOf b).inhibit ||
    s.recs.any (fun r => isRelocate r && unfinished r && decide (r.bay = b) && decide (r.first = n)) ||
    coveredByWrite s b n ||
    (match (s.mechOf b).map with
     | none => true
     | some d => wouldRefuse d n 0) ||
    decide (freePlaces s = 0) || decide (freeCount s = 0)

theorem requestRelocate_skipped {v : Variety} {n source : Nat} {bytes : Data} (h : relocateSkips s b n = true) :
    requestRelocate v b n bytes source s = s := if_pos h

/-- The RELOCATE's record, over the slot that it claims. -/
def relocateRec (v : Variety) (b : Bay) (n source j : Nat) : Rec :=
  { newRec (.relocate v) none b 6 n 1 [⟨.relocating, 0, some j, true, none⟩] [source] with
    relocations := [⟨0, 0, none, .pending, 0⟩] }

theorem requestRelocate_made {v : Variety} {n source j : Nat} {js : List Nat} {bytes : Data} (h : relocateSkips s b n = false)
    (hj : freeIds s = j :: js) : requestRelocate v b n bytes source s =
      assignSpare s.nextSeq 0 (createInternal (relocateRec v b n source j)
        (s.withSlots (s.slots.set j (.held [.record s.nextSeq] (some bytes))))) := by
  have claimed : claim (.record s.nextSeq) 1 s = (s.withSlots (s.slots.set j (.held [.record s.nextSeq] none)), [j]) := by
    unfold claim putSlots
    rw [hj]
    rfl
  have filled : fillSlot j (some bytes) (s.withSlots (s.slots.set j (.held [.record s.nextSeq] none))) =
      s.withSlots (s.slots.set j (.held [.record s.nextSeq] (some bytes))) := by
    refine congrArg s.withSlots (List.ext_getElem? fun i => ?_)
    simp only [State.withSlots_slots, List.getElem?_modify, List.getElem?_set]
    by_cases hij : j = i
    · subst hij
      by_cases hl : j < s.slots.length <;> simp [hl]
    · simp [hij]
  have made : requestRelocate v b n bytes source s = assignSpare s.nextSeq 0 (createInternal
      (relocateRec v b n source ((claim (.record s.nextSeq) 1 s).2.headD 0))
      (fillSlot ((claim (.record s.nextSeq) 1 s).2.headD 0) (some bytes) (claim (.record s.nextSeq) 1 s).1)) :=
    if_neg (Bool.eq_false_iff.mp h)
  rw [made, claimed, List.headD_cons, filled]

theorem hasEntry_eq_false (m : DefectMap) (n : Nat) : hasEntry m n = false ↔ ∀ e ∈ m.entries, e.1 ≠ n := by
  simp [hasEntry, List.any_eq_false]

/-- The Defect Map would answer NO_SPARE to a first request (R113). -/
theorem wouldRefuse_first (m : DefectMap) (n : Nat) :
    wouldRefuse m n 0 = true ↔ 1088 ≤ m.cursor ∨ (512 ≤ m.entries.length ∧ ∀ e ∈ m.entries, e.1 ≠ n) := by
  rw [← hasEntry_eq_false]
  rw [wouldRefuse, Bool.or_eq_true, Bool.or_eq_true, Bool.and_eq_true, decide_eq_true_iff, decide_eq_true_iff,
    decide_eq_true_iff, Bool.not_eq_true']
  exact or_congr (or_iff_right (by decide)) Iff.rfl

theorem coveredByWrite_iff (n : Nat) : coveredByWrite s b n = true ↔
    ∃ r ∈ s.recs, r.state ≠ .ending ∧ r.first ≤ n ∧ n < r.first + r.count ∧
      (((r.kind = .write ∨ r.kind = .mirrorCopy) ∧ r.bay = b) ∨ (r.kind = .buildStep ∧ (r.started = true ∨ r.bay = b))) := by
  simp [coveredByWrite, List.any_eq_true, unfinished, covers, isWrite, isCopy, isStep, and_assoc]

theorem relocateSkips_iff (n : Nat) : relocateSkips s b n = true ↔
    (s.mechOf b).inhibit = true ∨
      (∃ r ∈ s.recs, isRelocate r = true ∧ r.state ≠ .ending ∧ r.bay = b ∧ r.first = n) ∨
      (∃ r ∈ s.recs, r.state ≠ .ending ∧ r.first ≤ n ∧ n < r.first + r.count ∧
        (((r.kind = .write ∨ r.kind = .mirrorCopy) ∧ r.bay = b) ∨ (r.kind = .buildStep ∧ (r.started = true ∨ r.bay = b)))) ∨
      (s.mechOf b).map = none ∨
      (∃ m : DefectMap, (s.mechOf b).map = some m ∧
        (1088 ≤ m.cursor ∨ (512 ≤ m.entries.length ∧ ∀ e ∈ m.entries, e.1 ≠ n))) ∨
      16 ≤ s.recs.length ∨ freeCount s = 0 := by
  have relocates : (s.recs.any fun r => isRelocate r && unfinished r && decide (r.bay = b) && decide (r.first = n)) = true ↔
      ∃ r ∈ s.recs, isRelocate r = true ∧ r.state ≠ .ending ∧ r.bay = b ∧ r.first = n := by
    simp [List.any_eq_true, unfinished, and_assoc]
  have places : freePlaces s = 0 ↔ 16 ≤ s.recs.length := by unfold freePlaces Config.places; omega
  have refused : (match (s.mechOf b).map with
      | none => true
      | some d => wouldRefuse d n 0) = true ↔ (s.mechOf b).map = none ∨ ∃ m : DefectMap, (s.mechOf b).map = some m ∧
        (1088 ≤ m.cursor ∨ (512 ≤ m.entries.length ∧ ∀ e ∈ m.entries, e.1 ≠ n)) := by
    cases (s.mechOf b).map with
    | none => simp
    | some d => simp [wouldRefuse_first]
  unfold relocateSkips
  rw [Bool.or_eq_true, Bool.or_eq_true, Bool.or_eq_true, Bool.or_eq_true, Bool.or_eq_true, relocates, coveredByWrite_iff, refused,
    decide_eq_true_iff, decide_eq_true_iff, places]
  simp only [or_assoc]

theorem freeIdsFrom_length (l : List Slot) (n : Nat) : (freeIdsFrom n l).length = l.countP Slot.isFree := by
  induction l generalizing n with
  | nil => rfl
  | cons x xs ih =>
    unfold freeIdsFrom
    split
    · rename_i h
      rw [List.length_cons, ih, List.countP_cons_of_pos h]
    · rename_i h
      rw [ih, List.countP_cons_of_neg h]

theorem freeIds_length (s : State) : (freeIds s).length = freeCount s := freeIdsFrom_length s.slots 0

/-! ### On a bay forced out -/

/-- A record just created is found by its number. -/
theorem rec?_withCreated (h : seqLaw s) (r : Rec) : (withCreated r s).rec? s.nextSeq = some { r with seq := s.nextSeq } := by
  have old : s.recs.find? (fun x => decide (x.seq = s.nextSeq)) = none :=
    List.find?_eq_none.mpr fun x hx => by simp [(h.lt_nextSeq x hx).ne]
  unfold State.rec? withCreated
  rw [List.find?_append, old, Option.none_or]
  simp

theorem enterEndingAlone_recs {q : Nat} {r : Rec} (hr : s.rec? q = some r) (he : r.state ≠ .ending) (hk : isRead r = false) :
    (enterEndingAlone q s).recs = (s.mapRec q fun x => { x with state := .ending, stalled := false }).recs := by
  rw [enterEndingAlone_eq hr he, signalHoldEnds_recs, (endEffect_only r _).2.1, giveUp_of_not_read hk, dropAll_recs,
    leaveScheduler_recs]

/-- A waiting record of the internal kinds that none follows in its end changes alone. -/
theorem endByAlone_waiting {c : EndCause} {q : Nat} {r : Rec} (hr : s.rec? q = some r) (hw : r.state = .waiting)
    (hc : r.endCause = none) (hk : isRead r = false) (hp : isCopy r = false) :
    (endByAlone c q s).recs =
      (s.mapRec q fun x => { x with endCause := some c, state := .ending, stalled := false }).recs := by
  have change : ∀ x : Rec, SameAsk x { x with endCause := some c } := fun _ => ⟨rfl, rfl, rfl, rfl, rfl, rfl, rfl⟩
  have live : ¬Ended r := by simp [Ended, hw, hc]
  have caused_eq : caused c r s = s.mapRec q fun x => { x with endCause := some c } := by
    unfold caused degradeWriteOf
    rw [rec?_seq hr]
    simp [hp]
  rw [endByAlone_eq hr live, if_neg (by simp [hw]), caused_eq,
    enterEndingAlone_recs (rec?_mapRec_same change hr) (by simp [hw]) hk]
  exact congrArg State.recs (mapRec_mapRec s q _ fun _ => rfl)

theorem caused_mech (c : EndCause) (r : Rec) (s : State) : (caused c r s).mech = s.mech := by
  unfold caused degradeWriteOf
  dsimp only
  split
  · split
    · exact foldl_keeps (P := fun t => t.mech = s.mech) (f := fun t p => t.mapRec p (Rec.flag · setDegraded))
        (fun _ _ ht => ht) _ _ rfl
    · rfl
  · rfl

theorem endByAlone_mech {c : EndCause} {q : Nat} {r : Rec} (hr : s.rec? q = some r) (hk : isRead r = false)
    (hp : isPrepare r = false) (hf : isFlush r = false) : (endByAlone c q s).mech = s.mech := by
  by_cases he : Ended r
  · rw [endByAlone_ended hr he]
  · rw [endByAlone_eq hr he]
    split
    · exact caused_mech c r s
    · obtain ⟨x, hx, k⟩ := (Ending.caused (Q := fun _ => True) (c := c) (r := r) trivial s).rec? hr
      have kind := k.ask.kind
      rw [enterEndingAlone_mech hx (by rwa [isRead, kind]) (by rwa [k.ask.isPrepare]) (by rwa [isFlush, kind]), caused_mech]

/-- No spare is assigned to a record whose end cause is set (R113). -/
theorem assignSpare_ended {q i : Nat} {r : Rec} (hr : s.rec? q = some r) (h : r.endCause.isSome = true) :
    assignSpare q i s = s := by
  unfold assignSpare
  rw [hr]
  dsimp only
  split
  · rfl
  · exact if_pos h

theorem wake_map (b : Bay) (s : State) : ((wake b s).mechOf b).map = (s.mechOf b).map := by
  rw [wake, mechOf_mapMech, if_pos rfl]
  split <;> rfl

/-- On a bay forced out the RELOCATE ends ABANDONED as it is created (R33, R54). -/
theorem relocate_abandoned {v : Variety} {n source j : Nat} (h : seqLaw s) (hf : forcedOut (s.mechOf b).mode = true)
    {t : State} (ht : t = assignSpare s.nextSeq 0 (createInternal (relocateRec v b n source j) s)) :
    t.recs = s.recs ++ [{ relocateRec v b n source j with
        seq := s.nextSeq, endCause := some .abandoned, state := .ending, stalled := false }] ∧
      (t.mechOf b).map = (s.mechOf b).map := by
  have created : createInternal (relocateRec v b n source j) s =
      endByAlone .abandoned s.nextSeq (trigger b (wake b (withCreated (relocateRec v b n source j) s))) := by
    have forced : createInternal (relocateRec v b n source j) s =
        endBy .abandoned s.nextSeq (createRec (relocateRec v b n source j) s) := by
      unfold createInternal
      exact if_pos (by rw [show (relocateRec v b n source j).bay = b from rfl, hf]; rfl)
    rw [forced, createRec_wakes rfl rfl]
    exact endBy_of_not_read (rec?_withCreated h _) rfl
  have found : (trigger b (wake b (withCreated (relocateRec v b n source j) s))).rec? s.nextSeq =
      some { relocateRec v b n source j with seq := s.nextSeq } := rec?_withCreated h _
  have recs := endByAlone_waiting (c := .abandoned) found rfl rfl rfl rfl
  have last : (endByAlone .abandoned s.nextSeq (trigger b (wake b (withCreated (relocateRec v b n source j) s)))).recs =
      s.recs ++ [{ relocateRec v b n source j with
        seq := s.nextSeq, endCause := some .abandoned, state := .ending, stalled := false }] :=
    recs.trans (congrArg State.recs (mapRec_withCreated h _ rfl))
  obtain ⟨x, hx, k⟩ := endByAlone_rec? (c := .abandoned) found (by simp [Ended, relocateRec, newRec])
  have done : t = endByAlone .abandoned s.nextSeq (trigger b (wake b (withCreated (relocateRec v b n source j) s))) := by
    rw [ht, created]
    exact assignSpare_ended hx (by rw [k.endCause]; rfl)
  rw [done]
  refine ⟨last, ?_⟩
  rw [State.mechOf, endByAlone_mech found rfl rfl rfl]
  exact wake_map b _

/-! ### A sector read -/

theorem noteTries_only (q n : Nat) (s : State) : (noteTries q n s).slots = s.slots ∧ (noteTries q n s).settings = s.settings :=
  noteTries_keeps (P := fun t => t.slots = s.slots ∧ t.settings = s.settings) (fun _ _ ht => ht) q n ⟨rfl, rfl⟩

/-- The state of a READ's sector whose bytes have come: in its slot, the tries noted. -/
theorem settleRead_data {q i j n : Nat} {d : Data} {r : Rec} {x : Sector} (hr : s.rec? q = some r) (hk : r.kind = .read)
    (hx : r.sectors[i]? = some x) (hj : x.slot = some j) :
    settleRead q i (.data d n) s =
      if decide (1 < x.attempts + n) && s.settings.weak.get r.bay then
        requestRelocate .weak r.bay (r.first + i) d q
          (mapSectorOf q i (fun y => { y with progress := .read, attempts := 0 }) (fillSlot j (some d) (noteTries q (x.attempts + n) s)))
      else mapSectorOf q i (fun y => { y with progress := .read, attempts := 0 }) (fillSlot j (some d) (noteTries q (x.attempts + n) s)) := by
  have slot : ∀ t : State, readSlot t r i = some j := fun t => by simp [readSlot, isFallback, hk, hx, hj]
  have read : isRead r = true := decide_eq_true hk
  unfold settleRead readDelivers
  simp only [hr, hx, foundTries, slot, read, Bool.true_and, (noteTries_only q (x.attempts + n) s).2, rec?_seq hr]

end Sys2Proof.Machine

namespace Sys2Proof.Bays
open Machine

/-- Settles O55. -/
theorem relocateRequested : Obligations.RelocateRequested := by
  refine ⟨fun v b n source bytes s => ⟨fun h => requestRelocate_skipped ((relocateSkips_iff n).mpr h),
    fun m j js hi hr hw hm hc he hl hj => ?_⟩, fun q i j n d r x s u hr hk hx hj hu => ?_⟩
  · have taken : relocateSkips s b n = false := Bool.eq_false_iff.mpr fun h => by
      have free : freeCount s ≠ 0 := by rw [← freeIds_length, hj]; exact Nat.succ_ne_zero _
      rcases (relocateSkips_iff n).mp h with h | ⟨r, mem, kind, live, bay, first⟩ | ⟨r, mem, live, below, above, kind⟩ | h |
        ⟨d, hd, h⟩ | h | h
      · simp [hi] at h
      · exact hr r mem kind live bay first
      · obtain ⟨write, step⟩ := hw r mem live below above
        rcases kind with ⟨kind, bay⟩ | ⟨kind, covers⟩
        · exact write kind bay
        · obtain ⟨unstarted, bay'⟩ := step kind
          simp [unstarted, bay'] at covers
      · simp [hm] at h
      · obtain rfl := Option.some.inj (hm.symm.trans hd)
        rcases h with h | ⟨full, other⟩
        · omega
        · rcases he with he | ⟨e, mem, he⟩
          · omega
          · exact other e mem he
      · omega
      · exact free h
    rw [requestRelocate_made taken hj]
    refine ⟨fun hf => ?_, fun hf law => ?_⟩
    · rw [createInternal_kept hf, createRec_wakes rfl rfl]
      rfl
    · obtain ⟨recs, map⟩ := relocate_abandoned (v := v) (b := b) (n := n) (source := source) (j := j)
        (s := s.withSlots (s.slots.set j (.held [.record s.nextSeq] (some bytes)))) law hf rfl
      exact ⟨_, recs, rfl, rfl, rfl, rfl, map.trans hm⟩
  · have same : u = mapSectorOf q i (fun y => { y with progress := .read, attempts := 0 })
        (fillSlot j (some d) (noteTries q (x.attempts + n) s)) := by
      rw [hu, ← (noteTries_only q (x.attempts + n) s).1]
      rfl
    rw [settleRead_data hr hk hx hj, ← same]
    refine ⟨fun hn hs => if_pos (by simp [hn, hs]), fun h => if_neg ?_⟩
    rcases h with h | h
    · simp [Nat.not_lt.mpr h]
    · simp [h]

end Sys2Proof.Bays
end

section
/-! EJECT: its checks, the release at once, the records that a forced one abandons, and the halt of the bay's stream. -/

namespace Sys2Proof.Machine

variable {s : State} {b : Bay}

/-! ### Its checks -/

/-- Checks 4 and 5 for a normal EJECT. -/
theorem bayRefuses_ejectNormal : ((s.mechOf b).mode ≠ .empty ∧ bayRefuses s b (.eject false) = false) ↔
    (s.mechOf b).mode ∈ [BayMode.ready, .resting, .unlabelled, .damaged, .faulted] ∧
      ∀ r ∈ s.recs, isPrepare r = true → r.bay ≠ b := by
  have takes : stateTakes (s.mechOf b).mode (.eject false) = true ↔
      (s.mechOf b).mode ∈ [BayMode.ready, .resting, .unlabelled, .damaged, .faulted] := by
    simp [stateTakes, or_assoc]
  have held : (s.mechOf b).mode ∈ [BayMode.ready, .resting, .unlabelled, .damaged, .faulted] → (s.mechOf b).mode ≠ .empty := by
    rintro h e
    simp [e] at h
  have refuses : bayRefuses s b (.eject false) = false ↔
      stateTakes (s.mechOf b).mode (.eject false) = true ∧ prepareOn s b = false := by
    simp [bayRefuses, asksPrepare]
  rw [refuses, takes, prepareOn_eq_false]
  exact ⟨And.right, fun h => ⟨held h.1, h⟩⟩

/-- Checks 4 and 5 for a forced EJECT, which a PREPARE does not bar (R33). -/
theorem bayRefuses_ejectForced : ((s.mechOf b).mode ≠ .empty ∧ bayRefuses s b (.eject true) = false) ↔
    (s.mechOf b).mode ∈ [BayMode.ready, .resting, .unlabelled, .damaged, .faulted] ∨
      ∃ f : Former, (s.mechOf b).mode = .ejecting .normal f := by
  have takes : stateTakes (s.mechOf b).mode (.eject true) = true ↔
      (s.mechOf b).mode ∈ [BayMode.ready, .resting, .unlabelled, .damaged, .faulted] ∨
        ∃ f : Former, (s.mechOf b).mode = .ejecting .normal f := by
    generalize (s.mechOf b).mode = m
    cases m with
    | ejecting k f => cases k <;> simp [stateTakes]
    | _ => simp [stateTakes]
  have held : stateTakes (s.mechOf b).mode (.eject true) = true → (s.mechOf b).mode ≠ .empty := by
    rintro h e
    rw [e] at h
    exact absurd h (by decide)
  have refuses : bayRefuses s b (.eject true) = false ↔ stateTakes (s.mechOf b).mode (.eject true) = true := by
    simp [bayRefuses, asksPrepare]
  rw [refuses, ← takes]
  exact ⟨And.right, fun h => ⟨held h, h⟩⟩

theorem streamOn_eq_false : streamOn s b = false ↔ ∀ t : Stream, s.stream = some t → t.bay ≠ b := by
  unfold streamOn
  cases s.stream <;> simp

theorem ejectAsk_fields (forced : Bool) (ch tag level : Nat) (bay : Option Bay) :
    (∀ p ∈ fieldChecks (ejectAsk forced ch tag bay level), p.1 = false) ↔ bay.isSome = true ∧ level ≤ 7 := by
  rw [fieldChecks_pass]
  cases bay <;> simp [ejectAsk, needsPrivilege, badFields, zonesClash, badLevel_eq_false]

/-! ### The ejection begins -/

theorem formerOf_eq {m : BayMode} {former : Former}
    (h : (former, m) ∈ [(Former.ready, BayMode.ready), (.unlabelled, .unlabelled), (.damaged, .damaged), (.resting, .resting)] ∨
      ∃ k : EjectKind, m = .ejecting k former) : formerOf m = former := by
  rcases h with h | ⟨k, rfl⟩
  · simp only [List.mem_cons, Prod.mk.injEq, List.not_mem_nil, or_false] at h
    rcases h with ⟨rfl, rfl⟩ | ⟨rfl, rfl⟩ | ⟨rfl, rfl⟩ | ⟨rfl, rfl⟩ <;> rfl
  · rfl

/-- The EJECT record of an accepted request. -/
def ejectRec (forced : Bool) (ch tag level : Nat) (b : Bay) (s : State) : Rec :=
  { newRec (.eject forced) (some (ch, tag)) b level 0 0 [] [] with
    state := if (s.mechOf b).spindle = .turning then .waiting else .active }

theorem ejectRec_isEject (forced : Bool) (ch tag level : Nat) : isEject (ejectRec forced ch tag level b s) = true := by
  cases forced <;> rfl

theorem beginEject_stays {forced : Bool} {ch tag level : Nat} {kind : EjectKind} (h : releasesAtOnce (s.mechOf b) = false) :
    beginEject (ejectAsk forced ch tag (some b) level) kind b s =
      (withCreated (ejectRec forced ch tag level b s) s).mapMech b
        fun m => { m with mode := .ejecting kind (formerOf m.mode) } := by
  rw [← createRec_eject (ejectRec_isEject forced ch tag level)]
  exact if_neg (Bool.eq_false_iff.mp h)

theorem beginEject_releases {forced : Bool} {ch tag level : Nat} {kind : EjectKind} (h : releasesAtOnce (s.mechOf b) = true) :
    beginEject (ejectAsk forced ch tag (some b) level) kind b s =
      release b (withCreated (ejectRec forced ch tag level b s) s) := by
  rw [← createRec_eject (ejectRec_isEject forced ch tag level)]
  exact if_pos h

/-- With one more record at its end the table is still searched in the order of creation. -/
theorem rec?_withCreated_of_mem (h : seqLaw s) (r : Rec) {x : Rec} (hx : x ∈ (withCreated r s).recs) :
    (withCreated r s).rec? x.seq = some x := by
  rcases List.mem_append.mp hx with hx | hx
  · have found := rec?_of_mem h hx
    unfold State.rec? at found ⊢
    exact List.find?_append.trans (by rw [found, Option.some_or])
  · obtain rfl := List.mem_singleton.mp hx
    exact rec?_withCreated h r

/-- A release at once empties the bay, whatever records are still in ENDING on it (R31, log entry 34). -/
theorem release_withCreated (h : seqLaw s) (r : Rec) :
    EjectsEnd b (releasing b (withCreated r s)) (release b (withCreated r s)) := by
  rw [release_eq]
  refine (enterEnding_ejects _ fun q hq => ?_).1
  obtain ⟨x, hx, rfl⟩ := List.mem_map.mp hq
  obtain ⟨hm, hk⟩ := List.mem_filter.mp hx
  rw [Bool.and_eq_true, decide_eq_true_eq] at hk
  exact ⟨x, rec?_withCreated_of_mem h r hm, hk.1, hk.2⟩

/-! ### The records abandoned -/

/-- The numbers of the records that an abandonment may end. -/
def abandonable (s : State) (q : Nat) : Prop := ∃ o ∈ s.recs, o.seq = q ∧ isFlush o = false ∧ isEject o = false

theorem fallback_abandonable (s : State) : ∀ o ∈ s.recs, isFallback o = true → abandonable s o.seq := fun o ho hk =>
  ⟨o, ho, rfl, by simp_all [isFallback, isFlush], by simp_all [isFallback, isEject]⟩

/-- Records ended one after the other are ended at the end. -/
theorem foldl_endBy_ended {c : EndCause} {Q : Nat → Prop} {l : List Nat} {s : State} (h : seqLaw s) (hl : ∀ q ∈ l, Q q)
    (hf : ∀ o ∈ s.recs, isFallback o = true → Q o.seq) :
    Ending Q s (l.foldl (fun t q => endBy c q t) s) ∧
      ∀ q ∈ l, ∀ r, s.rec? q = some r → ∃ x, (l.foldl (fun t q => endBy c q t) s).rec? q = some x ∧ Ended x := by
  induction l generalizing s with
  | nil => exact ⟨.refl Q s, fun _ hq => nomatch hq⟩
  | cons a l ih =>
    have first : Ending Q s (endBy c a s) := .endBy (hl a List.mem_cons_self) hf
    obtain ⟨rest, each⟩ := ih (first.seqLaw h) (fun q hq => hl q (List.mem_cons_of_mem a hq)) (first.fallbacks hf)
    refine ⟨first.trans rest, fun q hq r hr => ?_⟩
    rcases List.mem_cons.mp hq with rfl | hq
    · obtain ⟨x, hx, hxe⟩ : ∃ x, (endBy c q s).rec? q = some x ∧ Ended x := by
        by_cases he : Ended r
        · obtain ⟨x, hx, k⟩ := first.rec? hr
          exact ⟨x, hx, k.ended he⟩
        · obtain ⟨x, hx, k⟩ := endBy_rec? h (c := c) hr he
          exact ⟨x, hx, .inr (by rw [k.endCause]; rfl)⟩
      obtain ⟨y, hy, k⟩ := rest.rec? hx
      exact ⟨y, hy, k.ended hxe⟩
    · obtain ⟨x, hx, _⟩ := first.rec? hr
      exact each q hq x hx

theorem abandonAll_ends (b : Bay) (h : seqLaw s) :
    Ending (abandonable s) s (abandonAll b forcedEnds s) ∧ ∀ r ∈ s.recs, r.bay = b → isFlush r = false → isEject r = false →
      ∃ x, (abandonAll b forcedEnds s).rec? r.seq = some x ∧ Ended x := by
  obtain ⟨whole, each⟩ := foldl_endBy_ended (c := .abandoned) (Q := abandonable s)
    (l := seqsOf s fun r => decide (r.bay = b) && forcedEnds r) h (fun q hq => by
      obtain ⟨r, hr, rfl⟩ := List.mem_map.mp hq
      obtain ⟨hm, hp⟩ := List.mem_filter.mp hr
      simp only [forcedEnds, Bool.and_eq_true, Bool.not_eq_true'] at hp
      exact ⟨r, hm, rfl, hp.2⟩) (fallback_abandonable s)
  refine ⟨whole, fun r hr hb hf he => each r.seq (List.mem_map.mpr ⟨r, List.mem_filter.mpr ⟨hr, ?_⟩, rfl⟩) r (rec?_of_mem h hr)⟩
  simp [forcedEnds, hb, hf, he]

/-! ### The halt of the bay's stream -/

/-- A report raised is in the set, unless it is merged into a BAND_DONE's (R185). -/
theorem mem_putReport_self (l : List Report) (r : Report) (h : r.body.kind ≠ .bandDone) : r ∈ putReport l r := by
  induction l with
  | nil => exact List.mem_singleton.mpr rfl
  | cons x xs ih =>
    unfold putReport
    split
    · have latest : mergeReport x r = r := by
        unfold mergeReport
        split
        · rename_i e
          rw [e] at h
          exact absurd rfl h
        · rfl
      rw [latest]
      exact List.mem_cons_self
    · exact List.mem_cons_of_mem x ih

/-- Reports of other keys stay (R185). -/
theorem mem_putReport_other {l : List Report} {r x : Report} (hx : x ∈ l) (h : x.sameKey r = false) : x ∈ putReport l r := by
  induction l with
  | nil => exact nomatch hx
  | cons y ys ih =>
    unfold putReport
    rcases List.mem_cons.mp hx with rfl | hx
    · rw [if_neg (by simp [h])]
      exact List.mem_cons_self
    · split
      · exact List.mem_cons_of_mem _ hx
      · exact List.mem_cons_of_mem y (ih hx)

theorem oldestNumber_eq (t : Stream) : oldestNumber t = (t.bands.head?.map Band.number).getD 0 := by
  unfold oldestNumber
  cases t.bands <;> rfl

theorem isHalted_iff (p : StreamPhase) : isHalted p = true ↔ ∃ c : HaltCause, p = .halted c := by
  cases p <;> simp [isHalted]

theorem haltByEject_none (h : s.stream = none) : haltByEject b s = s := by
  unfold haltByEject
  rw [h]

theorem haltByEject_other {t : Stream} (ht : s.stream = some t) (h : t.bay ≠ b ∨ isHalted t.phase = true) :
    haltByEject b s = s := by
  unfold haltByEject
  rw [ht]
  exact if_neg fun hb => h.elim (fun e => e hb.1) fun e => Bool.false_ne_true (hb.2.symm.trans e)

theorem haltByEject_bound {t : Stream} (ht : s.stream = some t) (hb : t.bay = b) (h : isHalted t.phase = false) :
    haltByEject b s = raise b (.streamHalted .eject (oldestNumber t)) (trigger b
      ((s.withStream (some { t with phase := .halted .eject })).mapPort fun p => { p with ready := false })) := by
  subst hb
  unfold haltByEject setPhase
  rw [ht]
  exact if_pos ⟨rfl, h⟩

end Sys2Proof.Machine

namespace Sys2Proof.Bays
open Machine

/-- Settles O22. -/
theorem ejectTaken : Obligations.EjectTaken := by
  refine ⟨⟨⟨fun ch tag level bay s => ⟨?_, ?_⟩, fun ch tag b level s hl hc => ?_, fun ch tag b level s hl hc => ?_,
    fun forced ch tag level kind b s => ⟨fun former hf hr => ?_, fun h hr => ?_⟩⟩, fun b s h => ⟨fun r hr hb hf he => ?_, ?_, fun r hr hk => ?_⟩⟩,
    fun b s => ⟨haltByEject_none, fun t ht => ⟨fun h => ?_, fun hb hh => ⟨_, rfl, ?_, ?_, fun x hx ho => ?_⟩⟩⟩⟩
  · rw [requestCode_eq_none]
    refine exists_congr fun b => and_congr_right fun hb => ?_
    change bay = some b at hb
    rw [ejectAsk_fields, bayChecks_pass, show (ejectAsk false ch tag bay level).kind = .eject false from rfl,
      bayRefuses_ejectNormal, ← streamOn_eq_false]
    simp [hb, ejectAsk, inhibitBars, zoneBars, streamBars, mirrorBars, asksPrepare, bandBars, and_assoc]
  · rw [requestCode_eq_none]
    refine exists_congr fun b => and_congr_right fun hb => ?_
    change bay = some b at hb
    rw [ejectAsk_fields, bayChecks_pass, show (ejectAsk true ch tag bay level).kind = .eject true from rfl,
      bayRefuses_ejectForced]
    simp [hb, ejectAsk, inhibitBars, zoneBars, streamBars, mirrorBars, asksPrepare, bandBars]
  · calc exec (.ejectNormal ch tag (some b) level) s = .next (onLink s (takeEjectNormal ch tag (some b) level s)) := rfl
      _ = .next (conclude (acceptNormal (ejectAsk false ch tag (some b) level) b s)) := by
        rw [onLink_released hl, takeEjectNormal, takeAsk_accepted hc rfl]
  · calc exec (.ejectForced ch tag (some b) level) s = .next (onLink s (takeEjectForced ch tag (some b) level s)) := rfl
      _ = .next (conclude (acceptForced (ejectAsk true ch tag (some b) level) b s)) := by
        rw [onLink_released hl, takeEjectForced, takeAsk_accepted hc rfl]
  · have stays : releasesAtOnce (s.mechOf b) = false := by
      have fault : (s.mechOf b).mode ≠ .faulted := fun e => by simp [e] at hf
      simpa [releasesAtOnce, fault] using hr
    rw [beginEject_stays stays]
    exact mapMech_congr (by
      rw [show ((withCreated (ejectRec forced ch tag level b s) s).mechOf b).mode = (s.mechOf b).mode from rfl, formerOf_eq hf])
  · have ends := release_withCreated (b := b) h (ejectRec forced ch tag level b s)
    rw [beginEject_releases (by simpa [releasesAtOnce] using hr)]
    have emptied : VacantMech ((release b (withCreated (ejectRec forced ch tag level b s) s)).mechOf b) := by
      rw [State.mechOf, ends.mech]
      cases b <;> exact ⟨rfl, rfl, rfl, rfl, rfl, rfl, rfl, rfl⟩
    refine ⟨emptied.mode, emptied.spindle, emptied.locked, emptied.medium, emptied.map, emptied.label, emptied.zones,
      (ends.head b).trans (by cases b <;> rfl), emptied.inhibit, ?_⟩
    rw [ends.link]
    exact mem_putReport _ _ rfl
  · obtain ⟨whole, each⟩ := abandonAll_ends b h
    obtain ⟨g, kg, hg⟩ := whole.recs
    have hm := hr
    rw [hg] at hm
    obtain ⟨x, hx, rfl⟩ := List.mem_map.mp hm
    have ask := (kg x).ask
    obtain ⟨y, hy, hye⟩ := each x hx (ask.bay.symm.trans hb) (by rwa [isFlush, ask.kind] at hf) (by rwa [ask.isEject] at he)
    have found := rec?_of_mem (whole.seqLaw h) hr
    rw [ask.seq, hy] at found
    exact Option.some.inj found ▸ hye
  · obtain ⟨g, kg, hg⟩ := (abandonAll_ends b h).1.recs
    rw [hg, List.map_map]
    refine List.map_congr_left fun x _ => ?_
    obtain ⟨seq, kind, link, bay, level, first, count⟩ := (kg x).ask
    simp only [Function.comp, seq, kind, link, bay, level, first, count]
  · obtain ⟨g, kg, hg⟩ := (abandonAll_ends b h).1.recs
    have spared : ¬abandonable s r.seq := fun ⟨o, ho, e, hf, he⟩ => by
      obtain rfl := Option.some.inj ((rec?_of_mem h ho).symm.trans (e ▸ rec?_of_mem h hr))
      simp [hf, he] at hk
    have same := (kg r).others spared
    refine ⟨g r, hg ▸ List.mem_map_of_mem hr, ?_, ?_, ?_⟩ <;> rw [same]
  · exact haltByEject_other ht (h.imp id (isHalted_iff _).mpr)
  all_goals
    have going : isHalted t.phase = false := Bool.eq_false_iff.mpr fun e => by
      obtain ⟨c, e⟩ := (isHalted_iff _).mp e
      exact hh c e
    rw [haltByEject_bound ht hb going]
  · rfl
  · rw [← oldestNumber_eq]
    exact mem_putReport_self _ _ nofun
  · refine mem_putReport_other hx (Bool.eq_false_iff.mpr fun e => ?_)
    obtain ⟨kind, bay⟩ := Bool.and_eq_true_iff.mp e
    exact ho (of_decide_eq_true kind) (of_decide_eq_true bay)

end Sys2Proof.Bays
end


section
/-! What every thing that follows at once leaves alone, one equation per operation: the settings, the waiting commands, the
stream's counters, the receiving side of the link, the number of slots, the port but for its ready line, the cartridges'
surfaces, and the creation counter where nothing is created. -/

namespace Sys2Proof.Machine

/-- What stands while things follow at once, but for creations and releases. -/
structure Standing where
  settings : Settings
  pending : List Instr
  tally : Tally
  assembly : Assembly
  waiting : Option Byte
  resetLine : Bool
  slots : Nat
  port : Port
  medium : Bay → Option Medium
  counter : BitVec 48

/-- What stands of a state, the port taken with its ready line low. -/
def standing (s : State) : Standing where
  settings := s.settings
  pending := s.pending
  tally := s.tally
  assembly := s.link.assembly
  waiting := s.link.waiting
  resetLine := s.link.resetLine
  slots := s.slots.length
  port := { s.port with ready := false }
  medium b := (s.mechOf b).medium
  counter := s.counter

variable {b : Bay} {q i n : Nat} {r : Rec} {s : State}

/-! ### The basic changes -/

@[simp] theorem standing_mapSched (f : Sched → Sched) : standing (s.mapSched b f) = standing s := rfl
@[simp] theorem standing_withRecs (x : List Rec) : standing (s.withRecs x) = standing s := rfl
@[simp] theorem standing_withStream (x : Option Stream) : standing (s.withStream x) = standing s := rfl
@[simp] theorem standing_mapStream (f : Stream → Stream) : standing (s.mapStream f) = standing s := rfl
@[simp] theorem standing_withMirror (m : Mirror) : standing (s.withMirror m) = standing s := rfl
@[simp] theorem standing_choose : standing s.choose = standing s := rfl
@[simp] theorem standing_mapRec (f : Rec → Rec) : standing (s.mapRec q f) = standing s := rfl
@[simp] theorem standing_trigger : standing (trigger b s) = standing s := rfl
@[simp] theorem standing_reply (ch tag : Nat) (body : ReplyBody) (owner : Option Nat) :
    standing (reply ch tag body owner s) = standing s := rfl
@[simp] theorem standing_raise (body : ReportBody) : standing (raise b body s) = standing s := rfl

theorem standing_withSlots {x : List Slot} (h : x.length = s.slots.length) : standing (s.withSlots x) = standing s := by
  simp [standing, h, State.mechOf]

theorem standing_mapMech {f : Mech → Mech} (h : ∀ m, (f m).medium = m.medium) : standing (s.mapMech b f) = standing s := by
  have media : (fun c => ((s.mapMech b f).mechOf c).medium) = fun c => (s.mechOf c).medium := by
    funext c
    rw [mechOf_mapMech]
    split
    · rename_i e
      rw [h, e]
    · rfl
  simp only [standing, media]
  rfl

@[simp] theorem standing_mapMap (f : DefectMap → DefectMap) : standing (s.mapMap b f) = standing s :=
  standing_mapMech fun _ => rfl

@[simp] theorem standing_wake : standing (wake b s) = standing s :=
  standing_mapMech fun m => by split <;> rfl

@[simp] theorem standing_selectNext : standing (selectNext s) = standing s := by
  obtain ⟨ha, hw, hr⟩ := selectFrame_inbound s.settings.pattern s.link
  simp [standing, selectNext, ha, hw, hr, State.mechOf]

@[simp] theorem standing_setTimer : standing (setTimer b s) = standing s := by
  unfold setTimer
  split <;> exact standing_mapMech fun _ => rfl

theorem standing_foldl {α : Type} {f : State → α → State} (h : ∀ t x, standing (f t x) = standing t) (l : List α) (s : State) :
    standing (l.foldl f s) = standing s :=
  foldl_keeps (P := fun t => standing t = standing s) (fun t x ht => (h t x).trans ht) l s rfl

/-! ### Slots, flags and the stream -/

@[simp] theorem standing_signalRelease (before : State) : standing (signalRelease before s) = standing s := by
  unfold signalRelease
  split <;> rfl

@[simp] theorem standing_dropAll (x : Holder) : standing (dropAll x s) = standing s :=
  (standing_signalRelease s).trans (standing_withSlots (List.length_map _))

@[simp] theorem standing_dropOne (x : Holder) : standing (dropOne x i s) = standing s :=
  (standing_signalRelease s).trans (standing_withSlots (List.length_modify _ _ _))

@[simp] theorem standing_fillSlot (d : Option Data) : standing (fillSlot i d s) = standing s :=
  standing_withSlots (List.length_modify _ _ _)

@[simp] theorem standing_claim (x : Holder) : standing (claim x n s).1 = standing s :=
  standing_withSlots (foldl_set_length _ _ _)

@[simp] theorem standing_flagRecord (f : Flags → Flags) : standing (flagRecord q f s) = standing s := by
  unfold flagRecord
  split
  · rfl
  · split
    · exact standing_foldl (fun _ _ => standing_mapRec _) _ _
    · rfl

@[simp] theorem standing_degradeWriteOf : standing (degradeWriteOf r s) = standing s := by
  unfold degradeWriteOf
  split
  · exact standing_foldl (fun _ _ => standing_mapRec _) _ _
  · rfl

/-- The port changes in its ready line alone (R138). -/
@[simp] theorem standing_setPhase (ph : StreamPhase) : standing (setPhase ph s) = standing s := by
  unfold setPhase
  split <;> rfl

@[simp] theorem standing_primingTest : standing (primingTest s) = standing s := by
  unfold primingTest
  split
  · rfl
  · split <;> simp

@[simp] theorem standing_armingTest : standing (armingTest s) = standing s := rfl

@[simp] theorem standing_feedThrough : standing (feedThrough n s) = standing s := by
  induction n generalizing s with
  | zero => rfl
  | succ n ih =>
    unfold feedThrough
    split
    · split
      · rfl
      · split
        · rfl
        · split
          · simp [ih, feedThroughOne]
          · rfl
    · rfl

/-! ### Ending -/

@[simp] theorem standing_signalHoldEnds (before : State) : standing (signalHoldEnds before s) = standing s :=
  standing_foldl (fun _ _ => by split <;> rfl) _ _

@[simp] theorem standing_checkMode : standing (checkMode b s) = standing s := by
  unfold checkMode
  dsimp only
  split <;> rfl

@[simp] theorem standing_leaveScheduler : standing (leaveScheduler r s) = standing s := by
  unfold leaveScheduler
  dsimp only
  split
  · rfl
  · split <;> simp

@[simp] theorem standing_dropUnqueued : standing (dropUnqueued r s i) = standing s := by
  unfold dropUnqueued
  split <;> simp

@[simp] theorem standing_giveUp : standing (giveUp r s) = standing s := by
  unfold giveUp
  split
  · split
    · exact standing_foldl (fun _ _ => standing_dropUnqueued) _ _
    · rfl
  · exact standing_dropAll _

@[simp] theorem standing_endEffect : standing (endEffect r s) = standing s := by
  unfold endEffect
  split
  · exact standing_mapMech fun _ => rfl
  · split
    · exact standing_mapMap _
    · rfl

@[simp] theorem standing_enterEndingAlone : standing (enterEndingAlone q s) = standing s := by
  unfold enterEndingAlone
  split
  · rfl
  · split <;> simp

@[simp] theorem standing_endByAlone (c : EndCause) : standing (endByAlone c q s) = standing s := by
  unfold endByAlone
  split
  · rfl
  · split
    · rfl
    · dsimp only
      split <;> split <;> simp

@[simp] theorem standing_cancelFallbacks : standing (cancelFallbacks q s) = standing s :=
  standing_foldl (fun _ _ => standing_endByAlone _) _ _

@[simp] theorem standing_enterEnding : standing (enterEnding q s) = standing s := by
  unfold enterEnding
  split
  · rfl
  · split <;> simp

@[simp] theorem standing_endBy (c : EndCause) : standing (endBy c q s) = standing s := by
  unfold endBy
  split
  · rfl
  · split <;> simp

@[simp] theorem standing_degrade (c : DegradeCause) : standing (degrade c s) = standing s := by
  have copies : ∀ t, standing (cancelWaitingCopies t) = standing t := fun t => standing_foldl (fun _ _ => by simp) _ _
  have steps : ∀ t, standing (cancelSteps t) = standing t := fun t => standing_foldl (fun _ _ => standing_endByAlone _) _ _
  unfold degrade
  split
  · rfl
  · rfl
  · simp [copies, steps]

/-! ### Spares and delivery -/

@[simp] theorem standing_spareLowTest : standing (spareLowTest b s) = standing s := by
  unfold spareLowTest
  split
  · rfl
  · split <;> rfl

@[simp] theorem standing_noSpare : standing (noSpare q i s) = standing s := by
  unfold noSpare
  split
  · rfl
  · dsimp only
    split <;> simp

@[simp] theorem standing_assignSpare : standing (assignSpare q i s) = standing s := by
  unfold assignSpare
  split
  · rfl
  · split
    · rfl
    · split
      · rfl
      · split
        · simp
        · split <;> simp

theorem standing_queueFrom (xs : List Sector) : standing (queueFrom r i xs s) = standing s := by
  induction xs generalizing i s with
  | nil => rfl
  | cons x xs ih =>
    have one : standing (queueOne r i x s) = standing s := by
      unfold queueOne
      dsimp only
      split <;> rfl
    unfold queueFrom
    split
    · rw [ih, one]
    · rfl

@[simp] theorem standing_queueFrames : standing (queueFrames q s) = standing s := by
  unfold queueFrames
  split
  · rfl
  · split
    · exact standing_queueFrom _
    · rfl

@[simp] theorem standing_stepOutcome : standing (stepOutcome r s) = standing s := by
  unfold stepOutcome
  split
  · split
    · rfl
    · split
      · exact standing_degrade _
      · split <;> rfl
  · rfl

/-! ### Planning and stalls -/

@[simp] theorem standing_takeThrough (slot : Option Nat) (d : Data) : standing (takeThrough q i slot d s) = standing s := by
  unfold takeThrough
  cases slot <;> simp

@[simp] theorem standing_claimThrough (d : Data) : standing (claimThrough q i d s) = standing s := by
  simp [claimThrough]

@[simp] theorem standing_planRead : standing (planRead q n s).1 = standing s := by
  induction n generalizing s with
  | zero => rfl
  | succ n ih =>
    unfold planRead
    split
    · rfl
    · split
      · rfl
      · split
        · rfl
        · split
          · split
            · simp [ih]
            · split <;> simp [ih]
          · split <;> simp [ih]

@[simp] theorem standing_planRec : standing (planRec q s).1 = standing s := by
  unfold planRec
  split
  · rfl
  · split <;> simp

theorem standing_of_planRec {t : State} {p : Planned} (h : planRec q s = (t, p)) : standing t = standing s := by
  rw [← standing_planRec (q := q) (s := s), h]

@[simp] theorem standing_markStalled : standing (markStalled q s) = standing s := rfl

@[simp] theorem standing_stall : standing (stall b q s) = standing s := by
  simp [stall]

@[simp] theorem standing_finishRecord : standing (finishRecord q s) = standing s := by
  unfold finishRecord
  split
  · rfl
  · split
    · unfold toWritePhase
      split <;> simp
    · exact standing_enterEnding

/-! ### Pass start and the decision -/

@[simp] theorem standing_assignSlots (is js : List Nat) : standing (assignSlots q is js s) = standing s := by
  induction is generalizing js s with
  | nil => rfl
  | cons i is ih =>
    cases js with
    | nil => rfl
    | cons j js => exact ih js

@[simp] theorem standing_firstStart : standing (firstStart r s) = standing s := by
  unfold firstStart
  split
  · exact standing_mapMech fun _ => rfl
  · exact standing_mapMech fun _ => rfl
  · unfold takeFlushImage
    split
    · rfl
    · exact standing_mapMech fun _ => rfl
  · simp
  · rfl

@[simp] theorem standing_makeActive : standing (makeActive b q s) = standing s := by
  unfold makeActive
  dsimp only
  split
  · split <;> rfl
  · split <;> simp

@[simp] theorem standing_startPass (p : Plan) : standing (startPass b q p n s) = standing s := by
  unfold startPass
  split
  · rfl
  · dsimp only
    split <;> split <;> simp

@[simp] theorem standing_tryPlanned (p : Plan) (refused : Bool) : standing (tryPlanned b q p refused s).state = standing s := by
  unfold tryPlanned
  split <;> simp

@[simp] theorem standing_tryWaiting (qs : List Nat) (refused : Bool) :
    standing (tryWaiting b qs refused s).state = standing s := by
  induction qs generalizing refused s with
  | nil => rfl
  | cons q qs ih =>
    unfold tryWaiting
    split <;> rename_i planned
    · simp [ih, standing_of_planRec planned]
    · simp [ih, standing_of_planRec planned]
    · dsimp only
      split <;> simp [ih, standing_of_planRec planned]

@[simp] theorem standing_tryStack (refused : Bool) : standing (tryStack b n refused s).state = standing s := by
  induction n generalizing refused s with
  | zero => rfl
  | succ n ih =>
    unfold tryStack
    split
    · simp
    · dsimp only
      split
      · simp
      · split <;> rename_i planned <;> simp [ih, standing_of_planRec planned]

@[simp] theorem standing_tryIdle (refused : Bool) : standing (tryIdle b refused s).state = standing s := standing_tryStack _

@[simp] theorem standing_tryActive (refused : Bool) : standing (tryActive b q refused s).state = standing s := by
  unfold tryActive
  split <;> rename_i planned <;> simp [standing_of_planRec planned]

@[simp] theorem standing_tryRecords : standing (tryRecords b s).state = standing s := by
  unfold tryRecords
  split
  · simp
  · split <;> rename_i planned
    · simp [standing_of_planRec planned]
    · simp [standing_of_planRec planned]
    · split
      · dsimp only
        split <;> simp [standing_of_planRec planned]
      · simp [standing_of_planRec planned]

@[simp] theorem standing_considered : standing (considered b s) = standing s := by
  have first : standing (clearStalled b (answerTrigger b s)) = standing s := rfl
  unfold considered feedFirst
  split
  · split <;> simp [first]
  · exact first

@[simp] theorem standing_startFeed : standing (startFeed s) = standing s := by
  unfold startFeed
  split
  · rfl
  · split <;> rfl

@[simp] theorem standing_makeDecision : standing (makeDecision b s) = standing s := by
  unfold makeDecision
  split
  · rfl
  · split
    · rfl
    · dsimp only
      split
      · simp
      · unfold recordOutcome
        split <;> simp

end Sys2Proof.Machine
end


section
/-! Creations and releases among the things that follow at once: a thing makes at most four creations, and a release empties
its bay for good. -/

namespace Sys2Proof.Machine

variable {b : Bay} {j k q : Nat} {r : Rec} {s t u : State}

/-! ### Creations are counted -/

/-- All stands but for at most `k` creations. -/
def Creates (k : Nat) (s t : State) : Prop :=
  ∃ j ≤ k, standing t = { standing s with counter := s.counter + BitVec.ofNat 48 j }

theorem Creates.of_standing (h : standing t = standing s) : Creates k s t :=
  ⟨0, Nat.zero_le _, by rw [h]; simp [standing]⟩

theorem Creates.trans (h : Creates j s t) (h' : Creates k t u) : Creates (j + k) s u := by
  obtain ⟨m, hm, et⟩ := h
  obtain ⟨n, hn, eu⟩ := h'
  have counter : t.counter = s.counter + BitVec.ofNat 48 m := congrArg Standing.counter et
  refine ⟨m + n, Nat.add_le_add hm hn, ?_⟩
  rw [eu, et, counter, BitVec.add_assoc, BitVec.ofNat_add]

theorem Creates.mono (h : Creates j s t) (hk : j ≤ k) : Creates k s t := by
  obtain ⟨m, hm, e⟩ := h
  exact ⟨m, Nat.le_trans hm hk, e⟩

theorem Creates.then_stands (h : Creates k s t) (hu : standing u = standing t) : Creates k s u := by
  obtain ⟨m, hm, e⟩ := h
  exact ⟨m, hm, hu.trans e⟩

theorem Creates.after_stands (ht : standing t = standing s) (h : Creates k t u) : Creates k s u := by
  simpa using (Creates.of_standing (k := 0) ht).trans h

theorem creates_createRec : Creates 1 s (createRec r s) := by
  have created : Creates 1 s ((s.withRecs (s.recs ++ [{ r with seq := s.nextSeq }])).withCounter (s.counter + 1)) :=
    ⟨1, Nat.le_refl _, rfl⟩
  unfold createRec
  dsimp only
  split
  · exact created
  · exact created.then_stands (by split <;> simp)

theorem creates_createInternal : Creates 1 s (createInternal r s) := by
  unfold createInternal
  dsimp only
  split
  · exact creates_createRec.then_stands (standing_endBy _)
  · exact creates_createRec

theorem creates_requestRelocate (v : Variety) (n : Nat) (bytes : Data) (source : Nat) :
    Creates 1 s (requestRelocate v b n bytes source s) := by
  unfold requestRelocate
  exact iteInduction (fun _ => .of_standing rfl) fun _ =>
    (creates_createInternal.after_stands (by simp)).then_stands standing_assignSpare

theorem creates_createFlush : Creates 1 s (createFlush b s) := creates_createInternal.after_stands (standing_mapMap _)

theorem creates_createStep : Creates 1 s (createStep s) := by
  unfold createStep
  split
  · exact creates_createInternal.after_stands (standing_withMirror _)
  · exact .of_standing rfl

theorem creates_askFlush : Creates 1 s (askFlush b s) := by
  unfold askFlush
  split
  · exact .of_standing (standing_mapMap _)
  · exact creates_createFlush

theorem creates_makeFlush : Creates 1 s (makeFlush b s) := by
  unfold makeFlush
  split
  · exact creates_createFlush
  · exact .of_standing rfl

theorem creates_makeStep : Creates 1 s (makeStep s) := by
  unfold makeStep
  split
  · exact creates_createStep
  · exact .of_standing rfl

theorem creates_deferredCreations : Creates 3 s (deferredCreations s) :=
  (creates_makeFlush.trans creates_makeFlush).trans creates_makeStep

theorem creates_fallbackOutcome : Creates 1 s (fallbackOutcome r s) := by
  unfold fallbackOutcome
  split
  · exact .of_standing rfl
  · dsimp only
    split
    · exact .of_standing rfl
    · split
      · exact .of_standing rfl
      · split
        · refine Creates.then_stands ?_ standing_queueFrames
          split
          · exact (creates_requestRelocate _ _ _ _).after_stands (standing_mapRec _)
          · exact .of_standing (standing_mapRec _)
        · exact .of_standing (by simp)

theorem creates_leaveTable : Creates 4 s (leaveTable q s) := by
  unfold leaveTable
  split
  · exact .of_standing rfl
  · dsimp only
    have removed : standing (removeRec q s) = standing s := rfl
    have served : ∀ t, standing t = standing s → Creates 4 s (deferredCreations t) := fun _ ht =>
      (creates_deferredCreations.after_stands ht).mono (by omega)
    split
    · exact served _ ((standing_reply _ _ _ _).trans removed)
    · split
      · exact (creates_deferredCreations.trans creates_fallbackOutcome).after_stands removed
      · split
        · exact served _ (standing_stepOutcome.trans removed)
        · exact served _ removed

theorem creates_creationStep (h : creationStep s = some t) : Creates 1 s t := by
  unfold creationStep at h
  split at h
  · exact Option.some.inj h ▸ creates_askFlush
  · split at h
    · exact Option.some.inj h ▸ creates_askFlush
    · split at h
      · exact Option.some.inj h ▸ creates_createFlush
      · split at h
        · exact Option.some.inj h ▸ creates_createFlush
        · split at h
          · exact Option.some.inj h ▸ creates_createStep
          · exact nomatch h

/-! ### The release of a cartridge -/

/-- A release empties its bay and leaves all else standing (R32). -/
theorem release_stands (h : releaseHolds s b = true) :
    standing (release b s) = { standing s with medium := (standing (release b s)).medium } ∧ Vacant b (release b s) ∧
      ∀ c, c ≠ b → ((release b s).mechOf c).medium = (s.mechOf c).medium := by
  have ended : standing (release b s) = standing (releasing b s) := standing_foldl (fun _ _ => standing_enterEnding) _ _
  have vacant : Vacant b (releasing b s) := by
    refine ⟨?_, ?_, (prepareOn_of_releaseHolds h : prepareOn s b = false)⟩
    · cases b <;> exact ⟨rfl, rfl, rfl, rfl, rfl, rfl, rfl, rfl⟩
    · cases b <;> rfl
  refine ⟨by rw [ended]; rfl, ?_, fun c hc => ?_⟩
  · exact foldl_keeps (f := fun t q => enterEnding q t) (fun _ q ht => (vacant_concludes b).enterEnding_keeps q ht) _ _ vacant
  · refine (congrFun (congrArg Standing.medium ended) c).trans ?_
    change ((s.mapMech b _).mechOf c).medium = _
    rw [mechOf_mapMech, if_neg hc]

theorem ejectStep_stands (h : ejectStep b s = some t) :
    standing t = standing s ∨ (releaseHolds s b = true ∧ t = release b s) := by
  unfold ejectStep at h
  split at h
  · rename_i holds
    split at h <;> cases h
    · refine .inl (Eq.trans ?_ (standing_mapMech (b := b) (f := fun m => { m with spindle := .stopping }) fun _ => rfl))
      rfl
    · exact .inr ⟨holds, rfl⟩
  · exact nomatch h

/-- A thing that follows makes at most four creations, or is a release. -/
theorem nextStep_stands (h : nextStep s = some t) :
    Creates 4 s t ∨ ∃ b, releaseHolds s b = true ∧ t = release b s := by
  rcases nextStep_cases h with created | left | ⟨b, ejected⟩ | decided
  · exact .inl ((creates_creationStep created).mono (by omega))
  · obtain ⟨q, rfl | rfl⟩ := leaveStep_cases left
    · exact .inl creates_leaveTable
    · exact .inl (creates_leaveTable.after_stands standing_choose)
  · rcases ejectStep_stands ejected with stands | ⟨holds, rfl⟩
    · exact .inl (.of_standing stands)
    · exact .inr ⟨b, holds, rfl⟩
  · obtain ⟨b, rfl | rfl⟩ := decisionStep_cases decided
    · exact .inl (.of_standing standing_makeDecision)
    · exact .inl (.of_standing standing_makeDecision)

/-! ### All that follows -/

/-- What all that follows at once leaves of a state, with at most `k` creations made. -/
structure Followed (k : Nat) (s t : State) : Prop where
  stands : ∃ j ≤ k, standing t =
    { standing s with counter := s.counter + BitVec.ofNat 48 j, medium := (standing t).medium }
  medium : ∀ b, (t.mechOf b).medium = (s.mechOf b).medium ∨ Vacant b t

theorem Followed.refl (s : State) : Followed 0 s s := ⟨⟨0, Nat.le_refl _, by simp [standing]⟩, fun _ => .inl rfl⟩

/-- A further change that makes creations alone and leaves a vacant bay vacant adds its creations. -/
theorem Followed.then_creates (h : Followed j s t) (hc : Creates k t u) (hv : ∀ b, Vacant b t → Vacant b u) :
    Followed (j + k) s u := by
  obtain ⟨⟨m, hm, et⟩, media⟩ := h
  obtain ⟨n, hn, eu⟩ := hc
  have counter : t.counter = s.counter + BitVec.ofNat 48 m := congrArg Standing.counter et
  refine ⟨⟨m + n, Nat.add_le_add hm hn, ?_⟩, fun b => ?_⟩
  · rw [eu, et, counter, BitVec.add_assoc, BitVec.ofNat_add]
  · have same : (u.mechOf b).medium = (t.mechOf b).medium := congrFun (congrArg Standing.medium eu) b
    exact (media b).imp same.trans (hv b)

theorem Followed.then_release (h : Followed k s t) (hr : releaseHolds t b = true) : Followed k s (release b t) := by
  obtain ⟨⟨m, hm, et⟩, media⟩ := h
  obtain ⟨stands, vacant, others⟩ := release_stands hr
  refine ⟨⟨m, hm, ?_⟩, fun c => ?_⟩
  · rw [stands, et]
  · by_cases hc : c = b
    · exact .inr (hc ▸ vacant)
    · exact (media c).imp (others c hc).trans fun v =>
        (vacant_concludes c).release_keeps b (releaseHolds_ejecting hr) v

theorem Followed.then_nextStep (h : Followed k s t) (e : nextStep t = some u) : Followed (k + 4) s u := by
  rcases nextStep_stands e with created | ⟨b, holds, rfl⟩
  · exact h.then_creates created fun b v => (vacant_concludes b).nextStep_keeps e v
  · obtain ⟨⟨m, hm, stands⟩, media⟩ := h.then_release holds
    exact ⟨⟨m, Nat.le_add_right_of_le hm, stands⟩, media⟩

theorem Followed.then_settleFor (n : Nat) (h : Followed k s t) : Followed (k + 4 * n) s (settleFor n t) := by
  induction n generalizing k t with
  | zero => exact h
  | succ n ih =>
    unfold settleFor
    split
    · rename_i u e
      have rest := ih (h.then_nextStep e)
      rwa [Nat.add_assoc, Nat.add_comm 4] at rest
    · obtain ⟨⟨m, hm, stands⟩, media⟩ := h
      exact ⟨⟨m, Nat.le_add_right_of_le hm, stands⟩, media⟩

theorem followed_conclude (s : State) : Followed 1200 s (conclude s) := by
  have settled : Followed 1200 s (settle s) := (Followed.refl s).then_settleFor 300
  refine (settled.then_creates (k := 0) (.of_standing ?_) fun b v => ?_ : Followed (1200 + 0) s (conclude s))
  · simp [conclude]
  · exact (vacant_concludes b).select _ ((vacant_concludes b).setTimer_keeps .B ((vacant_concludes b).setTimer_keeps .A v))

/-- The counter's rise within one event does not take it past its end (R52). -/
theorem counter_le_add {c : BitVec 48} (hc : c.toNat + 4096 ≤ 2 ^ 48) (hj : j ≤ 1200) : c ≤ c + BitVec.ofNat 48 j := by
  rw [BitVec.le_def, BitVec.toNat_add, BitVec.toNat_ofNat]
  omega

/-! ### The order of what follows -/

theorem settleFor_of_next (n : Nat) (h : nextStep s = some t) : settleFor (n + 1) s = settleFor n t := by
  rw [settleFor, h]

theorem settleFor_of_none (n : Nat) (h : nextStep s = none) : settleFor (n + 1) s = s := by
  rw [settleFor, h]

theorem nextStep_decision (hc : creationStep s = none) (hl : leaveStep s = none) (ha : ejectStep .A s = none)
    (hb : ejectStep .B s = none) : nextStep s = decisionStep s := by
  simp only [nextStep, hc, hl, ha, hb]

/-- A bay that alone has a trigger to answer decides. -/
theorem decisionStep_alone (h : mustDecide s b = true) (ho : mustDecide s b.other = false) :
    decisionStep s = some (makeDecision b s) := by
  cases b <;> simp only [Bay.other] at ho <;> simp [decisionStep, h, ho]

/-- Of two bays to decide of which one at most may start, bay A decides first. -/
theorem decisionStep_both (ha : mustDecide s .A = true) (hb : mustDecide s .B = true)
    (hm : (mayStart s .A && mayStart s .B) = false) : decisionStep s = some (makeDecision .A s) := by
  unfold decisionStep
  rw [ha, hb, Bool.and_assoc, hm]
  rfl

/-- Of two bays that may both start the first to decide is a free choice (log entry 4). -/
theorem decisionStep_free (ha : mustDecide s .A = true) (hb : mustDecide s .B = true)
    (hm : (mayStart s .A && mayStart s .B) = true) : ∃ b, decisionStep s = some (makeDecision b s.choose) := by
  unfold decisionStep
  rw [ha, hb, Bool.and_assoc, hm]
  by_cases choice : Config.freeChoice s.choices % 2 = 0
  · exact ⟨.A, by simp [choice]⟩
  · exact ⟨.B, by simp [choice]⟩

theorem decisionStep_none (ha : mustDecide s .A = false) (hb : mustDecide s .B = false) : decisionStep s = none := by
  simp [decisionStep, ha, hb]

theorem mayStart_iff : mayStart s b = true ↔ (s.schedOf b).pass = none ∧ canStart s b = true := by
  simp [mayStart, passInFlight]

theorem mustDecide_iff :
    mustDecide s b = true ↔ (s.schedOf b).triggered = true ∨
      (streamOn s b = true ∧ feedEligible s = true ∧ (s.schedOf b).pass = none ∧ canStart s b = true) := by
  simp [mustDecide, passInFlight, and_assoc]

/-- A choice among some is one of them. -/
theorem pickFrom_isSome (n : Nat) {l : List Nat} (h : l ≠ []) : (pickFrom n l).isSome = true := by
  have bound : n % l.length < l.length := Nat.mod_lt _ (List.length_pos_of_ne_nil h)
  rw [pickFrom, if_neg h, List.getElem?_eq_getElem bound]
  rfl

theorem seqsOf_eq_nil {p : Rec → Bool} : seqsOf s p = [] ↔ ∀ r ∈ s.recs, p r = false := by
  simp [seqsOf]

/-- No record leaves when none is ready to leave, internal or of the link (R68). -/
theorem leaveStep_eq_none : leaveStep s = none ↔ ∀ r ∈ s.recs, readyToLeave s r = false := by
  have none_ready : (∀ r ∈ s.recs, readyToLeave s r = false) ↔
      (seqsOf s fun r => readyToLeave s r && !isLink r) = [] ∧ (seqsOf s fun r => readyToLeave s r && isLink r) = [] := by
    rw [seqsOf_eq_nil, seqsOf_eq_nil]
    refine ⟨fun h => ⟨fun r hr => by simp [h r hr], fun r hr => by simp [h r hr]⟩, fun ⟨hi, hl⟩ r hr => ?_⟩
    have internal := hi r hr
    have link := hl r hr
    cases isLink r <;> simp_all
  rw [none_ready]
  unfold leaveStep
  split
  · rename_i internal
    simp [internal]
  · rename_i internal
    split
    · rename_i link
      simp [internal, link]
    · rename_i link
      simp [link]
    · rename_i link _
      have chosen := pickFrom_isSome (Config.freeChoice s.choices) link
      simp only [Option.map_eq_none_iff, Option.isSome_iff_ne_none.mp chosen, false_iff, not_and]
      exact fun _ => link

/-- No creation is due when no map asks for a flush, none waits that finds a place, and no BUILD_STEP can be made (R54). -/
theorem creationStep_eq_none :
    creationStep s = none ↔
      (∀ b : Bay, needsFlush s b = false ∧ (flushDeferred s b = true → 16 ≤ s.recs.length)) ∧ stepCreatable s = false := by
  have noPlace : ∀ b, (flushDeferred s b && decide (freePlaces s ≠ 0)) = false ↔
      (flushDeferred s b = true → 16 ≤ s.recs.length) := fun b => by
    have places : freePlaces s = 16 - s.recs.length := rfl
    rw [places]
    cases flushDeferred s b
    · simp
    · simp only [Bool.true_and, decide_eq_false_iff_not, forall_const]
      omega
  have bays : (∀ b : Bay, needsFlush s b = false ∧ (flushDeferred s b = true → 16 ≤ s.recs.length)) ↔
      (needsFlush s .A = false ∧ needsFlush s .B = false) ∧ (flushDeferred s .A && decide (freePlaces s ≠ 0)) = false ∧
        (flushDeferred s .B && decide (freePlaces s ≠ 0)) = false := by
    rw [noPlace, noPlace]
    exact ⟨fun h => ⟨⟨(h .A).1, (h .B).1⟩, (h .A).2, (h .B).2⟩, fun ⟨⟨na, nb⟩, fa, fb⟩ b => by
      cases b
      exacts [⟨na, fa⟩, ⟨nb, fb⟩]⟩
  rw [bays]
  unfold creationStep
  split
  · simp_all
  · split
    · simp_all
    · split
      · simp_all
      · split
        · simp_all
        · split <;> simp_all

end Sys2Proof.Machine

namespace Sys2Proof.Bays
open Machine

/-- Settles O44: what stands by the equations of the operations, the rest by the order in which the next thing is chosen. -/
theorem whatFollowsKeeps : Obligations.WhatFollowsKeeps := by
  refine ⟨fun s => ?_, fun s => rfl, fun n s => ?_, fun b s => ?_, fun s => ⟨leaveStep_eq_none, creationStep_eq_none⟩⟩
  · obtain ⟨⟨j, hj, stands⟩, media⟩ := followed_conclude s
    simp only [standing, Standing.mk.injEq] at stands
    obtain ⟨settings, pending, tally, assembly, waiting, resetLine, slots, port, _, counter⟩ := stands
    refine ⟨settings, pending, tally, assembly, waiting, resetLine, slots, ?_, fun hc => ?_, fun b => ?_⟩
    · exact congrArg (fun p : Port => { p with ready := (conclude s).port.ready }) port
    · rw [counter]
      exact counter_le_add hc hj
    · exact (media b).imp_right fun v => ⟨v.mech.medium, v.mech.mode, v.mech.locked⟩
  · refine ⟨fun t hc => settleFor_of_next n (by simp only [nextStep, hc]), fun hc =>
      ⟨fun t hl => settleFor_of_next n (by simp only [nextStep, hc, hl]), fun hl =>
        ⟨fun t ha => settleFor_of_next n (by simp only [nextStep, hc, hl, ha]),
          fun t ha hb => settleFor_of_next n (by simp only [nextStep, hc, hl, ha, hb]), fun ha hb => ?_⟩⟩⟩
    have decides := nextStep_decision hc hl ha hb
    refine ⟨fun b h ho => settleFor_of_next n (decides.trans (decisionStep_alone h ho)), fun da db =>
      ⟨fun hm => settleFor_of_next n (decides.trans (decisionStep_both da db hm)), fun hm => ?_⟩,
      fun da db => settleFor_of_none n (decides.trans (decisionStep_none da db))⟩
    obtain ⟨b, chosen⟩ := decisionStep_free da db hm
    exact ⟨b, settleFor_of_next n (decides.trans chosen)⟩
  · refine ⟨mustDecide_iff, mayStart_iff, fun hp => makeDecision_in_flight ?_, fun hp => makeDecision_cannot_start ?_⟩
    · exact Option.isSome_iff_ne_none.mpr hp
    · simp [passInFlight, hp]

end Sys2Proof.Bays
end

section
/-! The slots, the records and the counter as one store (R37, R42, R49, R52), walked through the model once. `Lowers` serves
the operations that claim no slot and create no record, `Grows` those that claim and create under the table's checks,
`Follows` what follows at once, where records leave the table too, and `Stepwise` the commands. -/

namespace Sys2Proof.Machine

/-! ### The store -/

/-- What the laws of the table, of the slots and of the link-read holdings speak of. -/
structure Store where
  slots : List Slot
  recs : List Rec
  counter : BitVec 48
  settings : Settings

def store (s : State) : Store := ⟨s.slots, s.recs, s.counter, s.settings⟩

theorem store_eq_iff {s t : State} : store t = store s ↔
    t.slots = s.slots ∧ t.recs = s.recs ∧ t.counter = s.counter ∧ t.settings = s.settings := by
  simp [store]

section
variable {b : Bay} {n : Nat} {s : State}

@[simp] theorem store_mapMech (f : Mech → Mech) : store (s.mapMech b f) = store s := rfl
@[simp] theorem store_mapMap (f : DefectMap → DefectMap) : store (s.mapMap b f) = store s := rfl
@[simp] theorem store_mapSched (f : Sched → Sched) : store (s.mapSched b f) = store s := rfl
@[simp] theorem store_withStream (x : Option Stream) : store (s.withStream x) = store s := rfl
@[simp] theorem store_mapStream (f : Stream → Stream) : store (s.mapStream f) = store s := rfl
@[simp] theorem store_mapTally (f : Tally → Tally) : store (s.mapTally f) = store s := rfl
@[simp] theorem store_mapPort (f : Port → Port) : store (s.mapPort f) = store s := rfl
@[simp] theorem store_withMirror (m : Mirror) : store (s.withMirror m) = store s := rfl
@[simp] theorem store_mapLink (f : Link → Link) : store (s.mapLink f) = store s := rfl
@[simp] theorem store_choose : store s.choose = store s := rfl
@[simp] theorem store_trigger : store (trigger b s) = store s := rfl
@[simp] theorem store_raise (body : ReportBody) : store (raise b body s) = store s := rfl
@[simp] theorem store_wake : store (wake b s) = store s := rfl
@[simp] theorem store_armingTest : store (armingTest s) = store s := rfl

theorem store_foldl {α : Type} {f : State → α → State} (h : ∀ t x, store (f t x) = store t) (l : List α) (s : State) :
    store (l.foldl f s) = store s :=
  foldl_keeps (P := fun t => store t = store s) (fun t x ht => (h t x).trans ht) l s rfl

@[simp] theorem store_signalRelease (before : State) : store (signalRelease before s) = store s := by
  unfold signalRelease
  split <;> rfl

@[simp] theorem store_signalHoldEnds (before : State) : store (signalHoldEnds before s) = store s :=
  store_foldl (fun _ _ => by split <;> rfl) _ _

@[simp] theorem store_checkMode : store (checkMode b s) = store s := by
  unfold checkMode
  dsimp only
  split <;> rfl

@[simp] theorem store_setPhase (ph : StreamPhase) : store (setPhase ph s) = store s := by
  unfold setPhase
  split <;> rfl

@[simp] theorem store_haltByEject : store (haltByEject b s) = store s := by
  unfold haltByEject
  split
  · rfl
  · split <;> simp

@[simp] theorem store_primingTest : store (primingTest s) = store s := by
  unfold primingTest
  split
  · rfl
  · split <;> simp

@[simp] theorem store_spareLowTest : store (spareLowTest b s) = store s := by
  unfold spareLowTest
  split
  · rfl
  · split <;> rfl

@[simp] theorem store_setTimer : store (setTimer b s) = store s := by
  unfold setTimer
  split <;> rfl

theorem store_createRec (r : Rec) : store (createRec r s) = store (withCreated r s) := by
  unfold createRec
  dsimp only
  split
  · rfl
  · split <;> rfl

/-! ### The stream's operations leave the store -/

theorem store_enterFeed (x : Band) (l : List (Nat × Found)) : store (enterFeed x b l s) = store s := by
  induction l generalizing s with
  | nil => rfl
  | cons y l ih =>
    obtain ⟨j, found⟩ := y
    refine ih.trans ?_
    split <;> rfl

@[simp] theorem store_completeFeed (found : List (Nat × Found)) : store (completeFeed n found s) = store s := by
  unfold completeFeed
  split
  · rfl
  · dsimp only
    split <;> simp [store_enterFeed]

@[simp] theorem store_feedThrough : store (feedThrough n s) = store s := by
  induction n generalizing s with
  | zero => rfl
  | succ n ih =>
    unfold feedThrough
    split
    · split
      · rfl
      · split
        · rfl
        · split
          · simp [ih, feedThroughOne]
          · rfl
    · rfl

@[simp] theorem store_feedFirst : store (feedFirst b s) = store s := by
  unfold feedFirst
  split
  · split <;> simp
  · rfl

@[simp] theorem store_startFeed : store (startFeed s) = store s := by
  unfold startFeed
  split
  · rfl
  · split <;> rfl

@[simp] theorem store_lowTest : store (lowTest s) = store s := by
  unfold lowTest
  split
  · rfl
  · split <;> rfl

@[simp] theorem store_answerLine (t : Stream) : store (answerLine t s) = store s := by
  unfold answerLine
  split
  · rfl
  · split
    · rfl
    · split
      · rfl
      · split
        · exact store_lowTest
        · exact store_lowTest

@[simp] theorem store_acceptBand (t : Stream) (x : Band) : store (acceptBand t x s) = store s := by
  unfold acceptBand afterAccept
  split
  · simp
  · split <;> simp

end

/-! ### Holders of slots -/

/-- Place by place, the records that hold a slot held it before, but for those in `Q`. -/
structure HeldFrom (Q : Nat → Prop) (l l' : List Slot) : Prop where
  length : l'.length = l.length
  before : ∀ (j : Nat) (y z : Slot), l[j]? = some y → l'[j]? = some z → ∀ q, .record q ∈ z.holders →
    .record q ∈ y.holders ∨ Q q

namespace HeldFrom
variable {Q : Nat → Prop} {l l' l'' : List Slot}

theorem refl (Q : Nat → Prop) (l : List Slot) : HeldFrom Q l l :=
  ⟨rfl, fun _ _ _ hy hz _ h => .inl (Option.some.inj (hy.symm.trans hz) ▸ h)⟩

theorem trans (h : HeldFrom Q l l') (h' : HeldFrom Q l' l'') : HeldFrom Q l l'' where
  length := h'.length.trans h.length
  before j x z hx hz q hq := by
    have inside : j < l'.length := h.length ▸ (List.getElem?_eq_some_iff.mp hx).1
    have hy := List.getElem?_eq_getElem inside
    exact (h'.before j _ z hy hz q hq).elim (h.before j x _ hx hy q) .inr

theorem mono {R : Nat → Prop} (hR : ∀ q, Q q → R q) (h : HeldFrom Q l l') : HeldFrom R l l' :=
  ⟨h.length, fun j y z hy hz q hq => (h.before j y z hy hz q hq).imp_right (hR q)⟩

/-- Every holder at the end is one of the beginning or in `Q`. -/
theorem mem (h : HeldFrom Q l l') {z : Slot} (hz : z ∈ l') {q : Nat} (hq : .record q ∈ z.holders) :
    (∃ y ∈ l, .record q ∈ y.holders) ∨ Q q := by
  obtain ⟨j, hj⟩ := List.mem_iff_getElem?.mp hz
  have inside : j < l.length := h.length ▸ (List.getElem?_eq_some_iff.mp hj).1
  exact (h.before j _ z (List.getElem?_eq_getElem inside) hj q hq).imp_left fun hy => ⟨_, List.getElem_mem inside, hy⟩

theorem map {f : Slot → Slot} (hf : ∀ y q, .record q ∈ (f y).holders → .record q ∈ y.holders ∨ Q q) (l : List Slot) :
    HeldFrom Q l (l.map f) where
  length := List.length_map f
  before j y z hy hz := by
    rw [List.getElem?_map, hy] at hz
    exact Option.some.inj hz ▸ hf y

theorem modify {f : Slot → Slot} (hf : ∀ y q, .record q ∈ (f y).holders → .record q ∈ y.holders ∨ Q q) (i : Nat)
    (l : List Slot) : HeldFrom Q l (l.modify i f) where
  length := by simp
  before j y z hy hz := by
    rw [List.getElem?_modify, hy] at hz
    obtain rfl := Option.some.inj hz
    split
    · exact hf y
    · exact fun _ => .inl

theorem foldl_modify {f : Slot → Slot} (hf : ∀ y q, .record q ∈ (f y).holders → .record q ∈ y.holders ∨ Q q)
    (ids : List Nat) (l : List Slot) : HeldFrom Q l (ids.foldl (fun acc i => acc.modify i f) l) :=
  List.foldlRecOn (motive := HeldFrom Q l) ids _ (refl Q l) fun m hm i _ => hm.trans (modify hf i m)

theorem foldl_set {x : Slot} (hx : ∀ q, .record q ∈ x.holders → Q q) (ids : List Nat) (l : List Slot) :
    HeldFrom Q l (ids.foldl (fun acc i => acc.set i x) l) where
  length := foldl_set_length ids x l
  before j y z hy hz q hq := by
    rw [foldl_set_getElem?, hy] at hz
    split at hz <;> obtain rfl := Option.some.inj hz
    · exact .inr (hx q hq)
    · exact .inl hq

/-- What the end of records leaves. -/
theorem of_kept {R : Nat → Prop} (h : SlotsKept R l l') : HeldFrom Q l l' where
  length := h.length
  before j y z hy hz q hq := by
    obtain ⟨y', hy', k⟩ := h.before hz
    exact .inl (Option.some.inj (hy'.symm.trans hy) ▸ k.fewer _ hq)

end HeldFrom

theorem mem_record_holders {q p : Nat} {d : Option Data} (h : Holder.record q ∈ (Slot.held [.record p] d).holders) : q = p := by
  simpa [Slot.holders] using h

/-- A pass that gives up its slots is no record (R48). -/
theorem dropPass_holders (b : Bay) (y : Slot) (q : Nat) (h : .record q ∈ (dropPass b y).holders) : .record q ∈ y.holders := by
  cases y with
  | free => exact h
  | ring => exact h
  | held hs d =>
    unfold dropPass at h
    dsimp only at h
    split at h
    · exact nomatch h
    · obtain ⟨x, hx, e⟩ := List.mem_map.mp (List.mem_of_mem_filter h)
      cases x with
      | record p => cases b <;> exact e ▸ hx
      | passes u v => cases b <;> exact nomatch e

theorem fill_holders (d : Option Data) (y : Slot) (q : Nat)
    (h : .record q ∈ (match y with
      | .held hs _ => Slot.held hs d
      | y => y).holders) : .record q ∈ y.holders := by
  cases y <;> exact h

/-! ### Neither claims nor creations -/

/-- A property of the store that changes of records and slots given up keep. -/
structure Lowers (P : State → Prop) : Prop where
  rest : ∀ {s t : State}, store t = store s → P s → P t
  recs : ∀ (f : Rec → Rec) (s : State), (∀ r, SameAsk r (f r)) → P s → P (s.withRecs (s.recs.map f))
  slots : ∀ (l : List Slot) (s : State), HeldFrom (fun _ => False) s.slots l → P s → P (s.withSlots l)

variable {P : State → Prop}

section
variable (k : Lowers P) {s : State}
include k

theorem Lowers.mapRec_keeps (q : Nat) {f : Rec → Rec} (hf : ∀ r, SameAsk r (f r)) (h : P s) : P (s.mapRec q f) :=
  k.recs _ s (fun r => (hf r).ite _) h

theorem Lowers.mapSector_keeps (q i : Nat) (f : Sector → Sector) (h : P s) : P (s.mapRec q (Rec.mapSector · i f)) :=
  k.mapRec_keeps q (fun _ => ⟨rfl, rfl, rfl, rfl, rfl, rfl, rfl⟩) h

theorem Lowers.mapTry_keeps (q i : Nat) (f : Try → Try) (h : P s) : P (s.mapRec q (Rec.mapTry · i f)) :=
  k.mapRec_keeps q (fun _ => ⟨rfl, rfl, rfl, rfl, rfl, rfl, rfl⟩) h

theorem Lowers.flagRecord_keeps (q : Nat) (f : Flags → Flags) (h : P s) : P (flagRecord q f s) := by
  have flag : ∀ p t, P t → P (t.mapRec p (Rec.flag · f)) :=
    fun p t => k.mapRec_keeps p fun _ => ⟨rfl, rfl, rfl, rfl, rfl, rfl, rfl⟩
  unfold flagRecord
  split
  · exact h
  · split
    · exact foldl_keeps (fun t p => flag p t) _ _ (flag q s h)
    · exact flag q s h

theorem Lowers.fillSlot_keeps (i : Nat) (d : Option Data) (h : P s) : P (fillSlot i d s) :=
  k.slots _ s (.modify (fun y q hq => .inl (fill_holders d y q hq)) i _) h

theorem Lowers.release_keeps {f : Slot → Slot} (hf : ∀ y q, .record q ∈ (f y).holders → .record q ∈ y.holders) (h : P s) :
    P (signalRelease s (s.withSlots (s.slots.map f))) :=
  k.rest (store_signalRelease s) (k.slots _ s (.map (fun y q hq => .inl (hf y q hq)) _) h)

/-! ### Ending -/

/-- The end of records keeps what lowering keeps. -/
theorem Lowers.ending {Q : Nat → Prop} {t : State} (e : Ending Q s t) (hs : standing t = standing s) (h : P s) : P t := by
  obtain ⟨g, kg, hg⟩ := e.recs
  have lowered := k.slots t.slots (s.withRecs (s.recs.map g)) (.of_kept e.slots) (k.recs g s (fun x => (kg x).ask) h)
  exact k.rest (s := (s.withRecs (s.recs.map g)).withSlots t.slots)
    (store_eq_iff.mpr ⟨rfl, hg, e.counter, congrArg Standing.settings hs⟩) lowered

theorem Lowers.degradeWriteOf_keeps (r : Rec) (h : P s) : P (degradeWriteOf r s) :=
  k.ending (Q := fun _ => True) (.degradeWriteOf r s) standing_degradeWriteOf h

theorem Lowers.dropUnqueued_keeps (r : Rec) (i : Nat) (h : P s) : P (dropUnqueued r s i) :=
  k.ending (Q := fun _ => True) (.dropUnqueued trivial s i) standing_dropUnqueued h

theorem Lowers.endByAlone_keeps (c : EndCause) (q : Nat) (h : P s) : P (endByAlone c q s) :=
  k.ending (endByAlone_ending c q s) (standing_endByAlone c) h

theorem Lowers.endBy_keeps (c : EndCause) (q : Nat) (h : P s) : P (endBy c q s) :=
  k.ending (Q := fun _ => True) (.endBy trivial fun _ _ _ => trivial) (standing_endBy c) h

theorem Lowers.enterEnding_keeps (q : Nat) (h : P s) : P (enterEnding q s) := by
  have alone : Ending (fun _ => True) s (enterEndingAlone q s) := .enterEndingAlone trivial s
  refine k.ending (Q := fun _ => True) ?_ standing_enterEnding h
  unfold enterEnding
  split
  · exact .refl _ s
  · split
    · exact alone.trans (.cancelFallbacks fun _ _ _ => trivial)
    · exact alone

theorem Lowers.cancelCopiesAndSteps_keep (h : P s) : P (cancelSteps (cancelWaitingCopies s)) :=
  foldl_keeps (fun _ q ht => k.endByAlone_keeps _ q ht) _ _
    (foldl_keeps (fun _ r ht => k.endByAlone_keeps _ _ (k.degradeWriteOf_keeps r ht)) _ _ h)

theorem Lowers.unbindMirror_keeps (report : Bool) (h : P s) : P (unbindMirror report s) := by
  unfold unbindMirror
  split
  · exact h
  · have ended := k.cancelCopiesAndSteps_keep (k.rest (store_withMirror .unbound) h)
    dsimp only
    split
    · exact k.rest (store_raise _) ended
    · exact ended

theorem Lowers.degrade_keeps (c : DegradeCause) (h : P s) : P (degrade c s) := by
  unfold degrade
  split
  · exact h
  · exact h
  · exact k.rest (store_raise _) (k.cancelCopiesAndSteps_keep (k.rest (store_withMirror _) h))

theorem Lowers.abandonAll_keeps (b : Bay) (p : Rec → Bool) (h : P s) : P (abandonAll b p s) :=
  foldl_keeps (fun _ q ht => k.endBy_keeps _ q ht) _ _ h

theorem Lowers.release_bay_keeps (b : Bay) (h : P s) : P (release b s) :=
  foldl_keeps (fun _ q ht => k.enterEnding_keeps q ht) _ _ (k.rest (s := s) rfl h)

theorem Lowers.beginStop_keeps (b : Bay) (h : P s) : P (beginStop b s) :=
  k.recs _ _ (fun _ => SameAsk.ite _ ⟨rfl, rfl, rfl, rfl, rfl, rfl, rfl⟩) (k.rest (store_mapMech _) h)

/-! ### Spares, frames and outcomes -/

theorem Lowers.noSpare_keeps (q i : Nat) (h : P s) : P (noSpare q i s) := by
  have failed := k.mapRec_keeps q (f := fun x =>
    { ((x.dropTry i).mapSector i fun y => { y with progress := .failed, attempts := 0, cause := some .noSpare }) with
      failures := x.failures ++ [(i, .noSpare)] }) (fun _ => ⟨rfl, rfl, rfl, rfl, rfl, rfl, rfl⟩) h
  unfold noSpare
  split
  · exact h
  · dsimp only
    split
    · exact k.degrade_keeps _ (k.flagRecord_keeps q _ failed)
    · exact failed

theorem Lowers.assignSpare_keeps (q i : Nat) (h : P s) : P (assignSpare q i s) := by
  unfold assignSpare
  split
  · exact h
  · split
    · exact h
    · split
      · exact h
      · split
        · exact k.noSpare_keeps q i h
        · split
          · exact k.noSpare_keeps q i h
          · exact k.rest store_spareLowTest (k.mapTry_keeps q i _ (k.rest (store_mapMap _) h))

theorem Lowers.recordMove_keeps (q i x : Nat) (h : P s) : P (recordMove q i x s) := by
  unfold recordMove
  split
  · exact h
  · split
    · exact k.noSpare_keeps q i h
    · split
      · exact k.noSpare_keeps q i h
      · exact k.rest store_spareLowTest (k.flagRecord_keeps q _
          (k.mapRec_keeps q (fun _ => ⟨rfl, rfl, rfl, rfl, rfl, rfl, rfl⟩) (k.rest (store_mapMap _) h)))

theorem Lowers.startRelocation_keeps (q i : Nat) (h : P s) : P (startRelocation q i s) :=
  k.assignSpare_keeps q i (k.mapRec_keeps q (fun _ => ⟨rfl, rfl, rfl, rfl, rfl, rfl, rfl⟩) h)

theorem Lowers.queueOne_keeps (r : Rec) (i : Nat) (x : Sector) (h : P s) : P (queueOne r i x s) := by
  unfold queueOne
  dsimp only
  split <;> exact k.mapRec_keeps _ (fun _ => ⟨rfl, rfl, rfl, rfl, rfl, rfl, rfl⟩) (k.rest (store_mapLink _) h)

theorem Lowers.queueFrom_keeps (r : Rec) (xs : List Sector) (i : Nat) (h : P s) : P (queueFrom r i xs s) := by
  induction xs generalizing i s with
  | nil => exact h
  | cons x xs ih =>
    unfold queueFrom
    split
    · exact ih _ (k.queueOne_keeps r i x h)
    · exact h

theorem Lowers.queueFrames_keeps (q : Nat) (h : P s) : P (queueFrames q s) := by
  unfold queueFrames
  split
  · exact h
  · split
    · exact k.queueFrom_keeps _ _ _ h
    · exact h

theorem Lowers.stepOutcome_keeps (r : Rec) (h : P s) : P (stepOutcome r s) := by
  unfold stepOutcome
  split
  · split
    · exact h
    · split
      · exact k.degrade_keeps _ h
      · split
        · exact k.rest (store_withMirror _) h
        · exact k.rest (s := s) rfl h
  · exact h

/-! ### Planning, stalls and places -/

theorem Lowers.takeThrough_keeps (q i : Nat) (slot : Option Nat) (d : Data) (h : P s) : P (takeThrough q i slot d s) := by
  unfold takeThrough
  refine k.queueFrames_keeps q (k.mapSector_keeps _ _ _ ?_)
  split
  · exact k.fillSlot_keeps _ _ h
  · exact h

theorem Lowers.markStalled_keeps (q : Nat) (h : P s) : P (markStalled q s) :=
  k.mapRec_keeps q (fun _ => ⟨rfl, rfl, rfl, rfl, rfl, rfl, rfl⟩) h

theorem Lowers.stall_keeps (b : Bay) (q : Nat) (h : P s) : P (stall b q s) :=
  k.rest (s := s.mapRec q fun x => { x with state := .waiting, stalled := true }) (by simp [stall])
    (k.mapRec_keeps q (fun _ => ⟨rfl, rfl, rfl, rfl, rfl, rfl, rfl⟩) h)

theorem Lowers.toWritePhase_keeps (q : Nat) (h : P s) : P (toWritePhase q s) := by
  unfold toWritePhase
  split
  · exact h
  · exact k.rest store_trigger (k.mapRec_keeps q (fun _ => ⟨rfl, rfl, rfl, rfl, rfl, rfl, rfl⟩)
      (k.rest (store_checkMode.trans (store_mapSched _)) h))

theorem Lowers.finishRecord_keeps (q : Nat) (h : P s) : P (finishRecord q s) := by
  unfold finishRecord
  split
  · exact h
  · split
    · exact k.toWritePhase_keeps q h
    · exact k.enterEnding_keeps q h

theorem Lowers.assignSlots_keeps (q : Nat) (is js : List Nat) (h : P s) : P (assignSlots q is js s) := by
  induction is generalizing js s with
  | nil => exact h
  | cons i is ih =>
    cases js with
    | nil => exact h
    | cons j js => exact ih js (k.mapSector_keeps _ _ _ h)

theorem Lowers.makeActive_keeps (b : Bay) (q : Nat) (h : P s) : P (makeActive b q s) := by
  unfold makeActive
  refine k.rest (store_mapSched _) (k.mapRec_keeps q (fun _ => ⟨rfl, rfl, rfl, rfl, rfl, rfl, rfl⟩) ?_)
  split
  · split
    · exact h
    · exact k.rest (store_mapSched _) (k.mapRec_keeps _ (fun _ => ⟨rfl, rfl, rfl, rfl, rfl, rfl, rfl⟩) h)
  · split
    · exact k.rest (store_checkMode.trans (store_mapSched _)) h
    · exact h

theorem Lowers.considered_keeps (b : Bay) (h : P s) : P (considered b s) :=
  k.rest store_feedFirst (k.recs _ _ (fun _ => SameAsk.ite _ ⟨rfl, rfl, rfl, rfl, rfl, rfl, rfl⟩)
    (k.rest (store_mapSched fun c => { c with triggered := false }) h))

/-! ### The sectors of a pass that ask for no record -/

theorem Lowers.noteTries_keeps (q n : Nat) (h : P s) : P (noteTries q n s) := by
  unfold noteTries
  split
  · exact k.flagRecord_keeps q _ h
  · exact h

theorem Lowers.advance_keeps (q i : Nat) (rel : Bool) (pr : Progress) (h : P s) : P (advance q i rel pr s) := by
  unfold advance
  split
  · exact k.mapTry_keeps _ _ _ h
  · exact k.mapSector_keeps _ _ _ h

theorem Lowers.verifyGivesUp_keeps (r : Rec) (i : Nat) (c : Cause) (h : P s) : P (verifyGivesUp r i c s) := by
  unfold verifyGivesUp
  split
  · exact k.mapSector_keeps _ _ _ h
  · split
    · exact k.mapSector_keeps _ _ _ h
    · exact k.startRelocation_keeps _ _ h

theorem Lowers.settleVerify_keeps (q i : Nat) (found : Found) (bytes : Data) (h : P s) : P (settleVerify q i found bytes s) := by
  have noted := fun n => k.noteTries_keeps q n h
  unfold settleVerify
  split
  · exact h
  · dsimp only
    split
    · exact k.mapSector_keeps _ _ _ (noted _)
    · exact k.verifyGivesUp_keeps _ _ _ (noted _)
    · exact k.verifyGivesUp_keeps _ _ _ (noted _)
    · exact iteInduction (fun _ => k.verifyGivesUp_keeps _ _ _ (noted _)) fun _ => k.mapSector_keeps _ _ _ (noted _)

theorem Lowers.settleTryVerify_keeps (q i : Nat) (found : Found) (bytes : Data) (h : P s) :
    P (settleTryVerify q i found bytes s) := by
  have noted := fun n => k.noteTries_keeps q n h
  unfold settleTryVerify
  split
  · exact h
  · split
    · exact h
    · dsimp only
      split
      · exact k.recordMove_keeps _ _ _ (noted _)
      · exact k.assignSpare_keeps _ _ (noted _)
      · exact k.assignSpare_keeps _ _ (noted _)
      · split
        · exact k.assignSpare_keeps _ _ (noted _)
        · exact k.mapTry_keeps _ _ _ (noted _)

theorem Lowers.setInhibit_keeps (b : Bay) (h : P s) : P (setInhibit b s) := by
  have raised : P (raise b .mediaAlert (s.mapMech b fun m => { m with inhibit := true })) := k.rest (s := s) rfl h
  have flushed := foldl_keeps (fun t q ht => k.endByAlone_keeps .cancelled q ht)
    (seqsOf (raise b .mediaAlert (s.mapMech b fun m => { m with inhibit := true }))
      fun r => isFlush r && decide (r.bay = b) && !r.started && unfinished r) _ raised
  have dropped := k.rest (store_mapMap (b := b) fun m => { m with pending := .none }) flushed
  unfold setInhibit
  dsimp only
  split
  · exact k.degrade_keeps _ dropped
  · exact dropped

theorem Lowers.labelRoundEnd_keeps (q : Nat) (h : P s) : P (labelRoundEnd q s) := by
  unfold labelRoundEnd
  split
  · exact h
  · rename_i r _
    have failed := k.mapRec_keeps r.seq (f := fun x => { x with failures := x.failures ++ labelFailures (labelBase r) r })
      (fun _ => ⟨rfl, rfl, rfl, rfl, rfl, rfl, rfl⟩) h
    dsimp only
    split
    · exact h
    · split
      · unfold labelSucceeds
        split <;> exact k.rest (s := s) rfl h
      · split
        · exact k.mapRec_keeps _ (fun _ => ⟨rfl, rfl, rfl, rfl, rfl, rfl, rfl⟩) h
        · unfold labelFails
          dsimp only
          split
          · exact k.rest (s := s.mapRec _ _) rfl failed
          · exact k.setInhibit_keeps _ (k.rest (store_mapMap _) failed)
          · exact k.setInhibit_keeps _ failed

theorem Lowers.ownerEnds_keeps (q : Nat) (h : P s) : P (ownerEnds q s) := by
  unfold ownerEnds
  split
  · exact h
  · split
    · exact k.enterEnding_keeps q h
    · split
      · exact k.finishRecord_keeps q h
      · exact h

end

end Sys2Proof.Machine
end

section
/-! Claims and creations under the table's checks (R41, R49, R54), walked through the model's decisions and outcomes. -/

namespace Sys2Proof.Machine

/-! ### Claims and creations under the checks -/

/-- A property of the store that lowering keeps, and the claims of records within the read limit and the creations that find a
place: a record created may hold slots that were given to its number, but no READ holds any at its creation. -/
structure Grows (P : State → Prop) : Prop extends Lowers P where
  claims : ∀ (r : Rec) (n : Nat) (s : State), r ∈ s.recs → (isRead r = true → n ≤ readLimit s) → P s →
    P (claim (.record r.seq) n s).1
  creates : ∀ (r : Rec) (l : List Slot) (s : State), freePlaces s ≠ 0 → (isLink r = true → linkCount s < Config.maxLink) →
    HeldFrom (fun q => q = s.nextSeq ∧ isRead r = false) s.slots l → P s → P (withCreated r (s.withSlots l))

variable {P : State → Prop}

/-- A record of the block's own, that is no READ (R49). -/
structure Own (r : Rec) : Prop where
  link : isLink r = false
  read : isRead r = false

theorem stepCreatable_place {s : State} (h : stepCreatable s = true) : freePlaces s ≠ 0 := by
  unfold stepCreatable at h
  split at h
  · simp only [Bool.and_eq_true, decide_eq_true_eq] at h
    exact h.2
  · exact nomatch h

theorem freePlaces_mapRec (s : State) (q : Nat) (f : Rec → Rec) : freePlaces (s.mapRec q f) = freePlaces s := by
  simp [freePlaces, State.mapRec]

theorem fallbackApplies_place {s : State} {r : Rec} {n : Nat} (h : fallbackApplies s r n = true) : freePlaces s ≠ 0 := by
  simp only [fallbackApplies, Bool.and_eq_true, decide_eq_true_eq] at h
  exact h.2

theorem firstStart_of_read {r : Rec} (h : isRead r = true) (s : State) : firstStart r s = s := by
  unfold isRead at h
  unfold firstStart
  rw [of_decide_eq_true h]

section
variable (k : Grows P) {s : State}
include k

theorem Grows.createRec_keeps {r : Rec} (hp : freePlaces s ≠ 0) (hl : isLink r = true → linkCount s < Config.maxLink)
    (h : P s) : P (createRec r s) :=
  k.rest (store_createRec r) (k.creates r s.slots s hp hl (.refl _ _) h)

/-- The block's own record, over slots given to its number. -/
theorem Grows.createOver_keeps {r : Rec} {l : List Slot} (hr : Own r) (hp : freePlaces s ≠ 0)
    (hs : HeldFrom (fun q => q = s.nextSeq) s.slots l) (h : P s) : P (createInternal r (s.withSlots l)) := by
  have created := k.rest (store_createRec r) (k.creates r l s hp (fun e => by simp [hr.link] at e)
    (hs.mono fun _ e => ⟨e, hr.read⟩) h)
  unfold createInternal
  dsimp only
  split
  · exact k.endBy_keeps _ _ created
  · exact created

theorem Grows.createInternal_keeps {r : Rec} (hr : Own r) (hp : freePlaces s ≠ 0) (h : P s) : P (createInternal r s) :=
  k.createOver_keeps (l := s.slots) hr hp (.refl _ _) h

/-- A request that is not skipped finds a place and a slot (R117). -/
theorem Grows.requestRelocate_keeps (v : Variety) (b : Bay) (n : Nat) (bytes : Data) (source : Nat) (h : P s) :
    P (requestRelocate v b n bytes source s) := by
  cases hk : relocateSkips s b n with
  | true => exact (requestRelocate_skipped hk).symm ▸ h
  | false =>
    have checks := hk
    simp only [relocateSkips, Bool.or_eq_false_iff, decide_eq_false_iff_not] at checks
    obtain ⟨⟨_, place⟩, slot⟩ := checks
    cases hj : freeIds s with
    | nil => exact absurd (by rw [← freeIds_length, hj]; rfl) slot
    | cons j js =>
      rw [requestRelocate_made hk hj]
      exact k.assignSpare_keeps _ _ (k.createOver_keeps ⟨rfl, rfl⟩ place
        (.foldl_set (ids := [j]) (fun q hq => mem_record_holders hq) s.slots) h)

theorem Grows.createFlush_keeps (b : Bay) (hp : freePlaces s ≠ 0) (h : P s) : P (createFlush b s) :=
  k.createInternal_keeps ⟨rfl, rfl⟩ hp (k.rest (store_mapMap _) h)

theorem Grows.askFlush_keeps (b : Bay) (h : P s) : P (askFlush b s) := by
  unfold askFlush
  split
  · exact k.rest (store_mapMap _) h
  · rename_i hp
    exact k.createFlush_keeps b hp h

theorem Grows.createStep_keeps (hp : freePlaces s ≠ 0) (h : P s) : P (createStep s) := by
  unfold createStep
  split
  · exact k.createInternal_keeps ⟨rfl, rfl⟩ hp (k.rest (store_withMirror _) h)
  · exact h

theorem Grows.makeFlush_keeps (b : Bay) (h : P s) : P (makeFlush b s) := by
  unfold makeFlush
  split
  · rename_i hc
    rw [Bool.and_eq_true, decide_eq_true_eq] at hc
    exact k.createFlush_keeps b hc.2 h
  · exact h

theorem Grows.deferredCreations_keep (h : P s) : P (deferredCreations s) := by
  have flushed := k.makeFlush_keeps .B (k.makeFlush_keeps .A h)
  unfold deferredCreations makeStep
  split
  · rename_i hc
    exact k.createStep_keeps (stepCreatable_place hc) flushed
  · exact flushed

theorem Grows.creationStep_keeps {t : State} (e : creationStep s = some t) (h : P s) : P t := by
  unfold creationStep at e
  split at e
  · cases e
    exact k.askFlush_keeps _ h
  · split at e
    · cases e
      exact k.askFlush_keeps _ h
    · split at e
      · rename_i hc
        cases e
        rw [Bool.and_eq_true, decide_eq_true_eq] at hc
        exact k.createFlush_keeps _ hc.2 h
      · split at e
        · rename_i hc
          cases e
          rw [Bool.and_eq_true, decide_eq_true_eq] at hc
          exact k.createFlush_keeps _ hc.2 h
        · split at e
          · rename_i hc
            cases e
            exact k.createStep_keeps (stepCreatable_place hc) h
          · exact nomatch e

theorem Grows.fallbackOutcome_keeps (f : Rec) (h : P s) : P (fallbackOutcome f s) := by
  have delivered : ∀ q i, P (s.mapRec q fun y =>
      { (y.mapSector i fun z => { z with progress := .read }) with flags := { y.flags with fromMirror := true } }) :=
    fun q i => k.mapRec_keeps q (fun _ => ⟨rfl, rfl, rfl, rfl, rfl, rfl, rfl⟩) h
  unfold fallbackOutcome
  split
  · exact h
  · dsimp only
    split
    · exact h
    · split
      · exact h
      · split
        · refine k.queueFrames_keeps _ ?_
          split
          · exact k.requestRelocate_keeps _ _ _ _ _ (delivered _ _)
          · exact delivered _ _
        · exact k.queueFrames_keeps _ (k.mapSector_keeps _ _ _ h)

end

/-! ### Planning -/

/-- A READ that claims with a plan fits in what it may claim (R41, R42). -/
def Fits (q : Nat) (s : State) (p : Planned) : Prop :=
  ∀ x r, p = .pass x → s.rec? q = some r → isRead r = true → x.claims = true → x.items.length ≤ readLimit s

theorem planFrom_fits {w : Want} {act : Action} {rest : List Want} {n : Nat} (h : (planFrom w act rest n).claims = true) :
    (planFrom w act rest n).items.length ≤ n := by
  unfold planFrom at h ⊢
  dsimp only at h ⊢
  rw [Bool.not_eq_true'] at h
  rw [h, if_neg Bool.false_ne_true]
  exact List.length_take_le _ _

theorem planReadPass_fits {q i : Nat} {s : State} {r : Rec} (hr : s.rec? q = some r) : Fits q s (planReadPass s r i) := by
  intro x r' hx hr' hread hclaims
  obtain rfl := Option.some.inj (hr.symm.trans hr')
  unfold planReadPass at hx
  split at hx
  · exact nomatch hx
  · split at hx
    · rename_i alone
      cases hx
      simp [planFrom, alone] at hclaims
    · split at hx
      · exact nomatch hx
      · cases hx
        exact planFrom_fits hclaims

theorem planWrite_fits {q : Nat} {s : State} {r : Rec} (hr : s.rec? q = some r) (hw : isReading r = false) (p : Planned) :
    Fits q s p := by
  intro x r' _ hr' hread _
  obtain rfl := Option.some.inj (hr.symm.trans hr')
  simp [isReading, hread] at hw

section
variable (k : Grows P) {s : State}
include k

theorem Grows.claimThrough_keeps {q i : Nat} {d : Data} {r : Rec} (hr : s.rec? q = some r) (hl : readLimit s ≠ 0)
    (h : P s) : P (claimThrough q i d s) := by
  have claimed := k.claims r 1 s (List.mem_of_find?_eq_some hr) (fun _ => Nat.one_le_iff_ne_zero.mpr hl) h
  rw [rec?_seq hr] at claimed
  exact k.takeThrough_keeps _ _ _ _ (k.mapSector_keeps _ _ _ claimed)

theorem Grows.planRead_keeps (q n : Nat) (h : P s) : P (planRead q n s).1 ∧ Fits q (planRead q n s).1 (planRead q n s).2 := by
  have stalls : ∀ t, P t → P t ∧ Fits q t .stalled := fun _ ht => ⟨ht, fun _ _ e => nomatch e⟩
  induction n generalizing s with
  | zero => exact stalls s h
  | succ n ih =>
    unfold planRead
    split
    · exact stalls s h
    · rename_i r hr
      have passes : ∀ i, P s ∧ Fits q s (planReadPass s r i) := fun i => ⟨h, planReadPass_fits hr⟩
      split
      · exact ⟨h, fun _ _ e => nomatch e⟩
      · split
        · exact passes _
        · split
          · split
            · exact ih (k.takeThrough_keeps _ _ _ _ h)
            · split
              · exact stalls s h
              · rename_i room
                exact ih (k.claimThrough_keeps hr room h)
          · split
            · exact passes _
            · exact ih (k.takeThrough_keeps _ _ _ _ h)

theorem Grows.planRec_keeps (q : Nat) (h : P s) : P (planRec q s).1 ∧ Fits q (planRec q s).1 (planRec q s).2 := by
  unfold planRec
  split
  · exact ⟨h, fun _ _ e => nomatch e⟩
  · rename_i r hr
    split
    · exact k.planRead_keeps q _ h
    · rename_i hw
      exact ⟨h, planWrite_fits hr (Bool.eq_false_iff.mpr hw) _⟩

/-! ### Pass start and decision -/

theorem Grows.firstStart_keeps {r : Rec} (hr : r ∈ s.recs) (h : P s) : P (firstStart r s) := by
  unfold firstStart
  split
  · exact k.rest (store_mapMech _) h
  · exact k.rest (store_mapMech _) h
  · unfold takeFlushImage
    split
    · exact h
    · exact k.rest (store_mapMech _) h
  · rename_i e
    exact k.assignSlots_keeps _ _ _ (k.claims r 17 s hr (fun hread => by simp [isRead, e] at hread) h)
  · exact h

theorem Grows.startPass_keeps (b : Bay) {q : Nat} {p : Plan} (n : Nat) (hf : Fits q s (.pass p)) (h : P s) :
    P (startPass b q p n s) := by
  unfold startPass
  split
  · exact h
  · rename_i r hr
    have mem : r ∈ s.recs := List.mem_of_find?_eq_some hr
    refine k.rest (store_mapSched _) (k.makeActive_keeps b q ?_)
    have begun : P (if r.started then s else firstStart r s) := by
      split
      · exact h
      · exact k.firstStart_keeps mem h
    dsimp only
    split
    · rename_i hc
      rw [Bool.and_eq_true] at hc
      obtain ⟨claims, read⟩ := hc
      rw [firstStart_of_read read, ite_self]
      have fits : (p.items.take n).length ≤ readLimit s :=
        (List.length_take_le' n p.items).trans (hf p r rfl hr read claims)
      exact k.assignSlots_keeps _ _ _ (rec?_seq hr ▸ k.claims r _ s mem (fun _ => fits) h)
    · exact begun

theorem Grows.tryPlanned_keeps (b : Bay) {q : Nat} {p : Plan} (refused : Bool) (hf : Fits q s (.pass p)) (h : P s) :
    P (tryPlanned b q p refused s).state := by
  unfold tryPlanned
  split
  · exact k.startPass_keeps b _ hf h
  · exact h

theorem Grows.tryWaiting_keeps (b : Bay) (qs : List Nat) (refused : Bool) (h : P s) :
    P (tryWaiting b qs refused s).state := by
  induction qs generalizing refused s with
  | nil => exact h
  | cons q qs ih =>
    unfold tryWaiting
    have planned := k.planRec_keeps q h
    split <;> rename_i s1 _ he <;> rw [he] at planned <;> obtain ⟨kept, fits⟩ := planned
    · exact ih _ (k.markStalled_keeps q kept)
    · exact ih _ (k.finishRecord_keeps q kept)
    · have tried := k.tryPlanned_keeps b refused fits kept
      dsimp only
      split
      · exact tried
      · exact ih _ tried

theorem Grows.tryStack_keeps (b : Bay) (n : Nat) (refused : Bool) (h : P s) : P (tryStack b n refused s).state := by
  induction n generalizing refused s with
  | zero => exact h
  | succ n ih =>
    unfold tryStack
    split
    · exact k.tryWaiting_keeps b _ _ h
    · rename_i q _ _
      have tried := k.tryWaiting_keeps b (candidates s b (levelOf s (some q))) refused h
      dsimp only
      split
      · exact tried
      · have planned := k.planRec_keeps q tried
        split <;> rename_i s1 _ he <;> rw [he] at planned <;> obtain ⟨kept, fits⟩ := planned
        · exact k.tryPlanned_keeps b _ fits kept
        · exact ih _ (k.stall_keeps b q kept)
        · exact ih _ (k.finishRecord_keeps q kept)

theorem Grows.tryActive_keeps (b : Bay) (q : Nat) (refused : Bool) (h : P s) : P (tryActive b q refused s).state := by
  unfold tryActive
  have planned := k.planRec_keeps q h
  split <;> rename_i s1 _ he <;> rw [he] at planned <;> obtain ⟨kept, fits⟩ := planned
  · exact k.tryPlanned_keeps b _ fits kept
  · exact k.tryStack_keeps b _ _ (k.stall_keeps b q kept)
  · exact k.tryStack_keeps b _ _ (k.finishRecord_keeps q kept)

theorem Grows.tryRecords_keeps (b : Bay) (h : P s) : P (tryRecords b s).state := by
  unfold tryRecords
  split
  · exact k.tryStack_keeps b _ _ h
  · rename_i q _
    have planned := k.planRec_keeps q h
    split <;> rename_i s1 _ he <;> rw [he] at planned <;> obtain ⟨kept, fits⟩ := planned
    · exact k.tryStack_keeps b _ _ (k.stall_keeps b q kept)
    · exact k.tryStack_keeps b _ _ (k.finishRecord_keeps q kept)
    · split
      · have tried := k.tryWaiting_keeps b (candidates s1 b (levelOf s1 (some q))) false kept
        dsimp only
        split
        · exact tried
        · exact k.tryActive_keeps b q _ tried
      · exact k.tryActive_keeps b q _ kept

theorem Grows.makeDecision_keeps (b : Bay) (h : P s) : P (makeDecision b s) := by
  unfold makeDecision
  split
  · exact k.rest (store_mapSched _) h
  · split
    · exact k.rest (s := s) rfl h
    · have ready := k.considered_keeps b h
      dsimp only
      split
      · exact k.rest store_startFeed ready
      · have tried := k.tryRecords_keeps b ready
        unfold recordOutcome
        split
        · exact tried
        · exact k.rest (store_mapSched _) tried

/-! ### Ejection and the sectors of a pass -/

theorem Grows.ejectStep_keeps {t : State} (b : Bay) (e : ejectStep b s = some t) (h : P s) : P t := by
  unfold ejectStep at e
  split at e
  · split at e
    · cases e
      exact k.beginStop_keeps b h
    · cases e
      exact k.release_bay_keeps b h
    · exact nomatch e
  · exact nomatch e

theorem Grows.readGivesUp_keeps (r : Rec) (i : Nat) (h : P s) : P (readGivesUp r i s) := by
  unfold readGivesUp
  split
  · rename_i hf
    exact k.createInternal_keeps ⟨rfl, rfl⟩ ((freePlaces_mapRec _ _ _).symm ▸ fallbackApplies_place hf)
      (k.mapRec_keeps _ (fun _ => ⟨rfl, rfl, rfl, rfl, rfl, rfl, rfl⟩) h)
  · exact k.mapSector_keeps _ _ _ h

theorem Grows.readDelivers_keeps (r : Rec) (i n : Nat) (d : Data) (h : P s) : P (readDelivers r i n d s) := by
  have filled : P (match readSlot s r i with
      | some j => fillSlot j (some d) s
      | none => s) := by
    split
    · exact k.fillSlot_keeps _ _ h
    · exact h
  have delivered := k.mapSector_keeps r.seq i (fun y => { y with progress := .read, attempts := 0 }) filled
  unfold readDelivers
  dsimp only
  split
  · exact k.requestRelocate_keeps _ _ _ _ _ delivered
  · exact delivered

theorem Grows.settleRead_keeps (q i : Nat) (found : Found) (h : P s) : P (settleRead q i found s) := by
  unfold settleRead
  split
  · exact h
  · have noted := fun n => k.noteTries_keeps q n h
    cases found with
    | data d n => exact k.readDelivers_keeps _ _ _ _ (noted _)
    | blank => exact k.mapSector_keeps _ _ _ (noted _)
    | failed n => exact iteInduction (fun _ => k.readGivesUp_keeps _ _ (noted _)) fun _ => k.mapSector_keeps _ _ _ (noted _)

theorem Grows.settleSectors_keep (q : Nat) (p : Pass) (rs : List SectorResponse) (m : Medium) (is : List Nat) (j : Nat)
    (h : P s) : P (settleSectors q p rs m j is s) := by
  induction is generalizing j s with
  | nil => exact h
  | cons i is ih =>
    refine ih (j + 1) ?_
    unfold settleSector
    split
    · exact k.advance_keeps _ _ _ _ h
    · exact k.advance_keeps _ _ _ _ h
    · exact k.settleRead_keeps _ _ _ h
    · split
      · exact k.settleTryVerify_keeps _ _ _ _ h
      · exact k.settleVerify_keeps _ _ _ _ h

theorem Grows.handOutcomes_keeps (b : Bay) (p : Pass) (rs : List SectorResponse) (m : Medium) (h : P s) :
    P (handOutcomes b p rs m s) := by
  unfold handOutcomes
  split
  · rename_i q _
    exact k.ownerEnds_keeps q (k.labelRoundEnd_keeps q (k.queueFrames_keeps q (k.settleSectors_keep q p rs m _ _ h)))
  · exact k.rest (store_completeFeed _) h
  · exact k.release_keeps (dropPass_holders b) h

theorem Grows.completePass_keeps (b : Bay) (rs : List SectorResponse) (h : P s) : P (completePass b rs s) := by
  unfold completePass
  split
  · exact h
  · refine k.rest (store_trigger) (k.handOutcomes_keeps b _ _ _ (k.rest (s := s) rfl h))

end

end Sys2Proof.Machine
end

section
/-! What follows at once, where records leave the table too, and the commands. -/

namespace Sys2Proof.Machine

/-- Properties of the store for each number of records that have left the table: a leaving takes one to the next. -/
structure Follows (P : Nat → State → Prop) : Prop where
  grows : ∀ m, Grows (P m)
  later : ∀ m s, P m s → P (m + 1) s
  removes : ∀ (m q : Nat) (s : State), P m s → P (m + 1) (s.withRecs (s.recs.filter fun o => decide (o.seq ≠ q)))

variable {P : Nat → State → Prop}

theorem store_conclude (s : State) : store (conclude s) = store (settle s) := by simp [conclude, selectNext]

section
variable (k : Follows P) {m : Nat} {s : State}
include k

theorem Follows.laters (n : Nat) (h : P m s) : P (m + n) s := by
  induction n with
  | zero => exact h
  | succ n ih => exact k.later _ _ ih

theorem Follows.removeRec_keeps (q : Nat) (h : P m s) : P (m + 1) (removeRec q s) :=
  (k.grows _).recs (fun o => { o with partners := o.partners.filter fun p => decide (p ≠ q) }) _
    (fun _ => ⟨rfl, rfl, rfl, rfl, rfl, rfl, rfl⟩) (k.removes m q s h)

theorem Follows.leaveTable_keeps (q : Nat) (h : P m s) : P (m + 1) (leaveTable q s) := by
  have g := k.grows (m + 1)
  unfold leaveTable
  split
  · exact k.later m s h
  · have removed := k.removeRec_keeps q h
    dsimp only
    split
    · exact g.deferredCreations_keep (g.rest (store_mapLink _) removed)
    · split
      · exact g.fallbackOutcome_keeps _ (g.deferredCreations_keep removed)
      · split
        · exact g.deferredCreations_keep (g.stepOutcome_keeps _ removed)
        · exact g.deferredCreations_keep removed

theorem Follows.nextStep_keeps {t : State} (e : nextStep s = some t) (h : P m s) : P (m + 1) t := by
  have g := k.grows m
  have chosen : P m s.choose := g.rest store_choose h
  rcases nextStep_cases e with e | e | ⟨b, e⟩ | e
  · exact k.later _ _ (g.creationStep_keeps e h)
  · obtain ⟨q, rfl | rfl⟩ := leaveStep_cases e
    · exact k.leaveTable_keeps q h
    · exact k.leaveTable_keeps q chosen
  · exact k.later _ _ (g.ejectStep_keeps b e h)
  · obtain ⟨b, rfl | rfl⟩ := decisionStep_cases e
    · exact k.later _ _ (g.makeDecision_keeps b h)
    · exact k.later _ _ (g.makeDecision_keeps b chosen)

theorem Follows.settleFor_keeps (n : Nat) (h : P m s) : P (m + n) (settleFor n s) := by
  induction n generalizing m s with
  | zero => exact h
  | succ n ih =>
    unfold settleFor
    split
    · rename_i e
      exact (Nat.add_right_comm m n 1) ▸ ih (k.nextStep_keeps e h)
    · exact k.laters (n + 1) h

/-- At most 300 things follow a command's effect at once. -/
theorem Follows.conclude_keeps (h : P m s) : P (m + 300) (conclude s) :=
  (k.grows _).rest (store_conclude s) (k.settleFor_keeps 300 h)

end

/-- The commands from a state: what a command begins from, and the changes of the store that only a command makes. At most one
record leaves and 300 things follow. -/
structure Stepwise (s₀ : State) (P : Nat → State → Prop) : Prop extends Follows P where
  start : P 0 s₀
  setup : ∀ x : Settings, P 0 (s₀.withSettings x)
  reset : ∀ s : State, store s = store s₀ → P 0 (controllerReset s)
  power : ∀ (cut : Two Cut) (s : State), P 0 (powerOn cut s)

/-- The table has a place for a link record (R49). -/
def roomy (s : State) : Prop := freePlaces s ≠ 0 ∧ linkCount s < Config.maxLink

theorem linkCount_map (s : State) {f : Rec → Rec} (hf : ∀ r, SameAsk r (f r)) :
    linkCount (s.withRecs (s.recs.map f)) = linkCount s := by
  unfold linkCount
  rw [State.withRecs_recs, List.countP_map]
  exact List.countP_congr fun r _ => by simp [isLink, (hf r).link]

theorem freePlaces_map (s : State) (f : Rec → Rec) : freePlaces (s.withRecs (s.recs.map f)) = freePlaces s := by
  simp [freePlaces]

theorem roomy_of_recs {s t : State} (h : t.recs = s.recs) : roomy t ↔ roomy s := by
  simp only [roomy, freePlaces, linkCount, h]

/-- What claims no slot and creates no record keeps the room in the table. -/
theorem roomy_lowers {R : State → Prop} (k : Lowers R) : Lowers fun s => R s ∧ roomy s where
  rest := by
    rintro s t e ⟨h, room⟩
    exact ⟨k.rest e h, (roomy_of_recs (store_eq_iff.mp e).2.1).mpr room⟩
  recs f s hf := by
    rintro ⟨h, room⟩
    exact ⟨k.recs f s hf h, by rwa [roomy, linkCount_map s hf, freePlaces_map]⟩
  slots l s hl := by
    rintro ⟨h, room⟩
    exact ⟨k.slots l s hl h, room⟩

section
variable {s₀ : State} (k : Stepwise s₀ P) {s : State}
include k

/-- The changes within an event, before what follows it. -/
theorem Stepwise.atOnce : Grows (P 0) := k.grows 0

section
variable (hs : store s = store s₀)
include hs

theorem Stepwise.begins : P 0 s := k.atOnce.rest hs k.start

theorem Stepwise.unchanged {t : State} (h : store t = store s) : P 301 t :=
  k.toFollows.laters (m := 0) 301 (k.atOnce.rest (h.trans hs) k.start)

end

theorem Stepwise.concluded (h : P 0 s) : P 301 (conclude s) := by
  have kept := k.later _ _ (k.toFollows.conclude_keeps h)
  rwa [Nat.zero_add] at kept

theorem Stepwise.answered (ch tag : Nat) (body : ReplyBody) (owner : Option Nat) (h : P 0 s) :
    P 301 (conclude (reply ch tag body owner s)) := k.concluded (k.atOnce.rest (store_mapLink _) h)

variable (hs : store s = store s₀)
include hs

theorem Stepwise.refused (ch tag : Nat) (c : Code) : P 301 (selectNext (refuse ch tag c s)) := k.unchanged hs rfl

/-! ### Requests that the table checks -/

theorem Stepwise.takeAsk_keeps (a : Ask) {accept : Bay → State → State}
    (h : ∀ b, a.bay = some b → (∀ p ∈ bayChecks s a b, p.1 = false) → P 0 (accept b s)) : P 301 (takeAsk a accept s) := by
  cases hc : requestCode s a with
  | some c => exact (takeAsk_refused hc).symm ▸ k.refused hs a.ch a.tag c
  | none =>
    obtain ⟨b, hb, _, checks⟩ := requestCode_eq_none.mp hc
    exact (takeAsk_accepted hc hb).symm ▸ k.concluded (h b hb checks)

omit k hs in
theorem bayChecks_roomy {a : Ask} {b : Bay} (h : ∀ p ∈ bayChecks s a b, p.1 = false) :
    roomy s ∧ (a.kind = .write → mirrorPrimary s = some b → s.recs.length < 15) := by
  obtain ⟨_, _, _, _, _, _, _, ⟨places, links, second⟩, _⟩ := bayChecks_pass.mp h
  exact ⟨⟨Nat.sub_ne_zero_of_lt places, links⟩, second⟩

/-- An accepted request that creates one record. -/
theorem Stepwise.takeCreate_keeps (a : Ask) (r : Bay → Rec) : P 301 (takeAsk a (fun b => createRec (r b)) s) :=
  k.takeAsk_keeps hs a fun _ _ checks =>
    have room := (bayChecks_roomy checks).1
    k.atOnce.createRec_keeps room.1 (fun _ => room.2) (k.begins hs)

omit hs in
theorem Stepwise.createCopy_keeps (a : Ask) (b : Bay) (w : Nat) (ids : List Nat) (hp : freePlaces s ≠ 0) (h : P 0 s) :
    P 0 (createCopy a b w ids s) := by
  refine k.atOnce.createOver_keeps (s := s.mapRec w fun x => { x with partners := [s.nextSeq] }) ⟨rfl, rfl⟩
    ((freePlaces_mapRec _ _ _).symm ▸ hp) (.foldl_modify (fun y q hq => ?_) ids _)
    (k.atOnce.mapRec_keeps w (fun _ => ⟨rfl, rfl, rfl, rfl, rfl, rfl, rfl⟩) h)
  cases y with
  | held hs d =>
    rcases List.mem_append.mp hq with old | new
    · exact .inl old
    · exact .inr (Holder.record.inj (List.mem_singleton.mp new))
  | free => exact .inl hq
  | ring => exact .inl hq

theorem Stepwise.takeWrite_keeps (ch tag : Nat) (bay : Option Bay) (first count level : Nat) :
    P 301 (takeWrite ch tag bay first count level s) := by
  refine k.takeAsk_keeps hs _ fun b _ checks => ?_
  obtain ⟨⟨places, links⟩, second⟩ := bayChecks_roomy checks
  unfold acceptWrite
  dsimp only
  refine k.atOnce.rest (store_mapLink _) ?_
  have created := k.atOnce.rest (store_createRec _) (k.atOnce.creates
    (askRec (writeAsk ch tag bay first count level) b (writeSectors ((freeIds s).take count)) [])
    (((freeIds s).take count).foldl (fun acc i => acc.set i (.held [.record s.nextSeq] none)) s.slots) s places
    (fun _ => links) (.foldl_set (fun q hq => ⟨mem_record_holders hq, rfl⟩) _ _) (k.begins hs))
  split
  · rename_i primary
    refine k.createCopy_keeps _ _ _ _ ?_ created
    have left : s.recs.length + 1 < Config.places := Nat.succ_lt_succ (second rfl primary)
    have length : ∀ (r : Rec) (t : State), (createRec r t).recs.length = t.recs.length + 1 := fun r t => by
      rw [(store_eq_iff.mp (store_createRec r)).2.1, withCreated, List.length_append]
      rfl
    exact Nat.sub_ne_zero_of_lt ((length _ _).symm ▸ left)
  · exact created

theorem Stepwise.takePrepare_keeps (ch tag : Nat) (bay : Option Bay) (serial : BitVec 32) (name : Data) :
    P 301 (takePrepare ch tag bay serial name s) := by
  unfold takePrepare
  split
  · exact k.takeCreate_keeps hs _ _
  · exact k.refused hs _ _ _

omit hs in
theorem Stepwise.beginEject_keeps (a : Ask) (kind : EjectKind) (b : Bay) (h : P 0 s ∧ roomy s) :
    P 0 (beginEject a kind b s) := by
  obtain ⟨h, places, links⟩ := h
  have created := fun r : Rec => k.atOnce.createRec_keeps (r := r) places (fun _ => links) h
  unfold beginEject
  dsimp only
  split
  · exact k.atOnce.release_bay_keeps b (created _)
  · exact k.atOnce.rest (store_mapMech _) (created _)

theorem Stepwise.takeEjectNormal_keeps (ch tag : Nat) (bay : Option Bay) (level : Nat) :
    P 301 (takeEjectNormal ch tag bay level s) :=
  k.takeAsk_keeps hs _ fun b _ checks => k.beginEject_keeps _ _ b
    ((roomy_lowers k.atOnce.toLowers).unbindMirror_keeps true ⟨k.begins hs, (bayChecks_roomy checks).1⟩)

theorem Stepwise.takeEjectForced_keeps (ch tag : Nat) (bay : Option Bay) (level : Nat) :
    P 301 (takeEjectForced ch tag bay level s) :=
  have g := roomy_lowers k.atOnce.toLowers
  k.takeAsk_keeps hs _ fun b _ checks => k.beginEject_keeps _ _ b
    (g.abandonAll_keeps b forcedEnds (g.unbindMirror_keeps true (g.rest store_haltByEject
      ⟨k.begins hs, (bayChecks_roomy checks).1⟩)))

/-! ### The other requests -/

theorem Stepwise.takeSector_keeps (ch tag index : Nat) (status : Option SectorStatus) (data : Data) :
    P 301 (takeSector ch tag index status data s) := by
  have accepted : ∀ r, P 0 (acceptSector r index data s) := fun r => by
    unfold acceptSector triggerCopies
    refine k.atOnce.rest (store_signalHoldEnds s) (k.atOnce.rest (store_foldl (fun _ _ => store_trigger) _ _)
      (k.atOnce.rest store_trigger (k.atOnce.mapSector_keeps _ _ _ ?_)))
    split
    · exact k.atOnce.fillSlot_keeps _ _ (k.begins hs)
    · exact k.begins hs
  unfold takeSector
  split
  · split
    · exact k.concluded (accepted _)
    · exact k.refused hs _ _ _
    · exact k.unchanged hs rfl
  · exact k.refused hs _ _ _

theorem Stepwise.takeCancel_keeps (ch tag target : Nat) : P 301 (takeCancel ch tag target s) := by
  have g := k.atOnce
  unfold takeCancel
  split
  · exact k.refused hs _ _ _
  · rename_i r _
    have done : P 0 (doneNow ch tag 0 s) := g.rest (store_mapLink _) (k.begins hs)
    refine k.concluded ?_
    unfold cancelRec
    split
    · exact done
    · split
      · unfold cancelEject
        split
        · exact g.rest (store_mapMech _) (g.endBy_keeps _ _ done)
        · exact g.mapRec_keeps _ (fun _ => ⟨rfl, rfl, rfl, rfl, rfl, rfl, rfl⟩) done
      · split
        · exact done
        · split
          · exact foldl_keeps (fun _ q ht => g.endBy_keeps _ q ht) _ _ (g.endBy_keeps _ _ done)
          · exact g.endBy_keeps _ _ done

omit k hs in
/-- Of the store a SETUP changes the settings alone. -/
theorem store_acceptSetup (f : SetupFields) : store (acceptSetup f s) = store (s.withSettings (newSettings f s.settings)) := by
  have mode : ∀ b x (t : State), store (setMode b x t) = store t := fun b x t => by
    unfold setMode
    dsimp only
    split <;> rfl
  have timer : ∀ b o (t : State), store (retime b o t) = store t := fun b o t => by
    unfold retime
    split <;> rfl
  have cap : ∀ o (t : State), store (capTriggers o t) = store t := fun o t => by
    unfold capTriggers
    split <;> rfl
  have margin : ∀ o (t : State), store (marginTriggers o t) = store t := fun o t => by
    unfold marginTriggers
    split
    · split <;> rfl
    · rfl
  simp only [acceptSetup, mode, timer, cap, margin]

theorem Stepwise.takeSetup_keeps (ch tag : Nat) (f : SetupFields) : P 301 (takeSetup ch tag f s) := by
  unfold takeSetup
  split
  · exact k.refused hs _ _ _
  · split
    · exact k.refused hs _ _ _
    · refine k.answered _ _ _ _ (k.atOnce.rest ((store_acceptSetup f).trans ?_) (k.setup (newSettings f s.settings)))
      obtain ⟨slots, recs, counter, _⟩ := store_eq_iff.mp hs
      exact store_eq_iff.mpr ⟨slots, recs, counter, rfl⟩

theorem Stepwise.takeReset_keeps (ch tag : Nat) : P 301 (takeReset ch tag s) := by
  unfold takeReset
  split
  · exact k.answered _ _ _ _ (k.reset s hs)
  · exact k.refused hs _ _ _

theorem Stepwise.takeBind_keeps (ch tag : Nat) (primary : Option Bay) : P 301 (takeBind ch tag primary s) := by
  unfold takeBind
  split
  · exact k.refused hs _ _ _
  · split
    · exact k.refused hs _ _ _
    · exact k.answered _ _ _ _ (k.atOnce.rest (s := s) rfl (k.begins hs))

/-! ### The stream's requests -/

theorem Stepwise.takeOpenStream_keeps (ch tag : Nat) (bay : Option Bay) (ring line pace : Nat) (marks : Option Marks) :
    P 301 (takeOpenStream ch tag bay ring line pace marks s) := by
  have g := k.atOnce
  unfold takeOpenStream
  split
  · exact k.answered _ _ _ _ (g.rest (s := claimRing ring s) rfl
      (g.slots _ s (.foldl_set (fun _ hq => nomatch hq) _ _) (k.begins hs)))
  · exact k.refused hs _ _ _
  · exact k.unchanged hs rfl

theorem Stepwise.takeSetMarks_keeps (ch tag : Nat) (marks : Marks) : P 301 (takeSetMarks ch tag marks s) := by
  unfold takeSetMarks
  split
  · exact k.refused hs _ _ _
  · exact k.answered _ _ _ _ (k.atOnce.rest (by simp [acceptMarks]) (k.begins hs))

theorem Stepwise.takeAppendBand_keeps (ch tag first length : Nat) : P 301 (takeAppendBand ch tag first length s) := by
  unfold takeAppendBand
  split
  · exact k.refused hs _ _ _
  · split
    · exact k.refused hs _ _ _
    · exact k.answered _ _ _ _ (k.atOnce.rest (store_withStream _) (k.begins hs))

omit k hs in
theorem store_acceptStart (t : Stream) : store (acceptStart t s) = store s := by
  unfold acceptStart
  dsimp only
  split <;> simp

theorem Stepwise.takeStartStream_keeps (ch tag : Nat) : P 301 (takeStartStream ch tag s) := by
  unfold takeStartStream
  split
  · exact k.refused hs _ _ _
  · split
    · exact k.refused hs _ _ _
    · exact k.answered _ _ _ _ (k.atOnce.rest (store_acceptStart _) (k.begins hs))

theorem Stepwise.takeStopStream_keeps (ch tag : Nat) : P 301 (takeStopStream ch tag s) := by
  unfold takeStopStream
  split
  · exact k.refused hs _ _ _
  · split
    · exact k.refused hs _ _ _
    · exact k.answered _ _ _ _ (k.atOnce.rest (by simp [acceptStop]) (k.begins hs))

omit k hs in
theorem store_acceptFlush (t : Stream) : store (acceptFlush t s) = store s := by
  unfold acceptFlush
  split
  · split <;> simp
  · simp

theorem Stepwise.takeFlushStream_keeps (ch tag : Nat) : P 301 (takeFlushStream ch tag s) := by
  unfold takeFlushStream
  split
  · exact k.refused hs _ _ _
  · split
    · exact k.answered _ _ _ _ (k.atOnce.rest (store_acceptFlush _) (k.begins hs))
    · exact k.refused hs _ _ _

theorem Stepwise.takeCloseStream_keeps (ch tag : Nat) : P 301 (takeCloseStream ch tag s) := by
  have g := k.atOnce
  have freed : P 0 (freeRing (s.withStream none)) :=
    g.release_keeps (f := fun x => if x.isRing then .free else x)
      (fun y q hq => by
        split at hq
        · exact nomatch hq
        · exact hq)
      (g.rest (store_withStream none) (k.begins hs))
  unfold takeCloseStream
  split
  · exact k.refused hs _ _ _
  · split
    · exact k.answered _ _ _ _ (g.rest store_trigger freed)
    · exact k.refused hs _ _ _

theorem Stepwise.takeQueryBay_keeps (ch tag : Nat) (bay : Option Bay) : P 301 (takeQueryBay ch tag bay s) := by
  unfold takeQueryBay
  split <;> exact k.unchanged hs rfl

theorem Stepwise.takeQueryOperation_keeps (ch tag target : Nat) : P 301 (takeQueryOperation ch tag target s) := by
  unfold takeQueryOperation
  split <;> exact k.unchanged hs rfl

/-- Every request that the Link Port hands on. -/
theorem Stepwise.handOn_keeps (i : Instr) : P 301 (handOn i s) := by
  cases i with
  | reset ch tag => exact k.takeReset_keeps hs ch tag
  | read ch tag bay first count level => exact k.takeCreate_keeps hs _ _
  | write ch tag bay first count level => exact k.takeWrite_keeps hs ch tag bay first count level
  | sector ch tag index status data => exact k.takeSector_keeps hs ch tag index status data
  | cancel ch tag target => exact k.takeCancel_keeps hs ch tag target
  | queryDevice ch tag => exact k.unchanged hs rfl
  | queryBay ch tag bay => exact k.takeQueryBay_keeps hs ch tag bay
  | queryOperation ch tag target => exact k.takeQueryOperation_keeps hs ch tag target
  | queryStream ch tag => exact k.unchanged hs rfl
  | queryMirror ch tag => exact k.unchanged hs rfl
  | setup ch tag f => exact k.takeSetup_keeps hs ch tag f
  | prepare ch tag bay serial name => exact k.takePrepare_keeps hs ch tag bay serial name
  | ejectNormal ch tag bay level => exact k.takeEjectNormal_keeps hs ch tag bay level
  | ejectForced ch tag bay level => exact k.takeEjectForced_keeps hs ch tag bay level
  | setZones ch tag bay level zones => exact k.takeCreate_keeps hs _ _
  | bind ch tag primary => exact k.takeBind_keeps hs ch tag primary
  | unbind ch tag => exact k.answered _ _ _ _ (k.atOnce.unbindMirror_keeps false (k.begins hs))
  | openStream ch tag bay ring line pace marks => exact k.takeOpenStream_keeps hs ch tag bay ring line pace marks
  | setMarks ch tag marks => exact k.takeSetMarks_keeps hs ch tag marks
  | appendBand ch tag first length => exact k.takeAppendBand_keeps hs ch tag first length
  | startStream ch tag => exact k.takeStartStream_keeps hs ch tag
  | stopStream ch tag => exact k.takeStopStream_keeps hs ch tag
  | flushStream ch tag => exact k.takeFlushStream_keeps hs ch tag
  | closeStream ch tag => exact k.takeCloseStream_keeps hs ch tag
  | _ => exact k.unchanged hs rfl

/-! ### The link, the mechanisms and the imagesetter -/

theorem Stepwise.takeByte_keeps (x : Byte) : P 301 (takeByte x s) := by
  have checked : ∀ bytes, P 301 (checkFrame bytes (setAssembly .idle s)) := fun bytes => by
    have same : store (setAssembly .idle s) = store s₀ := hs
    unfold checkFrame
    dsimp only
    split
    · exact k.refused same _ _ _
    · split
      · exact k.handOn_keeps same _
      · exact k.refused same _ _ _
  have taken : ∀ bytes, P 301 (takeBytes bytes s) := fun bytes => by
    unfold takeBytes
    split
    · exact k.unchanged hs rfl
    · split
      · exact checked bytes
      · exact k.unchanged hs rfl
  unfold takeByte
  split
  · exact k.unchanged hs rfl
  · exact taken _
  · exact taken _

theorem Stepwise.frameSent_keeps (f : Outbound) : P 301 (conclude (frameSent f s)) := by
  have sent : P 0 (s.mapLink fun l => { l with sending := none }) := k.atOnce.rest (store_mapLink _) (k.begins hs)
  refine k.concluded ?_
  unfold frameSent
  dsimp only
  split
  · exact sent
  · split
    · unfold giveUpSent
      split
      · exact sent
      · exact k.atOnce.dropUnqueued_keeps _ _ sent
    · exact sent

theorem Stepwise.spinUpFails_keeps (b : Bay) : P 301 (conclude (spinUpFails b s)) := by
  have g := k.atOnce
  have faulted : P 0 (faultBay b s) := g.rest (store_mapMech _) (k.begins hs)
  refine k.concluded ?_
  unfold spinUpFails
  split
  · exact g.rest (store_raise _) (g.abandonAll_keeps b _ (g.unbindMirror_keeps true (g.rest store_haltByEject faulted)))
  · exact g.rest (store_raise _) faulted

theorem Stepwise.concludedSame {t : State} (h : store t = store s) : P 301 (conclude t) :=
  k.concluded (k.atOnce.rest h (k.begins hs))

omit k hs in
theorem store_spinUpDone (b : Bay) : store (spinUpDone b s) = store s := by
  unfold spinUpDone
  dsimp only
  split <;> rfl

omit k hs in
theorem store_mountDone (b : Bay) (found : List Found) : store (mountDone b found s) = store s := by
  unfold mountDone
  dsimp only
  split <;> rfl

omit k hs in
theorem store_limitRepeat (t : Stream) (x : Band) : store (limitRepeat t x s) = store s := store_lowTest

omit k hs in
/-- A request row does what the Link Port's handing on does (R180, R183). -/
theorem exec_request {i : Instr} (h : requestRow i = true) : exec i s = .next (onLink s (handOn i s)) := by
  cases i <;> simp only [requestRow, Bool.false_eq_true] at h <;> rfl

/-- Every command. -/
theorem Stepwise.exec_keeps {i : Instr} {t : State} (e : exec i s = .next t) : P 301 t := by
  have same := k.unchanged hs (t := s) rfl
  have next : ∀ {u : State}, (Host.Outcome.next u : Host.Outcome State Fault Refusal) = .next t → P 301 u → P 301 t :=
    fun h hu => by cases h; exact hu
  have guarded : ∀ {c : Prop} [Decidable c] {u : State}, (if c then Host.Outcome.next u else .next s) = .next t → P 301 u →
      P 301 t := fun h hu => by
    split at h
    · exact next h hu
    · exact next h same
  have onLink_keeps : ∀ {u : State}, P 301 u → P 301 (onLink s u) := fun hu => by
    unfold onLink
    split
    · exact same
    · exact hu
  by_cases request : requestRow i = true
  · exact next (exec_request request ▸ e) (onLink_keeps (k.handOn_keeps hs i))
  cases i with
  | powerOnReset cut => exact next e (k.toFollows.laters (m := 0) 301 (k.power cut s))
  | linkResetLineAsserted =>
    unfold exec execLinkResetLineAsserted at e
    dsimp only at e
    split at e
    · exact next e same
    · exact next e (k.concluded (k.atOnce.rest (store_mapLink _) (k.reset s hs)))
  | linkResetLineReleased => exact next e (k.unchanged hs rfl)
  | byteArrival x =>
    unfold exec execByteArrival at e
    dsimp only at e
    split at e
    · exact next e same
    · split at e
      · exact next e (k.unchanged hs rfl)
      · exact next e (k.takeByte_keeps hs x)
  | firstByteTaken =>
    unfold exec execFirstByteTaken at e
    dsimp only at e
    split at e
    · exact next e same
    · split at e
      · exact next e same
      · exact next e (k.takeByte_keeps (s := s.mapLink fun l => { l with waiting := none }) hs _)
  | incompleteFrameTimeout =>
    unfold exec execIncompleteFrameTimeout at e
    dsimp only at e
    split at e
    · exact next e (k.unchanged hs rfl)
    · exact next e same
  | discardQuietTimeout =>
    unfold exec execDiscardQuietTimeout at e
    dsimp only at e
    split at e
    · exact next e (k.unchanged hs rfl)
    · exact next e same
  | cartridgeInsertion b m => exact guarded e (k.concludedSame hs rfl)
  | spinUpCompletion b => exact guarded e (k.concludedSame hs (store_spinUpDone b))
  | spinUpFailure b => exact guarded e (k.spinUpFails_keeps hs b)
  | mountReadCompletion b fails => exact guarded e (k.concludedSame hs (store_mountDone b _))
  | spinDownTimerExpiry b => exact guarded e (k.concludedSame hs rfl)
  | spindleStop b => exact guarded e (k.concluded (k.atOnce.beginStop_keeps b (k.begins hs)))
  | stopCompletion b => exact guarded e (k.concludedSame hs rfl)
  | passCompletion b rs => exact guarded e (k.concluded (k.atOnce.completePass_keeps b rs (k.begins hs)))
  | recordLeavesTable q =>
    unfold exec execRecordLeavesTable at e
    dsimp only at e
    split at e
    · exact next e same
    · exact guarded e (k.toFollows.conclude_keeps (m := 1) (k.toFollows.leaveTable_keeps (m := 0) q (k.begins hs)))
  | deferredCreation =>
    unfold exec execDeferredCreation at e
    dsimp only at e
    split at e
    · exact next e same
    · rename_i made
      exact next e (k.concluded (k.atOnce.creationStep_keeps made (k.begins hs)))
  | frameSent =>
    unfold exec execFrameSent at e
    dsimp only at e
    split at e
    · exact next e same
    · exact next e (k.frameSent_keeps hs _)
  | lineRequest =>
    unfold exec execLineRequest at e
    dsimp only at e
    split at e
    · exact next e (k.unchanged hs rfl)
    · exact next e (k.concludedSame hs (store_answerLine _))
  | bandAccept =>
    unfold exec execBandAccept at e
    dsimp only at e
    split at e
    · exact next e (k.unchanged hs rfl)
    · split at e
      · exact next e (k.unchanged hs rfl)
      · split at e
        · exact next e (k.concludedSame hs (store_acceptBand _ _))
        · exact next e (k.unchanged hs rfl)
  | bandRepeat =>
    unfold exec execBandRepeat at e
    dsimp only at e
    split at e
    · exact next e (k.unchanged hs rfl)
    · split at e
      · exact next e (k.unchanged hs rfl)
      · split at e
        · refine next e (k.concludedSame hs ?_)
          split
          · rfl
          · exact store_limitRepeat _ _
        · exact next e (k.unchanged hs rfl)
  | mediumSectorChange b track place change => exact guarded e (k.unchanged hs rfl)
  | _ => exact absurd rfl request

theorem Stepwise.step_keeps {t : State} (e : step s = .next t) : P 301 t := by
  unfold step at e
  split at e
  · cases e
    exact k.unchanged hs rfl
  · rename_i rest _
    exact k.exec_keeps (s := s.withPending rest) hs e

end

end Sys2Proof.Machine
end

section
/-! The table's, the slots' and the holdings' laws, by the walk over the store (R37, R42, R49, R52). -/

namespace Sys2Proof.Machine

/-! ### The table and the slots -/

theorem linkCount_withCreated (r : Rec) (l : List Slot) (s : State) :
    linkCount (withCreated r (s.withSlots l)) = linkCount s + if isLink r then 1 else 0 := by
  unfold linkCount
  exact (List.countP_append ..).trans (congrArg _ (List.countP_singleton ..))

/-- Of the records of a table some are kept and changed. -/
theorem tableLaw_filter {s t : State} {p : Rec → Bool} {f : Rec → Rec} (e : t.recs = (s.recs.filter p).map f)
    (hf : ∀ r, (f r).link = r.link) (h : tableLaw s) : tableLaw t := by
  obtain ⟨places, links⟩ := h
  refine ⟨?_, ?_⟩
  · rw [e, List.length_map]
    exact (List.length_filter_le p s.recs).trans places
  · have same : isLink ∘ f = isLink := funext fun r => by simp [isLink, hf r]
    rw [linkCount, e, List.countP_map, same]
    exact (List.filter_sublist.countP_le).trans links

theorem tableLaw_grows : Grows tableLaw where
  rest e h := by
    have recs := (store_eq_iff.mp e).2.1
    unfold tableLaw linkCount at h ⊢
    rwa [recs]
  recs f s hf h := by
    refine ⟨?_, (linkCount_map s hf).trans_le h.2⟩
    rw [State.withRecs_recs, List.length_map]
    exact h.1
  slots _ _ _ h := h
  claims _ _ _ _ _ h := h
  creates r l s hp hl _ h := by
    refine ⟨?_, ?_⟩
    · have place : s.recs.length < Config.places := Nat.lt_of_sub_ne_zero hp
      simpa [withCreated] using place
    · rw [linkCount_withCreated]
      split
      · rename_i link
        exact hl link
      · exact h.2

theorem tableLaw_stepwise {s : State} (h : tableLaw s) : Stepwise s fun _ => tableLaw where
  grows _ := tableLaw_grows
  later _ _ h := h
  removes _ _ _ h := tableLaw_filter (List.map_id' _).symm (fun _ => rfl) h
  start := h
  setup _ := h
  reset t e := tableLaw_filter (s := t) (f := keepFlush t) rfl (fun _ => rfl) (tableLaw_grows.rest e h)
  power _ _ := ⟨Nat.zero_le _, Nat.zero_le _⟩

theorem slotLaw_stepwise {s : State} (h : slotLaw s) : Stepwise s fun _ => slotLaw where
  grows _ :=
    { rest := fun e h => (congrArg List.length (store_eq_iff.mp e).1).trans h
      recs := fun _ _ _ h => h
      slots := fun _ _ hl h => hl.length.trans h
      claims := fun _ _ _ _ _ h => (foldl_set_length _ _ _).trans h
      creates := fun _ _ _ _ _ hl h => hl.length.trans h }
  later _ _ h := h
  removes _ _ _ h := h
  start := h
  setup _ := h
  reset _ e := (keepSlots_length _ _ _).trans ((congrArg List.length (store_eq_iff.mp e).1).trans h)
  power _ _ := List.length_replicate

/-! ### Records in the order of their creation -/

theorem seqsAscend_filter {lo c : Nat} {l : List Rec} (p : Rec → Bool) (h : seqsAscend lo c l) :
    seqsAscend lo c (l.filter p) := by
  have weaken : ∀ {m n : Nat} {xs : List Rec}, m ≤ n → seqsAscend n c xs → seqsAscend m c xs := fun {m n xs} hmn hx => by
    cases xs with
    | nil => trivial
    | cons x xs =>
      obtain ⟨hlo, rest⟩ := hx
      exact ⟨hmn.trans hlo, rest⟩
  induction l generalizing lo with
  | nil => trivial
  | cons x xs ih =>
    obtain ⟨hlo, hc, hxs⟩ := h
    rw [List.filter_cons]
    split
    · exact ⟨hlo, hc, ih hxs⟩
    · exact weaken (Nat.le_succ_of_le hlo) (ih hxs)

theorem seqsAscend_append {lo c : Nat} {l : List Rec} {x : Rec} (hx : x.seq = c) (hlo : lo ≤ c) (h : seqsAscend lo c l) :
    seqsAscend lo (c + 1) (l ++ [x]) := by
  induction l generalizing lo with
  | nil => exact ⟨hx ▸ hlo, hx ▸ Nat.lt_succ_self _, trivial⟩
  | cons y ys ih =>
    obtain ⟨hy, hc, hys⟩ := h
    exact ⟨hy, Nat.lt_succ_of_lt hc, ih hc hys⟩

/-- A number is one record's at most, so one place at most is freed at once. -/
theorem length_le_filter {l : List Rec} (h : (l.map Rec.seq).Nodup) (q : Nat) :
    l.length ≤ (l.filter fun o => decide (o.seq ≠ q)).length + 1 := by
  have one : l.countP (fun o => decide (o.seq = q)) ≤ 1 := by
    have counted := List.nodup_iff_count_le_one.mp h q
    rwa [List.count, List.countP_map] at counted
  have split := List.length_eq_countP_add_countP (fun o => decide (o.seq = q)) (l := l)
  have others : l.countP (fun o => !decide (o.seq = q)) = (l.filter fun o => decide (o.seq ≠ q)).length := by
    rw [List.countP_eq_length_filter]
    congr 2
    funext o
    simp
  simp only [Bool.not_eq_true, Bool.decide_eq_false] at split
  omega

theorem seqLaw.eq_of_seq {s : State} (h : seqLaw s) {r r' : Rec} (hr : r ∈ s.recs) (hr' : r' ∈ s.recs) (e : r.seq = r'.seq) :
    r = r' := List.inj_on_of_nodup_map (seqsAscend_nodup h) hr hr' e

theorem nextSeq_withCreated {r : Rec} {l : List Slot} {s : State} (h : s.nextSeq + 1 < 2 ^ 48) :
    (withCreated r (s.withSlots l)).nextSeq = s.nextSeq + 1 := by
  have low : s.counter.toNat + 1 < 2 ^ 48 := h
  change (s.counter + 1).toNat = s.counter.toNat + 1
  rw [BitVec.toNat_add]
  exact Nat.mod_eq_of_lt low

/-! ### Holdings -/

theorem countP_le_of_before {α : Type} {p p' : α → Bool} {l l' : List α} (hl : l'.length = l.length)
    (h : ∀ (j : Nat) (y z : α), l[j]? = some y → l'[j]? = some z → p' z = true → p y = true) : l'.countP p' ≤ l.countP p := by
  induction l generalizing l' with
  | nil => simp [List.length_eq_zero_iff.mp hl]
  | cons y ys ih =>
    cases l' with
    | nil => exact Nat.zero_le _
    | cons z zs =>
      have rest := ih (Nat.succ.inj hl) fun j => h (j + 1)
      have first := h 0 y z rfl rfl
      rw [List.countP_cons, List.countP_cons]
      split
      · rename_i hz
        rw [if_pos (first hz)]
        exact Nat.succ_le_succ rest
      · exact Nat.le_add_right_of_le rest

theorem holdings_le {s t : State} (hl : t.slots.length = s.slots.length)
    (h : ∀ (j : Nat) (y z : Slot), s.slots[j]? = some y → t.slots[j]? = some z → ∀ r ∈ t.recs, isRead r = true →
      .record r.seq ∈ z.holders → ∃ r' ∈ s.recs, isRead r' = true ∧ .record r'.seq ∈ y.holders) : holdings t ≤ holdings s := by
  refine countP_le_of_before hl fun j y z hy hz held => ?_
  obtain ⟨r, hr, hc⟩ := List.any_eq_true.mp held
  rw [Bool.and_eq_true, decide_eq_true_eq] at hc
  obtain ⟨r', hr', read, held'⟩ := h j y z hy hz r hr hc.1 hc.2
  exact List.any_eq_true.mpr ⟨r', hr', by rw [Bool.and_eq_true, decide_eq_true_eq]; exact ⟨read, held'⟩⟩

/-- Records that hold no slot to which no READ is added keep the holdings down. -/
theorem holdings_le_of_held {s t : State} {Q : Nat → Prop} (hs : HeldFrom Q s.slots t.slots)
    (hr : ∀ r ∈ t.recs, isRead r = true → (∃ r' ∈ s.recs, isRead r' = true ∧ r'.seq = r.seq) ∧ ¬ Q r.seq) :
    holdings t ≤ holdings s :=
  holdings_le hs.length fun j y z hy hz r mem read held => by
    obtain ⟨⟨r', mem', read', seq⟩, other⟩ := hr r mem read
    exact ⟨r', mem', read', seq ▸ (hs.before j y z hy hz r.seq held).resolve_right other⟩

theorem countP_foldl_set_le (p : Slot → Bool) (x : Slot) (ids : List Nat) (l : List Slot) :
    (ids.foldl (fun acc i => acc.set i x) l).countP p ≤ l.countP p + ids.length := by
  have one : ∀ (i : Nat) (m : List Slot), (m.set i x).countP p ≤ m.countP p + 1 := fun i m => by
    rcases Nat.lt_or_ge i m.length with inside | outside
    · rw [List.countP_set inside]
      split <;> split <;> omega
    · rw [List.set_eq_of_length_le outside]
      exact Nat.le_succ _
  induction ids generalizing l with
  | nil => exact Nat.le_refl _
  | cons i is ih =>
    have rest := ih (l.set i x)
    have first := one i l
    rw [List.foldl_cons, List.length_cons]
    omega

theorem holdings_claim_le (h : Holder) (n : Nat) (s : State) : holdings (claim h n s).1 ≤ holdings s + n :=
  (countP_foldl_set_le _ _ _ _).trans (Nat.add_le_add_left (List.length_take_le _ _) _)

theorem claim_held (q n : Nat) (s : State) : HeldFrom (fun p => p = q) s.slots (claim (.record q) n s).1.slots :=
  .foldl_set (fun _ h => mem_record_holders h) _ _

theorem holdings_of_no_read {s : State} (h : ∀ r ∈ s.recs, isRead r = false) : holdings s = 0 := by
  refine List.countP_eq_zero.mpr fun x _ held => ?_
  obtain ⟨r, hr, hc⟩ := List.any_eq_true.mp held
  simp [h r hr] at hc

/-! ### Slots, numbers and holdings together -/

/-- Within a step that began below `m₀` the numbers given out leave room for one to each free place: a place is freed only by
one of the `k` records that have left, so that the counter does not come round (R52). -/
structure Stored (m₀ top k : Nat) (s : State) : Prop where
  holders : holderLaw s
  room : s.nextSeq + freePlaces s ≤ m₀ + k
  held : holdings s ≤ s.settings.readCap ∨ holdings s ≤ top

/-- The law of the holders and of the holdings, while the counter is not near its end. -/
def storedLaw (m₀ top k : Nat) (s : State) : Prop := m₀ + k < 2 ^ 48 → Stored m₀ top k s

section
variable {m₀ top k : Nat} {s t : State}

/-- No more holdings under the same cap. -/
theorem Stored.lowered (h : Stored m₀ top k s) {j : Nat} (holders : holderLaw t) (room : t.nextSeq + freePlaces t ≤ m₀ + j)
    (cap : t.settings = s.settings) (held : holdings t ≤ holdings s) : Stored m₀ top j t :=
  ⟨holders, room, cap ▸ h.held.imp held.trans held.trans⟩

theorem holderLaw.of_held {Q : Nat → Prop} (h : holderLaw s) (hs : HeldFrom Q s.slots t.slots) (seqs : seqLaw t)
    (next : s.nextSeq ≤ t.nextSeq) (hq : ∀ q, Q q → q < t.nextSeq) : holderLaw t :=
  ⟨seqs, fun _ hz q held => (hs.mem hz held).elim (fun ⟨y, hy, was⟩ => (h.2 y hy q was).trans_le next) (hq q)⟩

theorem Stored.rest (h : Stored m₀ top k s) (e : store t = store s) : Stored m₀ top k t := by
  obtain ⟨slots, recs, counter, settings⟩ := store_eq_iff.mp e
  have next : t.nextSeq = s.nextSeq := congrArg BitVec.toNat counter
  obtain ⟨holders, room, held⟩ := h
  refine ⟨?_, ?_, ?_⟩
  · simpa only [holderLaw, seqLaw, slots, recs, next] using holders
  · simpa only [freePlaces, recs, next] using room
  · simpa only [holdings, slots, recs, settings] using held

theorem Stored.recs (h : Stored m₀ top k s) {f : Rec → Rec} (hf : ∀ r, SameAsk r (f r)) :
    Stored m₀ top k (s.withRecs (s.recs.map f)) := by
  refine h.lowered (h.holders.of_held (.refl (fun _ => False) _) (seqsAscend_map (fun r => (hf r).seq) h.holders.1)
    (Nat.le_refl _) fun _ e => nomatch e) ((freePlaces_map s f).symm ▸ h.room) rfl
    (holdings_le_of_held (.refl (fun _ => False) _) fun r hr read => ?_)
  obtain ⟨r', hr', rfl⟩ := List.mem_map.mp hr
  exact ⟨⟨r', hr', by rwa [isRead, (hf r').kind] at read, (hf r').seq.symm⟩, id⟩

theorem Stored.slots (h : Stored m₀ top k s) {l : List Slot} (hl : HeldFrom (fun _ => False) s.slots l) :
    Stored m₀ top k (s.withSlots l) :=
  h.lowered (h.holders.of_held hl h.holders.1 (Nat.le_refl _) fun _ e => nomatch e) h.room rfl
    (holdings_le_of_held hl fun r hr read => ⟨⟨r, hr, read, rfl⟩, id⟩)

theorem Stored.claims (h : Stored m₀ top k s) {r : Rec} {n : Nat} (hr : r ∈ s.recs) (hn : isRead r = true → n ≤ readLimit s) :
    Stored m₀ top k (claim (.record r.seq) n s).1 := by
  have held := claim_held r.seq n s
  have holders : holderLaw (claim (.record r.seq) n s).1 :=
    h.holders.of_held held h.holders.1 (Nat.le_refl _) fun _ e => e ▸ seqLaw.lt_nextSeq h.holders.1 r hr
  cases read : isRead r with
  | false =>
    refine h.lowered holders h.room rfl (holdings_le_of_held held fun r' hr' read' => ⟨⟨r', hr', read', rfl⟩, fun e => ?_⟩)
    rw [seqLaw.eq_of_seq h.holders.1 hr' hr e, read] at read'
    exact nomatch read'
  | true =>
    have fits : n ≤ s.settings.readCap - holdings s := (hn read).trans (Nat.min_le_right _ _)
    have rises := holdings_claim_le (.record r.seq) n s
    refine ⟨holders, h.room, ?_⟩
    change holdings _ ≤ s.settings.readCap ∨ _
    have before := h.held
    omega

theorem Stored.creates (h : Stored m₀ top k s) (hk : m₀ + k < 2 ^ 48) {r : Rec} {l : List Slot} (hp : freePlaces s ≠ 0)
    (hl : HeldFrom (fun q => q = s.nextSeq ∧ isRead r = false) s.slots l) :
    Stored m₀ top k (withCreated r (s.withSlots l)) := by
  have room := h.room
  have next : (withCreated r (s.withSlots l)).nextSeq = s.nextSeq + 1 := nextSeq_withCreated (by omega)
  have places : freePlaces (withCreated r (s.withSlots l)) + 1 = freePlaces s := by
    have added : (withCreated r (s.withSlots l)).recs.length = s.recs.length + 1 := List.length_append
    unfold freePlaces at hp ⊢
    omega
  have seqs : seqLaw (withCreated r (s.withSlots l)) := by
    unfold seqLaw
    rw [next]
    exact seqsAscend_append rfl (Nat.zero_le _) h.holders.1
  refine h.lowered (h.holders.of_held hl seqs (by omega) fun q e => by omega) (by omega) rfl
    (holdings_le hl.length fun j y z hy hz x hx read held => ?_)
  have old := hl.before j y z hy hz x.seq held
  rcases List.mem_append.mp hx with hx | hx
  · exact ⟨x, hx, read, old.resolve_right fun e => (seqLaw.lt_nextSeq h.holders.1 x hx).ne e.1⟩
  · obtain rfl := List.mem_singleton.mp hx
    rcases old with old | old
    · exact absurd (h.holders.2 y (List.mem_of_getElem? hy) _ old) (Nat.lt_irrefl _)
    · exact absurd read (Bool.eq_false_iff.mp old.2)

theorem Stored.removes (h : Stored m₀ top k s) (q : Nat) :
    Stored m₀ top (k + 1) (s.withRecs (s.recs.filter fun o => decide (o.seq ≠ q))) := by
  refine h.lowered (h.holders.of_held (.refl (fun _ => False) _) (seqsAscend_filter _ h.holders.1) (Nat.le_refl _)
    fun _ e => nomatch e) ?_ rfl
    (holdings_le_of_held (.refl (fun _ => False) _) fun r hr read => ⟨⟨r, List.mem_of_mem_filter hr, read, rfl⟩, id⟩)
  have left := length_le_filter (seqsAscend_nodup h.holders.1) q
  have room := h.room
  have places : freePlaces (s.withRecs (s.recs.filter fun o => decide (o.seq ≠ q))) ≤ freePlaces s + 1 := by
    change Config.places - (s.recs.filter fun o => decide (o.seq ≠ q)).length ≤ Config.places - s.recs.length + 1
    omega
  exact (Nat.add_le_add_left places s.nextSeq).trans (by omega)

theorem storedLaw_grows : Grows (storedLaw m₀ top k) where
  rest e h hk := (h hk).rest e
  recs _ _ hf h hk := (h hk).recs hf
  slots _ _ hl h hk := (h hk).slots hl
  claims _ _ _ hr hn h hk := (h hk).claims hr hn
  creates _ _ _ hp _ hl h hk := (h hk).creates hk hp hl

end

/-- After a controller reset no record holds a slot (R48). -/
theorem controllerReset_holders {s : State} {x : Slot} (h : x ∈ (controllerReset s).slots) (q : Nat) :
    Holder.record q ∉ x.holders := by
  obtain ⟨i, n, y, rfl⟩ := mem_controllerReset_slots h
  rcases keptSlot_cases (s := s) i (fillingOn s .A + fillingOn s .B - n) y with e | ⟨a, b, d, e⟩ <;> rw [e]
  · exact fun held => nomatch held
  · exact fun held => nomatch List.mem_singleton.mp held

theorem controllerReset_stored {s : State} (h : seqLaw s) (top : Nat) : Stored (s.nextSeq + 16) top 0 (controllerReset s) where
  holders := ⟨seqsAscend_map (fun _ => rfl) (seqsAscend_filter _ h),
    fun _ hx q held => absurd held (controllerReset_holders hx q)⟩
  room := Nat.add_le_add_left (Nat.sub_le _ _) _
  held := by
    refine .inr ((holdings_of_no_read fun r hr => ?_).trans_le (Nat.zero_le _))
    obtain ⟨x, hx, rfl⟩ := List.mem_map.mp hr
    have flush : isFlush x = true := (List.mem_filter.mp hx).2
    have kind : x.kind = .mapFlush := by simpa [isFlush] using flush
    simp [isRead, keepFlush, kind]

/-- After a power-on no slot is held and the counter is 0 (R36). -/
theorem powerOn_stored (cut : Two Cut) (s : State) (n top : Nat) : Stored (n + 16) top 0 (powerOn cut s) where
  holders := reset_holderLaw
  room := by
    change 0 + (Config.places - 0) ≤ n + 16 + 0
    simp [Config.places]
  held := .inr ((holdings_of_no_read fun _ h => absurd h List.not_mem_nil).trans_le (Nat.zero_le _))

theorem storedLaw_stepwise {s : State} (h : holderLaw s) : Stepwise s (storedLaw (s.nextSeq + 16) (holdings s)) where
  grows _ := storedLaw_grows
  later k t h hk := by
    obtain ⟨holders, room, held⟩ := h (by omega)
    exact ⟨holders, by omega, held⟩
  removes k q t h hk := (h (by omega)).removes q
  start _ := ⟨h, Nat.add_le_add_left (Nat.sub_le _ _) _, .inr (Nat.le_refl _)⟩
  setup x _ := ⟨h, Nat.add_le_add_left (Nat.sub_le _ _) _, .inr (Nat.le_refl _)⟩
  reset t e _ := by
    obtain ⟨_, recs, counter, _⟩ := store_eq_iff.mp e
    have next : t.nextSeq = s.nextSeq := congrArg BitVec.toNat counter
    have seqs : seqLaw t := by
      unfold seqLaw
      rw [recs, next]
      exact h.1
    exact next ▸ controllerReset_stored seqs (holdings s)
  power cut t _ := powerOn_stored cut t _ _

end Sys2Proof.Machine

namespace Sys2Proof.Buffer
open Machine

/-- Settles O45, by the walk over the store: a step makes at most 301 records leave, so the counter stays below its end. -/
theorem tableAndSlotLawsKept : Obligations.TableAndSlotLawsKept := by
  refine ⟨⟨fun s t h e => (tableLaw_stepwise h).step_keeps rfl e, fun s t h e => (slotLaw_stepwise h).step_keeps rfl e⟩,
    fun s t h low e => ?_⟩
  have far : s.nextSeq + 16 + 301 < 2 ^ 48 := by
    change s.counter.toNat + 16 + 301 < 2 ^ 48
    omega
  obtain ⟨holders, _, held⟩ := (storedLaw_stepwise h).step_keeps rfl e far
  exact ⟨holders, held⟩

end Sys2Proof.Buffer
end

section
/-! A claim takes the lowest free slots (R38); the counts of a QUERY (R37, R42, R72). -/

namespace Sys2Proof.Machine

/-! ### The numbers of the free slots -/

theorem mem_freeIdsFrom {l : List Slot} {n i : Nat} : i ∈ freeIdsFrom n l ↔ n ≤ i ∧ l[i - n]? = some .free := by
  induction l generalizing n with
  | nil => simp [freeIdsFrom]
  | cons x xs ih =>
    have later : n < i → (x :: xs)[i - n]? = xs[i - (n + 1)]? := fun h => by
      rw [show i - n = i - (n + 1) + 1 by omega, List.getElem?_cons_succ]
    unfold freeIdsFrom
    split
    · rename_i free
      rw [List.mem_cons, ih]
      rcases Nat.lt_trichotomy i n with h | h | h
      · omega
      · simpa [h, isFree_eq] using free
      · rw [later h]
        simp [h.ne', Nat.succ_le_of_lt h, h.le]
    · rename_i taken
      rw [ih]
      rcases Nat.lt_trichotomy i n with h | h | h
      · omega
      · simpa [h, isFree_eq] using taken
      · rw [later h]
        simp [Nat.succ_le_of_lt h, h.le]

theorem mem_freeIds {s : State} {i : Nat} : i ∈ freeIds s ↔ s.slots[i]? = some .free :=
  mem_freeIdsFrom.trans (by simp)

theorem freeIdsFrom_sorted (l : List Slot) (n : Nat) : (freeIdsFrom n l).Pairwise (· < ·) := by
  induction l generalizing n with
  | nil => exact .nil
  | cons x xs ih =>
    unfold freeIdsFrom
    split
    · exact .cons (fun i hi => freeIdsFrom_ge xs (n + 1) i hi) (ih (n + 1))
    · exact ih (n + 1)

/-- What a claim passes over is higher than what it takes. -/
theorem lt_of_claimed {s : State} {k i j : Nat} (hi : i ∈ (freeIds s).take k) (hj : s.slots[j]? = some .free)
    (hn : j ∉ (freeIds s).take k) : i < j := by
  have sorted := freeIdsFrom_sorted s.slots 0
  rw [show freeIdsFrom 0 s.slots = (freeIds s).take k ++ (freeIds s).drop k from (List.take_append_drop k _).symm,
    List.pairwise_append] at sorted
  obtain ⟨_, _, across⟩ := sorted
  have passed : j ∈ (freeIds s).take k ++ (freeIds s).drop k := by
    rw [List.take_append_drop]
    exact mem_freeIds.mpr hj
  exact across i hi j ((List.mem_append.mp passed).resolve_left hn)

/-- Each slot put under a holder leaves the free pool. -/
theorem countP_isFree_foldl_set {x : Slot} (hx : x.isFree = false) {ids : List Nat} (hn : ids.Nodup) {l : List Slot}
    (hf : ∀ i ∈ ids, l[i]? = some .free) :
    (ids.foldl (fun acc i => acc.set i x) l).countP Slot.isFree + ids.length = l.countP Slot.isFree := by
  induction ids generalizing l with
  | nil => rfl
  | cons i is ih =>
    obtain ⟨hi, his⟩ := List.nodup_cons.mp hn
    obtain ⟨inside, free⟩ := List.getElem?_eq_some_iff.mp (hf i List.mem_cons_self)
    have others : ∀ j ∈ is, (l.set i x)[j]? = some .free := fun j hj => by
      rw [List.getElem?_set_ne (fun e : i = j => hi (e ▸ hj))]
      exact hf j (List.mem_cons_of_mem _ hj)
    have one : (l.set i x).countP Slot.isFree + 1 = l.countP Slot.isFree := by
      have counted : 0 < l.countP Slot.isFree := List.countP_pos_iff.mpr ⟨l[i], List.getElem_mem inside, by rw [free]; rfl⟩
      rw [List.countP_set inside, free, hx, if_pos (show Slot.free.isFree = true from rfl), if_neg Bool.false_ne_true]
      omega
    have rest := ih his others
    rw [List.foldl_cons, List.length_cons]
    omega

/-- The claim's slots, one by one. -/
theorem claim_slots (h : Holder) (k : Nat) (s : State) (j : Nat) :
    (claim h k s).1.slots[j]? = if j ∈ (claim h k s).2 then s.slots[j]?.map fun _ => .held [h] none else s.slots[j]? :=
  foldl_set_getElem? _ _ _ _

theorem claimed_free {h : Holder} {k i : Nat} {s : State} (hi : i ∈ (claim h k s).2) : s.slots[i]? = some .free :=
  mem_freeIds.mp (List.mem_of_mem_take hi)

theorem claim_nodup (h : Holder) (k : Nat) (s : State) : (claim h k s).2.Nodup :=
  (freeIdsFrom_nodup s.slots 0).sublist (List.take_sublist _ _)

theorem claimed_length {h : Holder} {k : Nat} {s : State} (hk : k ≤ freeCount s) : (claim h k s).2.length = k := by
  rw [claim_numbers, List.length_take, freeIds_length, Nat.min_eq_left hk]

theorem freeCount_claim {h : Holder} {k : Nat} {s : State} (hk : k ≤ freeCount s) :
    freeCount (claim h k s).1 + k = freeCount s := by
  have counted := countP_isFree_foldl_set (x := .held [h] none) rfl (claim_nodup h k s) (l := s.slots)
    fun i hi => claimed_free hi
  rwa [claimed_length hk] at counted

/-! ### The counts of a QUERY -/

theorem held_count (s : State) : s.slots.length - freeCount s - ringCount s =
    s.slots.countP fun y => decide (y ≠ .free) && decide (y ≠ .ring) := by
  rw [List.countP_eq_length_filter]
  exact slots_sorted s.slots

theorem free_ring_le (l : List Slot) : l.countP Slot.isFree + l.countP Slot.isRing ≤ l.length := by
  induction l with
  | nil => exact Nat.le_refl _
  | cons x xs ih => cases x <;> simp only [List.countP_cons, List.length_cons, Slot.isFree, Slot.isRing] <;> grind

/-- A slot with holders is neither free nor a ring slot. -/
theorem countP_holders_le {s : State} {p : Slot → Bool} (hp : ∀ y, p y = true → y.holders ≠ []) :
    s.slots.countP p ≤ s.slots.length - freeCount s - ringCount s := by
  rw [held_count]
  refine List.countP_mono_left fun y _ h => ?_
  cases y with
  | free => exact absurd rfl (hp _ h)
  | ring => exact absurd rfl (hp _ h)
  | held hs d => rfl

theorem states_count (l : List Rec) :
    l.countP (fun r => decide (r.state = .waiting)) + l.countP (fun r => decide (r.state = .active)) +
        l.countP (fun r => decide (r.state = .suspended)) + l.countP (fun r => decide (r.state = .ending)) = l.length := by
  induction l with
  | nil => rfl
  | cons r rs ih =>
    simp only [List.countP_cons, List.length_cons]
    cases r.state <;> simp only [decide_true, reduceCtorEq, decide_false, if_true, Bool.false_eq_true, if_false] <;> omega

end Sys2Proof.Machine

namespace Sys2Proof.Buffer
open Machine

/-- Settles O18. -/
theorem claimsAndCounts : Obligations.ClaimsAndCounts := by
  refine ⟨fun h k s hk => ⟨claimed_length hk, claim_nodup h k s, freeCount_claim hk, fun i hi => ⟨claimed_free hi, ?_,
    fun j hj hn => lt_of_claimed hi hj hn⟩, fun j hj => ?_⟩, fun s => ⟨?_, states_count s.recs, ?_, ?_⟩⟩
  · rw [claim_slots, if_pos hi, claimed_free hi]
    rfl
  · rw [claim_slots, if_neg hj]
  · have sorted : freeCount s + ringCount s ≤ s.slots.length := free_ring_le s.slots
    change freeCount s + ringCount s + (s.slots.length - freeCount s - ringCount s) = s.slots.length
    omega
  · refine countP_holders_le fun y held none => ?_
    obtain ⟨r, _, hr⟩ := List.any_eq_true.mp held
    simp [none] at hr
  · exact countP_holders_le fun y two none => by simp [hasTwo, none] at two

end Sys2Proof.Buffer
end

section
/-! Frames sent, SECTOR frames taken, and the requests that start, stop, flush and close the stream. -/

namespace Sys2Proof.Machine

variable {s : State}

theorem exec_handedOn {i : Instr} (h : s.link.resetLine = false) (hi : requestRow i = true) :
    exec i s = .next (handOn i s) := by rw [exec_request hi, onLink_released h]

/-! ### A frame sent -/

theorem exec_frameSent {f : Outbound} (h : s.link.sending = some f) : exec .frameSent s = .next (conclude (frameSent f s)) := by
  change execFrameSent s = _
  unfold execFrameSent
  rw [h]

theorem exec_frameSent_none (h : s.link.sending = none) : exec .frameSent s = .next s := by
  change execFrameSent s = _
  unfold execFrameSent
  rw [h]

theorem frameSent_report (r : Report) : frameSent (.report r) s = s.mapLink fun l => { l with sending := none } := rfl

theorem frameSent_plain {p : Reply} (h : ∀ i st d, p.body ≠ .sector i st d) :
    frameSent (.reply p) s = s.mapLink fun l => { l with sending := none } := by
  unfold frameSent
  dsimp only
  split
  · rename_i e _
    exact absurd e (h _ _ _)
  · rfl

theorem frameSent_sector {ch tag i q : Nat} {st : SectorStatus} {d : Data} {r : Rec} (h : s.rec? q = some r) :
    frameSent (.reply ⟨ch, tag, .sector i st d, some q⟩) s =
      dropUnqueued r (s.mapLink fun l => { l with sending := none }) i := by
  change giveUpSent q i (s.mapLink fun l => { l with sending := none }) = _
  have found : (s.mapLink fun l => { l with sending := none }).rec? q = some r := h
  unfold giveUpSent
  rw [found]

/-- The release signal acts on the schedulers alone (R39). -/
theorem signalRelease_frame (before s : State) :
    signalRelease before s = { s with sched := (signalRelease before s).sched } := by
  rcases signalRelease_cases before s with ⟨_, e⟩ | ⟨_, e⟩ <;> rw [e]
  rfl

theorem dropUnqueued_frame {r : Rec} {i j : Nat} (h : r.sectors[i]?.bind Sector.slot = some j) :
    dropUnqueued r s i =
      { s with
        recs := (s.mapRec r.seq (Rec.mapSector · i fun x => { x with slot := none })).recs
        slots := s.slots.modify j (dropFrom (.record r.seq))
        sched := (dropUnqueued r s i).sched } := by
  unfold dropUnqueued
  rw [h]
  exact signalRelease_frame _ _

/-! ### A SECTOR frame -/

section
variable {ch tag index : Nat} {status : Option SectorStatus} {data : Data}

theorem takeSector_refused {c : Code} (hs : sectorSuits status data = true)
    (hc : sectorCode s ch tag index status = some c) :
    takeSector ch tag index status data s = selectNext (reply ch tag (.refuse c) none s) := by
  unfold takeSector
  rw [if_pos hs, hc]
  rfl

theorem takeSector_accepted {r : Rec} (hs : sectorSuits status data = true) (hr : s.linkRec? ch tag = some r)
    (hc : sectorCode s ch tag index status = none) :
    takeSector ch tag index status data s = conclude (acceptSector r index data s) := by
  unfold takeSector
  rw [if_pos hs, hc, hr]

theorem takeSector_unsuited (hs : sectorSuits status data = false) :
    takeSector ch tag index status data s = selectNext (reply ch tag (.refuse .frameError) none s) := by
  unfold takeSector
  rw [hs]
  rfl

theorem sectorSuits_data : sectorSuits (some .data) data = decide (data.length = 1024) := if_pos rfl

theorem sectorCode_missing (hr : s.linkRec? ch tag = none) : sectorCode s ch tag index status = some .noSuchTag := by
  unfold sectorCode
  rw [hr]

/-- The three checks of R58 on a record found, in order. -/
theorem sectorCode_found {r : Rec} (hr : s.linkRec? ch tag = some r) :
    sectorCode s ch tag index status =
      if r.kind ≠ .write ∨ r.state = .ending then some .unexpectedData
      else if status ≠ some .data then some .badField
      else if r.count ≤ index ∨ ∀ x, r.sectors[index]? = some x → x.arrived = true then some .unexpectedData
      else none := by
  unfold sectorCode
  rw [hr]
  dsimp only
  cases r.sectors[index]? <;> simp [firstCode, isWrite]

end

theorem acceptSector_filled {r : Rec} {index j : Nat} {x : Sector} (data : Data) (hx : r.sectors[index]? = some x)
    (hj : x.slot = some j) : acceptSector r index data s = signalHoldEnds s (triggerCopies r (trigger r.bay
      ((fillSlot j (some data) s).mapRec r.seq (Rec.mapSector · index fun x => { x with arrived := true })))) := by
  unfold acceptSector
  rw [hx, Option.bind_some, hj]

/-! ### The stream's requests -/

section
variable {ch tag : Nat} {t : Stream}

theorem isAtRest_iff (p : StreamPhase) : isAtRest p = true ↔ p = .opened ∨ ∃ c : HaltCause, p = .halted c := by
  cases p <;> simp [isAtRest]

theorem not_isAtRest {p : StreamPhase} (h : p = .priming ∨ p = .running) : isAtRest p = false := by
  rcases h with rfl | rfl <;> rfl

theorem bayServes_iff (m : BayMode) : bayServes m = true ↔ m = .ready ∨ m = .waking := by
  simp [bayServes]

/-- The checks of R136 in order. -/
theorem takeStartStream_found (h : s.stream = some t) :
    takeStartStream ch tag s =
      if isAtRest t.phase = false ∨ t.bands = [] then selectNext (reply ch tag (.refuse .streamState) none s)
      else if bayServes (s.mechOf t.bay).mode = false then selectNext (reply ch tag (.refuse .bayNotReady) none s)
      else conclude (reply ch tag (.done (plainDone 0)) none (acceptStart t s)) := by
  unfold takeStartStream
  rw [h]
  dsimp only
  cases hp : isAtRest t.phase <;> cases hb : t.bands <;> cases hm : bayServes (s.mechOf t.bay).mode <;> rfl

theorem takeStartStream_closed (h : s.stream = none) :
    takeStartStream ch tag s = selectNext (reply ch tag (.refuse .streamState) none s) := by
  unfold takeStartStream
  rw [h]
  rfl

theorem takeStopStream_closed (h : s.stream = none) :
    takeStopStream ch tag s = selectNext (reply ch tag (.refuse .streamState) none s) := by
  unfold takeStopStream
  rw [h]
  rfl

theorem takeStopStream_found (h : s.stream = some t) :
    takeStopStream ch tag s =
      if isAtRest t.phase then selectNext (reply ch tag (.refuse .streamState) none s)
      else conclude (reply ch tag (.done (plainDone 0)) none (acceptStop t s)) := by
  unfold takeStopStream
  rw [h]
  rfl

theorem takeFlushStream_closed (h : s.stream = none) :
    takeFlushStream ch tag s = selectNext (reply ch tag (.refuse .streamState) none s) := by
  unfold takeFlushStream
  rw [h]
  rfl

theorem takeFlushStream_found (h : s.stream = some t) :
    takeFlushStream ch tag s =
      if isAtRest t.phase then conclude (reply ch tag (.done (plainDone 0)) none (acceptFlush t s))
      else selectNext (reply ch tag (.refuse .streamState) none s) := by
  unfold takeFlushStream
  rw [h]
  rfl

theorem takeCloseStream_closed (h : s.stream = none) :
    takeCloseStream ch tag s = selectNext (reply ch tag (.refuse .streamState) none s) := by
  unfold takeCloseStream
  rw [h]
  rfl

theorem takeCloseStream_found (h : s.stream = some t) :
    takeCloseStream ch tag s =
      if isAtRest t.phase = true ∧ feedInFlight s t.bay = false then
        conclude (reply ch tag (.done (plainDone 0)) none (acceptClose t s))
      else selectNext (reply ch tag (.refuse .streamState) none s) := by
  unfold takeCloseStream
  rw [h]
  dsimp only
  cases isAtRest t.phase <;> cases feedInFlight s t.bay <;> rfl

theorem setPhase_some (ph : StreamPhase) (h : s.stream = some t) :
    setPhase ph s = trigger t.bay { s with
      stream := some { t with phase := ph }
      port := { s.port with ready := decide (ph = .running) } } := by
  unfold setPhase
  rw [h]
  rfl

theorem acceptStart_opened (hp : t.phase = .opened) :
    acceptStart t s = primingTest (trigger t.bay
      { s with stream := some { t with phase := .priming }, port := { s.port with ready := false } }) := by
  have rewind : rewinds t = false := by simp [rewinds, hp, isHalted]
  have halted : isHalted t.phase = false := by rw [hp]; rfl
  unfold acceptStart
  rw [rewind, halted]
  dsimp only
  rw [setPhase_some (t := t) .priming rfl]
  rfl

theorem treatOldest_bay (t : Stream) : (treatOldest t).bay = t.bay := by
  have oldest : ∀ (f : Band → Band) (u : Stream), (mapOldest f u).bay = u.bay := fun f u => by
    unfold mapOldest
    split <;> rfl
  have rewound : (rewindOldest t).bay = t.bay := by
    unfold rewindOldest
    split
    · rfl
    · exact oldest _ _
  unfold treatOldest
  split
  · rfl
  · split
    · exact rewound
    · exact oldest _ _
    · rfl

theorem acceptStart_halted {c : HaltCause} (hp : t.phase = .halted c) :
    acceptStart t s =
      if (t.bands.head?.map Band.state) = some .exposing then
        armingTest (primingTest (trigger t.bay
          { s with stream := some { treatOldest t with phase := .priming }, port := { s.port with ready := false } }))
      else primingTest (trigger t.bay
        { s with stream := some { treatOldest t with phase := .priming }, port := { s.port with ready := false } }) := by
  have halted : isHalted t.phase = true := by rw [hp]; rfl
  have rewind : rewinds t = decide ((t.bands.head?.map Band.state) = some .exposing) := by
    unfold rewinds
    rw [halted, Bool.true_and]
    cases t.bands <;> simp
  unfold acceptStart
  rw [rewind, halted]
  dsimp only
  rw [setPhase_some (t := treatOldest t) .priming rfl, treatOldest_bay]
  simp only [decide_eq_true_eq]
  rfl

theorem acceptStop_some (h : s.stream = some t) :
    acceptStop t s = raise t.bay (.streamHalted .stop ((t.bands.head?.map Band.number).getD 0)) (trigger t.bay
      { s with stream := some { t with phase := .halted .stop }, port := { s.port with ready := false } }) := by
  unfold acceptStop
  rw [setPhase_some _ h, oldestNumber_eq]
  rfl

theorem acceptFlush_opened (hp : t.phase = .opened) :
    acceptFlush t s =
      if t.bands = [] then s
      else { s with stream := some { t with bands := [], segments := [], lowArmed := true } } := by
  unfold acceptFlush
  rw [if_pos hp]
  rfl

theorem acceptFlush_halted {c : HaltCause} (hp : t.phase = .halted c) :
    acceptFlush t s = trigger t.bay
      { s with
        stream := some { t with phase := .opened, bands := [], segments := [], lowArmed := true }
        port := { s.port with ready := false } } := by
  have other : t.phase ≠ .opened := by simp [hp]
  unfold acceptFlush
  rw [if_neg other, setPhase_some (t := flushed t) .opened rfl]
  rfl

theorem acceptClose_slots : (acceptClose t s).slots = s.slots.map fun x => if x = .ring then .free else x := by
  refine (signalRelease_slots _ _).trans (List.map_congr_left fun x _ => ?_)
  rw [isRing_eq]
  simp

theorem acceptClose_stream : (acceptClose t s).stream = none :=
  congrArg State.stream (signalRelease_frame (s.withStream none) _)

theorem acceptClose_frame : acceptClose t s =
    { s with stream := (acceptClose t s).stream, slots := (acceptClose t s).slots, sched := (acceptClose t s).sched } := by
  have freed := signalRelease_frame (s.withStream none)
    ((s.withStream none).withSlots ((s.withStream none).slots.map fun x => if x.isRing then .free else x))
  unfold acceptClose freeRing
  rw [freed]
  rfl

theorem acceptClose_triggers : OnlyTriggers s (acceptClose t s) :=
  have freed : OnlyTriggers s (freeRing (s.withStream none)) :=
    OnlyTriggers.trans (t := (s.withStream none).withSlots _) (.of_sched rfl) (.signalRelease _ _)
  freed.trans (.trigger _ _)

end

end Sys2Proof.Machine

namespace Sys2Proof.Buffer
open Machine

/-- Settles O15. -/
theorem frameSentEffect : Obligations.FrameSentEffect := by
  refine ⟨fun r s h => ?_, fun p s h hp => ?_, fun ch tag i j q st d r x s h hr hx hj => ?_,
    fun s h => exec_frameSent_none h⟩
  · rw [exec_frameSent h, frameSent_report]
    rfl
  · rw [exec_frameSent h, frameSent_plain hp]
    rfl
  · have slot : r.sectors[i]?.bind Sector.slot = some j := by rw [hx, Option.bind_some, hj]
    have kept := dropUnqueued_frame (s := s.mapLink fun l => { l with sending := none }) slot
    have number : r.seq = q := rec?_seq hr
    refine ⟨dropUnqueued r (s.mapLink fun l => { l with sending := none }) i, ?_, ?_⟩
    · rw [exec_frameSent h, frameSent_sector hr]
    · rw [number] at kept
      rw [kept]
      exact ⟨rfl, rfl, rfl, rfl⟩

/-- Settles O24. -/
theorem sectorTaken : Obligations.SectorTaken := by
  intro ch tag index data s hl
  have handed : ∀ (st : Option SectorStatus) (d : Data),
      exec (.sector ch tag index st d) s = .next (takeSector ch tag index st d s) := fun _ _ => exec_handedOn hl rfl
  have suits : data.length = 1024 → sectorSuits (some .data) data = true := fun h => by rw [sectorSuits_data, decide_eq_true h]
  refine ⟨fun r x j hd hr hk hstate hi hx ha hj => ?_, fun hd hr => ?_, fun r hd hr hk => ?_, fun r st hst hr hk hstate => ?_,
    fun r hd hr hk hstate hi => ?_, fun hd => ?_⟩ <;> rw [handed]
  · have code : sectorCode s ch tag index (some .data) = none := by
      rw [sectorCode_found hr]
      simp [hk, hstate, hx, ha, Nat.not_le.mpr hi]
    rw [takeSector_accepted (suits hd) hr code, acceptSector_filled data hx hj]
    rfl
  · rw [takeSector_refused (suits hd) (sectorCode_missing hr)]
  · rw [takeSector_refused (suits hd) ((sectorCode_found hr).trans (if_pos hk))]
  · have code : sectorCode s ch tag index (some st) = some .badField := by
      rw [sectorCode_found hr]
      simp [hk, hstate, hst]
    have suited : sectorSuits (some st) [] = true := by simp [sectorSuits, hst]
    rw [takeSector_refused suited code]
  · have last : r.count ≤ index ∨ ∀ x, r.sectors[index]? = some x → x.arrived = true :=
      hi.imp_right fun ⟨x, hx, ha⟩ y hy => Option.some.inj (hx.symm.trans hy) ▸ ha
    have code : sectorCode s ch tag index (some .data) = some .unexpectedData := by
      rw [sectorCode_found hr, if_neg (by simp [hk, hstate]), if_neg (by simp), if_pos last]
    rw [takeSector_refused (suits hd) code]
  · rw [takeSector_unsuited (by rw [sectorSuits_data, decide_eq_false hd])]

/-- Settles O32. -/
theorem streamRequestsTaken : Obligations.StreamRequestsTaken := by
  refine ⟨fun ch tag s hl => ?_, fun ch tag s hl => ?_⟩
  · have starts : exec (.startStream ch tag) s = .next (takeStartStream ch tag s) := exec_handedOn hl rfl
    have stops : exec (.stopStream ch tag) s = .next (takeStopStream ch tag s) := exec_handedOn hl rfl
    rw [starts, stops]
    refine ⟨fun h => by rw [takeStartStream_closed h, takeStopStream_closed h]; exact ⟨rfl, rfl⟩, fun t h => ?_⟩
    rw [takeStartStream_found h, takeStopStream_found h]
    refine ⟨fun hp hb hm => ?_, fun c hp hb hm => ⟨_, rfl, ?_⟩, fun hc => ?_, fun hp hb hr hw => ?_, fun hp => ?_, fun hp => ?_⟩
    · have served := (bayServes_iff _).mpr hm
      rw [if_neg (by simp [hp, isAtRest, hb]), if_neg (by simp [served]), acceptStart_opened hp]
    · have served := (bayServes_iff _).mpr hm
      rw [if_neg (by simp [hp, isAtRest, hb]), if_neg (by simp [served]), acceptStart_halted hp]
    · refine congrArg _ (if_pos ?_)
      rcases hc with hp | hp | hb
      · exact .inl (not_isAtRest (.inl hp))
      · exact .inl (not_isAtRest (.inr hp))
      · exact .inr hb
    · have atRest := (isAtRest_iff _).mpr hp
      have unserved : bayServes (s.mechOf t.bay).mode = false := by simp [bayServes, hr, hw]
      rw [if_neg (by simp [atRest, hb]), if_pos unserved]
    · rw [not_isAtRest hp, if_neg Bool.false_ne_true, acceptStop_some h]
    · rw [if_pos ((isAtRest_iff _).mpr hp)]
  · have flushes : exec (.flushStream ch tag) s = .next (takeFlushStream ch tag s) := exec_handedOn hl rfl
    have closes : exec (.closeStream ch tag) s = .next (takeCloseStream ch tag s) := exec_handedOn hl rfl
    rw [flushes, closes]
    refine ⟨fun h => by rw [takeFlushStream_closed h, takeCloseStream_closed h]; exact ⟨rfl, rfl⟩, fun t h => ?_⟩
    rw [takeFlushStream_found h, takeCloseStream_found h]
    refine ⟨fun hp hb => ?_, fun hp hb => ?_, fun c hp => ?_, fun hp => ?_, fun hp hf => ?_, fun hp hf => ?_⟩
    · rw [if_pos ((isAtRest_iff _).mpr (.inl hp)), acceptFlush_opened hp, if_pos hb]
    · rw [if_pos ((isAtRest_iff _).mpr (.inl hp)), acceptFlush_opened hp, if_neg hb]
    · rw [if_pos ((isAtRest_iff _).mpr (.inr ⟨c, hp⟩)), acceptFlush_halted hp]
    · rw [not_isAtRest hp, if_neg Bool.false_ne_true, if_neg (by simp)]
      exact ⟨rfl, rfl⟩
    · rw [if_neg (by simp [hf])]
    · rw [if_pos ⟨(isAtRest_iff _).mpr hp, hf⟩]
      exact ⟨_, rfl, acceptClose_stream, acceptClose_slots, acceptClose_frame, acceptClose_triggers.sched⟩

end Sys2Proof.Buffer
end

section
/-! A read's sector given up, and what its fallback brings (R166, R167). -/

namespace Sys2Proof.Machine

variable {s : State}

/-! ### Flags -/

/-- Flags are set in the records alone. -/
theorem flagRecord_frame (q : Nat) (f : Flags → Flags) (s : State) : flagRecord q f s = s.withRecs (flagRecord q f s).recs := by
  unfold flagRecord
  split
  · rfl
  · dsimp only
    split
    · exact foldl_keeps (P := fun t => t = s.withRecs t.recs) (f := fun t p => t.mapRec p (Rec.flag · f))
        (fun t p h => by rw [h]; rfl) _ _ rfl
    · rfl

theorem flagRecord_length (q : Nat) (f : Flags → Flags) (s : State) : (flagRecord q f s).recs.length = s.recs.length := by
  unfold flagRecord
  split
  · rfl
  · dsimp only
    split
    · exact foldl_keeps (P := fun t => t.recs.length = s.recs.length) (f := fun t p => t.mapRec p (Rec.flag · f))
        (fun t p h => (List.length_map _).trans h) _ _ (List.length_map _)
    · exact List.length_map _

theorem noteTries_many {q n : Nat} (h : 1 < n) : noteTries q n s = flagRecord q setRetried s := if_pos h

/-! ### A sector given up -/

/-- A sector that has failed 4 attempts in all. -/
theorem settleRead_failed {q i n : Nat} {r : Rec} {x : Sector} (hr : s.rec? q = some r) (hx : r.sectors[i]? = some x)
    (hn : 4 ≤ x.attempts + n) : settleRead q i (.failed n) s = readGivesUp r i (flagRecord q setRetried s) := by
  unfold settleRead
  simp only [hr, hx, foundTries, if_pos hn, noteTries_many (show 1 < x.attempts + n by omega)]

theorem fallbackApplies_iff {r : Rec} {n : Nat} : fallbackApplies s r n = true ↔
    r.kind = .read ∧ mirrorPrimary s = some r.bay ∧ n < buildCursor s ∧ s.recs.length < 16 := by
  have place : freePlaces s ≠ 0 ↔ s.recs.length < 16 := Nat.sub_ne_zero_iff_lt
  simp only [fallbackApplies, isRead, Bool.and_eq_true, decide_eq_true_eq, place, and_assoc]

/-- The flag changes nothing by which a fallback is refused or created. -/
theorem fallbackApplies_flagged {q : Nat} {f : Flags → Flags} {r : Rec} {n : Nat} :
    fallbackApplies (flagRecord q f s) r n = fallbackApplies s r n := by
  rw [Bool.eq_iff_iff, fallbackApplies_iff, fallbackApplies_iff, flagRecord_length, flagRecord_frame]
  rfl

theorem readGivesUp_created {r : Rec} {i : Nat} (hf : fallbackApplies s r (r.first + i) = true)
    (hb : forcedOut (s.mechOf r.bay.other).mode = false) :
    readGivesUp r i s = trigger r.bay.other (wake r.bay.other
      (withCreated (newRec .fallbackRead none r.bay.other r.level (r.first + i) 1 [newSector .unread] [r.seq])
        (s.mapRec r.seq fun y =>
          { (y.mapSector i fun z => { z with progress := .awaitingFallback, attempts := 0 }) with
            partners := y.partners ++ [s.nextSeq] }))) := by
  unfold readGivesUp
  rw [if_pos hf, createFallback, createInternal_kept hb, createRec_wakes rfl rfl]
  rfl

theorem readGivesUp_failed {r : Rec} {i : Nat} (hf : fallbackApplies s r (r.first + i) = false) :
    readGivesUp r i s =
      mapSectorOf r.seq i (fun y => { y with progress := .failed, attempts := 0, cause := some .unreadable }) s := by
  unfold readGivesUp
  rw [hf, if_neg Bool.false_ne_true]

/-! ### A fallback's outcome -/

/-- The read and its sector that a fallback serves. -/
theorem fallbackOutcome_found {f r : Rec} {q : Nat} {qs : List Nat} {x : Sector} (hp : f.partners = q :: qs)
    (hr : s.rec? q = some r) (hx : r.sectors[f.first - r.first]? = some x) :
    fallbackOutcome f s =
      if hasEnded r ∨ x.progress ≠ .awaitingFallback then s
      else if f.endCause = none ∧ (f.sectors.all fun y => decide (y.progress = .read)) then
        queueFrames q
          (if s.settings.weak.get r.bay && r.endCause.isNone then
            requestRelocate .repair r.bay f.first ((x.slot.bind (slotData s)).getD []) q
              (s.mapRec q fun y =>
                { (y.mapSector (f.first - r.first) fun z => { z with progress := .read }) with
                  flags := { y.flags with fromMirror := true } })
          else s.mapRec q fun y =>
            { (y.mapSector (f.first - r.first) fun z => { z with progress := .read }) with
              flags := { y.flags with fromMirror := true } })
      else
        queueFrames q (s.mapRec q
          (Rec.mapSector · (f.first - r.first) fun z => { z with progress := .failed, cause := some .unreadable })) := by
  have read : f.partners.head?.bind s.rec? = some r := by rw [hp]; exact hr
  unfold fallbackOutcome
  rw [read]
  dsimp only
  rw [hx, rec?_seq hr]
  rfl

theorem fallbackOutcome_gone {f : Rec} (h : f.partners.head?.bind s.rec? = none) : fallbackOutcome f s = s := by
  unfold fallbackOutcome
  rw [h]

theorem hasEnded_iff (r : Rec) : hasEnded r = true ↔ r.endCause ≠ none ∧ r.state = .ending := by
  simp [hasEnded, Option.isSome_iff_ne_none]

end Sys2Proof.Machine

namespace Sys2Proof.Buffer
open Machine

/-- Settles O60. -/
theorem fallbackOutcomes : Obligations.FallbackOutcomes := by
  refine ⟨fun q i n r x s u hr hx hk hn hu => ⟨fun hm hc hp hf => ?_, fun hno => ?_⟩, fun f s h => fallbackOutcome_gone h,
    fun f r q i qs x s hp hr hi hx => ?_⟩
  · have applies : fallbackApplies u r (r.first + i) = true := by
      rw [hu, fallbackApplies_flagged, fallbackApplies_iff]
      exact ⟨hk, hm, hc, hp⟩
    have same : u = s.withRecs u.recs := hu ▸ flagRecord_frame q setRetried s
    have open_ : forcedOut (u.mechOf r.bay.other).mode = false := by rw [same]; exact hf
    rw [settleRead_failed hr hx hn, ← hu, readGivesUp_created applies open_, rec?_seq hr]
    have next : u.nextSeq = s.nextSeq := by rw [same]; rfl
    have counter : u.counter = s.counter := by rw [same]; rfl
    rw [next, ← counter, ← next]
    rfl
  · have refused : fallbackApplies u r (r.first + i) = false := by
      rw [hu, fallbackApplies_flagged, Bool.eq_false_iff, Ne, fallbackApplies_iff]
      rintro ⟨_, hm, hc, hp⟩
      rcases hno with h | h | h
      · exact h hm
      · exact absurd hc (Nat.not_lt.mpr h)
      · exact absurd hp (Nat.not_lt.mpr h)
    rw [settleRead_failed hr hx hn, ← hu, readGivesUp_failed refused, rec?_seq hr]
    rfl
  · subst hi
    have outcome := fallbackOutcome_found hp hr hx
    refine ⟨fun hno => ?_, fun hlive hwait u hu => ⟨fun he hs => ⟨fun hw hr' => ?_, fun hw => ?_⟩, fun hbad => ?_⟩⟩
    · rw [outcome, if_pos (hno.imp_left (hasEnded_iff r).mpr)]
    all_goals
      have acts : ¬ (hasEnded r = true ∨ x.progress ≠ .awaitingFallback) := by
        rw [hasEnded_iff, hwait]
        rintro (⟨h, h'⟩ | h)
        · exact hlive.elim h (· h')
        · exact h rfl
      rw [outcome, if_neg acts]
    · have brings : f.endCause = none ∧ (f.sectors.all fun y => decide (y.progress = .read)) = true :=
        ⟨he, List.all_eq_true.mpr fun y hy => decide_eq_true (hs y hy)⟩
      rw [if_pos brings, if_pos (by rw [hw, hr']; rfl), hu]
      rfl
    · have brings : f.endCause = none ∧ (f.sectors.all fun y => decide (y.progress = .read)) = true :=
        ⟨he, List.all_eq_true.mpr fun y hy => decide_eq_true (hs y hy)⟩
      have unasked : ¬ (s.settings.weak.get r.bay && r.endCause.isNone) = true := by
        rw [Bool.and_eq_true, Option.isNone_iff_eq_none]
        rintro ⟨h, h'⟩
        exact hw.elim (fun e => by simp [e] at h) (· h')
      rw [if_pos brings, if_neg unasked, hu]
      rfl
    · have lacks : ¬ (f.endCause = none ∧ (f.sectors.all fun y => decide (y.progress = .read)) = true) := by
        rintro ⟨h, h'⟩
        rcases hbad with e | ⟨y, hy, e⟩
        · exact e h
        · exact e (of_decide_eq_true (List.all_eq_true.mp h' y hy))
      rw [if_neg lacks]
      rfl

end Sys2Proof.Buffer
end

section
/-! How a record plans its next pass (R94 to R98): the anchor, the sectors that join it, and the data taken by read-through. -/

namespace Sys2Proof.Machine

/-! ### The anchor -/

theorem anchorOf_eq_none {l : List Want} : anchorOf l = none ↔ ∀ w ∈ l, w.need = none := by
  induction l with
  | nil => exact iff_of_true rfl fun _ h => nomatch h
  | cons w ws ih =>
    unfold anchorOf
    rw [List.forall_mem_cons]
    split
    · rename_i need
      simp [need]
    · rename_i need
      exact ih.trans (and_iff_right need).symm

theorem anchorOf_append {pre rest : List Want} {w : Want} {act : Action} (hp : ∀ v ∈ pre, v.need = none)
    (hw : w.need = some act) : anchorOf (pre ++ w :: rest) = some (w, act, rest) := by
  induction pre with
  | nil =>
    change anchorOf (w :: rest) = _
    unfold anchorOf
    rw [hw]
  | cons v vs ih =>
    obtain ⟨hv, hvs⟩ := List.forall_mem_cons.mp hp
    change anchorOf (v :: (vs ++ w :: rest)) = _
    unfold anchorOf
    rw [hv]
    exact ih hvs

theorem indexed_append (n : Nat) (l l' : List Sector) : indexed n (l ++ l') = indexed n l ++ indexed (n + l.length) l' := by
  induction l generalizing n with
  | nil => rfl
  | cons x xs ih => rw [List.cons_append, indexed, ih, indexed, List.cons_append, List.length_cons, Nat.add_right_comm n 1,
      Nat.add_assoc]

/-- The numbered sectors around sector `i`. -/
theorem indexed_at {l : List Sector} {i : Nat} {x : Sector} (h : l[i]? = some x) :
    indexed 0 l = indexed 0 (l.take i) ++ (i, x) :: indexed (i + 1) (l.drop (i + 1)) := by
  obtain ⟨inside, rfl⟩ := List.getElem?_eq_some_iff.mp h
  have parts : l = l.take i ++ l[i] :: l.drop (i + 1) := by rw [← List.drop_eq_getElem_cons inside, List.take_append_drop]
  conv_lhs => rw [parts]
  rw [indexed_append, List.length_take, Nat.min_eq_left inside.le, Nat.zero_add, indexed]

theorem indexed_length (n : Nat) (l : List Sector) : (indexed n l).length = l.length := by
  induction l generalizing n with
  | nil => rfl
  | cons x xs ih => exact congrArg (· + 1) (ih (n + 1))

theorem indexed_drop {l : List Sector} {i : Nat} {x : Sector} (h : l[i]? = some x) :
    (indexed 0 l).drop i = (i, x) :: indexed (i + 1) (l.drop (i + 1)) := by
  obtain ⟨inside, _⟩ := List.getElem?_eq_some_iff.mp h
  rw [indexed_at h, List.drop_left']
  rw [indexed_length, List.length_take, Nat.min_eq_left inside.le]

/-- A sector before `i`, with its number. -/
theorem mem_indexed_take {l : List Sector} {i j : Nat} {x : Sector} (h : (j, x) ∈ indexed 0 (l.take i)) :
    j < i ∧ l[j]? = some x := by
  obtain ⟨k, rfl, hk⟩ := mem_indexed.mp h
  rw [Nat.zero_add]
  rw [List.getElem?_take] at hk
  split at hk
  · exact ⟨‹_›, hk⟩
  · exact nomatch hk

/-! ### The sectors that join it -/

/-- Sector `y`, `k` after the anchor `i` at a location, joins its pass (R95). -/
def Joins (f : Nat × Sector → Want) (act : Action) (l : Loc) (i k : Nat) (y : Sector) : Prop :=
  (f (i + k, y)).need = some act ∧ (f (i + k, y)).alone = false ∧ (f (i + k, y)).loc = ⟨l.track, l.sector + k⟩

/-- The run that joins: as far as each sector joins, and no further. -/
theorem joinRun_stops {f : Nat × Sector → Want} (hf : ∀ p, (f p).index = p.1) (act : Action) (l : Loc) (i : Nat)
    (k : Nat) (ys : List Sector) : ∃ n, joinRun act l.track (l.sector + k) ((indexed (i + k) ys).map f) =
      (List.range n).map (fun j => i + k + j) ∧
      (∀ j, j < n → ∃ y, ys[j]? = some y ∧ Joins f act l i (k + j) y) ∧ ∀ y, ys[n]? = some y → ¬ Joins f act l i (k + n) y := by
  induction ys generalizing k with
  | nil => exact ⟨0, rfl, fun _ h => absurd h (Nat.not_lt_zero _), fun _ h => nomatch h⟩
  | cons y ys ih =>
    have joins : Joins f act l i k y ↔ (f (i + k, y)).need = some act ∧ (f (i + k, y)).alone = false ∧
        (f (i + k, y)).loc.track = l.track ∧ (f (i + k, y)).loc.sector = l.sector + k := by
      unfold Joins
      generalize (f (i + k, y)).loc = place
      obtain ⟨track, sector⟩ := place
      simp
    change ∃ n, joinRun act l.track (l.sector + k) (f (i + k, y) :: (indexed (i + k + 1) ys).map f) = _ ∧ _
    unfold joinRun
    rw [hf]
    by_cases here : Joins f act l i k y
    · obtain ⟨n, run, all, stop⟩ := ih (k + 1)
      rw [if_pos (joins.mp here)]
      refine ⟨n + 1, ?_, fun j hj => ?_, fun z hz => ?_⟩
      · rw [List.range_succ_eq_map, List.map_cons, List.map_map, Nat.add_zero]
        refine congrArg ((i + k) :: ·) (run.trans (List.map_congr_left fun j _ => ?_))
        simp only [Function.comp_apply]
        omega
      · cases j with
        | zero => exact ⟨y, rfl, here⟩
        | succ j =>
          obtain ⟨z, hz, hj'⟩ := all j (Nat.lt_of_succ_lt_succ hj)
          exact ⟨z, hz, by rwa [Nat.add_right_comm, Nat.add_assoc] at hj'⟩
      · have next := stop z hz
        rwa [Nat.add_right_comm, Nat.add_assoc] at next
    · rw [if_neg (fun h => here (joins.mpr h))]
      exact ⟨0, rfl, fun _ h => absurd h (Nat.not_lt_zero _), fun z hz => Option.some.inj hz ▸ here⟩

/-- The pass of an anchor with no attempt count: the sectors that join, at most `limit` with the anchor. -/
theorem planFrom_run {f : Nat × Sector → Want} (hf : ∀ p, (f p).index = p.1) (act : Action) {l : List Sector} {i limit : Nat}
    {x : Sector} (hone : 1 ≤ limit) (ha : (f (i, x)).alone = false) :
    ∃ n, 1 ≤ n ∧ n ≤ limit ∧ (planFrom (f (i, x)) act ((indexed (i + 1) (l.drop (i + 1))).map f) limit).items =
        (List.range n).map (fun k => i + k) ∧
      (∀ k, 1 ≤ k → k < n → ∃ y, l[i + k]? = some y ∧ Joins f act (f (i, x)).loc i k y) ∧
      (n < limit → ∀ y, l[i + n]? = some y → ¬ Joins f act (f (i, x)).loc i n y) := by
  obtain ⟨n, run, all, stop⟩ := joinRun_stops hf act (f (i, x)).loc i 1 (l.drop (i + 1))
  have items : (planFrom (f (i, x)) act ((indexed (i + 1) (l.drop (i + 1))).map f) limit).items =
      (List.range (min limit (n + 1))).map fun k => i + k := by
    unfold planFrom
    dsimp only
    rw [ha, if_neg Bool.false_ne_true, hf, run, ← List.take_range, List.map_take, List.range_succ_eq_map, List.map_cons,
      List.map_map, Nat.add_zero]
    refine congrArg _ (congrArg _ (List.map_congr_left fun j _ => ?_))
    simp only [Function.comp_apply]
    omega
  refine ⟨min limit (n + 1), by omega, Nat.min_le_left _ _, items, fun k h1 hk => ?_, fun hl y hy => ?_⟩
  · obtain ⟨y, hy, joins⟩ := all (k - 1) (by omega)
    rw [List.getElem?_drop, show i + 1 + (k - 1) = i + k by omega] at hy
    rw [show 1 + (k - 1) = k by omega] at joins
    exact ⟨y, hy, joins⟩
  · have whole : min limit (n + 1) = 1 + n := by omega
    rw [whole] at hy ⊢
    exact stop y (by rwa [List.getElem?_drop, Nat.add_assoc])

theorem planFrom_alone {w : Want} (act : Action) (rest : List Want) (limit : Nat) (h : w.alone = true) :
    planFrom w act rest limit = ⟨act, w.loc.track, w.loc.sector, [w.index], false, false⟩ := by
  unfold planFrom
  rw [h]
  rfl

variable {s : State} {r : Rec}

/-! ### Writers -/

theorem planWrite_relocation {t : Try} {ts : List Try} (h : r.relocations = t :: ts) : planWrite s r = planRelocation t := by
  unfold planWrite
  rw [h]

/-- The action that a relocation's spare is due (R114). -/
def tryAction (p : Progress) : Action :=
  match p with
  | .pending => .erase
  | .erased => .write
  | _ => .verify

theorem planRelocation_spare {t : Try} {x : Nat} (h : t.spare = some x) :
    planRelocation t = .pass ⟨tryAction t.progress, 16320 + x / 17, x % 17, [t.index], false, true⟩ := by
  unfold planRelocation
  rw [h]
  rfl

theorem writeNeed_other {i : Nat} {x : Sector} (hp : x.progress ≠ .pending) (he : x.progress ≠ .erased)
    (hw : x.progress ≠ .written) : writeNeed s r i x = none := by
  unfold writeNeed
  split
  · exact absurd ‹_› hp
  · exact absurd ‹_› he
  · exact absurd ‹_› hw
  · rfl

/-- With no sector ready for an action. -/
theorem planWrite_none (hr : r.relocations = []) (hn : ∀ i x, r.sectors[i]? = some x → writeNeed s r i x = none) :
    planWrite s r = if (indexed 0 r.sectors).all (fun p => writeFinished r p.1 p.2) then .finished else .stalled := by
  have none : anchorOf ((indexed 0 r.sectors).map (writeWant s r)) = none := anchorOf_eq_none.mpr fun w hw => by
    obtain ⟨⟨j, x⟩, hx, rfl⟩ := List.mem_map.mp hw
    obtain ⟨k, rfl, hk⟩ := mem_indexed.mp hx
    rw [Nat.zero_add]
    exact hn k x hk
  unfold planWrite
  rw [hr]
  dsimp only
  rw [none]

theorem all_indexed {l : List Sector} {p : Nat → Sector → Bool} :
    (indexed 0 l).all (fun y => p y.1 y.2) = true ↔ ∀ i x, l[i]? = some x → p i x = true := by
  rw [List.all_eq_true]
  refine ⟨fun h i x hx => h (i, x) (mem_indexed.mpr ⟨i, (Nat.zero_add i).symm, hx⟩), fun h y hy => ?_⟩
  obtain ⟨j, e, hj⟩ := mem_indexed.mp hy
  rw [e, Nat.zero_add]
  exact h j y.2 hj

theorem planWrite_anchor {i : Nat} {x : Sector} {act : Action} (hr : r.relocations = []) (hx : r.sectors[i]? = some x)
    (hn : writeNeed s r i x = some act) (hb : ∀ j y, j < i → r.sectors[j]? = some y → writeNeed s r j y = none) :
    planWrite s r = .pass (planFrom (writeWant s r (i, x)) act
      ((indexed (i + 1) (r.sectors.drop (i + 1))).map (writeWant s r)) 17) := by
  have anchor : anchorOf ((indexed 0 r.sectors).map (writeWant s r)) = some (writeWant s r (i, x), act,
      (indexed (i + 1) (r.sectors.drop (i + 1))).map (writeWant s r)) := by
    rw [indexed_at hx, List.map_append, List.map_cons]
    refine anchorOf_append (fun w hw => ?_) hn
    obtain ⟨⟨j, y⟩, hy, rfl⟩ := List.mem_map.mp hw
    obtain ⟨before, found⟩ := mem_indexed_take hy
    exact hb j y before found
  unfold planWrite
  rw [hr]
  dsimp only
  rw [anchor]

/-! ### Readers -/

theorem planRec_writer {q : Nat} (hr : s.rec? q = some r) (hw : isReading r = false) : planRec q s = (s, planWrite s r) := by
  unfold planRec
  rw [hr]
  simp [hw]

theorem planRec_reader {q : Nat} (hr : s.rec? q = some r) (hw : isReading r = true) :
    planRec q s = planRead q (r.count + 1) s := by
  unfold planRec
  rw [hr]
  simp [hw]

theorem firstUnread_none (h : ∀ x ∈ r.sectors, x.progress ≠ .unread) : firstUnread r = none := by
  refine Option.map_eq_none_iff.mpr (List.find?_eq_none.mpr fun p hp => ?_)
  obtain ⟨j, _, hj⟩ := mem_indexed (i := p.1) (x := p.2) |>.mp hp
  simpa using h p.2 (List.mem_of_getElem? hj)

theorem firstUnread_some {i : Nat} {x : Sector} (hx : r.sectors[i]? = some x) (hu : x.progress = .unread)
    (hb : ∀ j y, j < i → r.sectors[j]? = some y → y.progress ≠ .unread) : firstUnread r = some i := by
  have before : (indexed 0 (r.sectors.take i)).find? (fun p => decide (p.2.progress = .unread)) = none :=
    List.find?_eq_none.mpr fun p hp => by
      obtain ⟨lower, found⟩ := mem_indexed_take (j := p.1) (x := p.2) hp
      simpa using hb p.1 p.2 lower found
  unfold firstUnread
  rw [indexed_at hx, List.find?_append, before, Option.none_or, List.find?_cons_of_pos (by simpa using hu)]
  rfl

theorem planRead_finished {q n : Nat} (hr : s.rec? q = some r) (hu : firstUnread r = none) :
    planRead q (n + 1) s = (s, .finished) := by
  unfold planRead
  rw [hr]
  dsimp only
  rw [hu]

/-- With no data to take from a writer the first UNREAD sector is read by a pass. -/
theorem planRead_pass {q n i : Nat} (hr : s.rec? q = some r) (hu : firstUnread r = some i)
    (ht : throughData s (schedBay r) (r.first + i) = none) : planRead q (n + 1) s = (s, planReadPass s r i) := by
  unfold planRead
  rw [hr]
  dsimp only
  rw [hu]
  dsimp only
  rw [ht]

/-- A READ takes the data of a sector's newest writer, into a slot that it has or claims. -/
theorem planRead_through {q n i : Nat} {d : Data} {x : Sector} (hr : s.rec? q = some r) (hk : isRead r = true)
    (hu : firstUnread r = some i) (hx : r.sectors[i]? = some x)
    (ht : throughData s (schedBay r) (r.first + i) = some d) :
    planRead q (n + 1) s =
      if x.slot.isSome then planRead q n (takeThrough q i x.slot d s)
      else if readLimit s = 0 then (s, .stalled)
      else planRead q n (claimThrough q i d s) := by
  have single : isFallback r = false := by
    rw [isRead, decide_eq_true_eq] at hk
    simp [isFallback, hk]
  have slot : readSlot s r i = x.slot := by
    unfold readSlot
    rw [single, hx]
    rfl
  conv_lhs => unfold planRead
  rw [hr]
  dsimp only
  rw [hu]
  dsimp only
  rw [ht]
  dsimp only
  rw [hk, if_pos rfl, slot, hx, Option.bind_some]

/-- Sector `i` is UNREAD and no writer holds its data. -/
theorem readWant_need {i : Nat} {x : Sector} : (readWant s r (i, x)).need = some .read ↔
    x.progress = .unread ∧ throughData s (schedBay r) (r.first + i) = none := by
  unfold readWant
  simp [Option.isNone_iff_eq_none]

theorem planReadPass_anchor {i : Nat} {x : Sector} (hx : r.sectors[i]? = some x) (hu : x.progress = .unread)
    (ht : throughData s (schedBay r) (r.first + i) = none) : planReadPass s r i =
      if 0 < x.attempts then .pass ⟨.read, (sectorLoc s r i).track, (sectorLoc s r i).sector, [i], false, false⟩
      else if isRead r then
        if readLimit s = 0 then .stalled
        else .pass (planFrom (readWant s r (i, x)) .read
          ((indexed (i + 1) (r.sectors.drop (i + 1))).map (readWant s r)) (readLimit s))
      else if isStep r = true ∧ ¬(r.started = true ∨ 17 ≤ freeCount s) then .stalled
      else .pass { planFrom (readWant s r (i, x)) .read
        ((indexed (i + 1) (r.sectors.drop (i + 1))).map (readWant s r)) 17 with claims := false } := by
  have anchor : anchorOf (((indexed 0 r.sectors).drop i).map (readWant s r)) = some (readWant s r (i, x), .read,
      (indexed (i + 1) (r.sectors.drop (i + 1))).map (readWant s r)) := by
    rw [indexed_drop hx, List.map_cons]
    exact anchorOf_append (pre := []) (fun _ h => nomatch h) (readWant_need.mpr ⟨hu, ht⟩)
  have alone : (readWant s r (i, x)).alone = decide (0 < x.attempts) := rfl
  unfold planReadPass
  rw [anchor]
  dsimp only
  by_cases tried : 0 < x.attempts
  · rw [if_pos tried, if_pos (alone.trans (decide_eq_true tried)), planFrom_alone _ _ _ (alone.trans (decide_eq_true tried))]
    rfl
  · rw [if_neg tried, if_neg (by rw [alone]; simpa using tried)]
    by_cases read : isRead r = true
    · rw [if_pos read, if_pos read]
    rw [if_neg read, if_neg read]
    by_cases step : isStep r = true
    · rw [if_pos step]
      by_cases ready : r.started = true ∨ 17 ≤ freeCount s
      · rw [if_pos ready, if_neg (fun h => h.2 ready)]
      · rw [if_neg ready, if_pos ⟨step, ready⟩]
    · rw [if_neg step, if_neg (fun h : _ ∧ _ => step h.1)]

/-! ### Data taken by read-through -/

theorem fillSlot_set {l : List Slot} (j : Nat) (hs : List Holder) (d : Option Data) (bytes : Data) :
    fillSlot j (some bytes) (s.withSlots (l.set j (.held hs d))) = s.withSlots (l.set j (.held hs (some bytes))) := by
  refine congrArg s.withSlots (List.ext_getElem? fun i => ?_)
  simp only [State.withSlots_slots, List.getElem?_modify, List.getElem?_set]
  by_cases hij : j = i
  · subst hij
    by_cases inside : j < l.length <;> simp [inside]
  · simp [hij]

theorem claim_one {h : Holder} {j : Nat} {js : List Nat} (hj : freeIds s = j :: js) :
    claim h 1 s = (s.withSlots (s.slots.set j (.held [h] none)), [j]) := by
  unfold claim putSlots
  rw [hj]
  rfl

/-- The slot claimed takes the data, and the sector takes the slot (R98). -/
theorem claimThrough_found {q i j : Nat} {js : List Nat} {d : Data} (hj : freeIds s = j :: js) :
    claimThrough q i d s = queueFrames q
      ((s.mapRec q (Rec.mapSector · i fun x => { x with progress := .read, attempts := 0, slot := some j })).withSlots
        (s.slots.set j (.held [.record q] (some d)))) := by
  have assigned : (s.mapRec q (Rec.mapSector · i fun x => { x with slot := some j })).mapRec q
      (Rec.mapSector · i fun x => { x with progress := .read, attempts := 0 }) =
      s.mapRec q (Rec.mapSector · i fun x => { x with progress := .read, attempts := 0, slot := some j }) := by
    refine (mapRec_mapRec s q (f := (Rec.mapSector · i fun x => { x with slot := some j })) _ fun _ => rfl).trans
      (congrArg (s.mapRec q) (funext fun r => ?_))
    simp [Rec.mapSector, List.modify_modify_eq, Function.comp_def]
  unfold claimThrough takeThrough
  rw [claim_one hj]
  dsimp only [List.head?_cons]
  have filled : fillSlot j (some d) ((s.withSlots (s.slots.set j (.held [.record q] none))).mapRec q
      (Rec.mapSector · i fun x => { x with slot := some j })) =
      (s.mapRec q (Rec.mapSector · i fun x => { x with slot := some j })).withSlots
        (s.slots.set j (.held [.record q] (some d))) :=
    fillSlot_set (s := s.mapRec q (Rec.mapSector · i fun x => { x with slot := some j })) j [.record q] none d
  rw [filled]
  exact congrArg (fun t : State => queueFrames q (t.withSlots (s.slots.set j (.held [.record q] (some d))))) assigned

end Sys2Proof.Machine

namespace Sys2Proof.Buffer
open Machine

/-- Settles O52. -/
theorem plansMade : Obligations.PlansMade := by
  refine ⟨fun s r t ts h => ?_, fun s r i x => ?_, fun s r i => ?_, fun s r hr hn => ?_, fun s r i x act hr hx hn hb => ?_,
    fun q s r => planRec_writer, fun q s r hr hw hu => ?_, fun q i limit s r x hr hw hx hu hb ht hl => ?_,
    fun q i d s r x hr hk hx hu hb ht => ?_, fun q i j js d s hj => ?_, fun q i j d s => ?_⟩
  · rw [planWrite_relocation h]
    refine ⟨fun hn => by rw [planRelocation, hn], fun x hx => ⟨_, planRelocation_spare hx, ?_⟩⟩
    refine ⟨fun e => ?_, fun e => ?_, fun e => ?_⟩ <;> rw [e] <;> rfl
  · refine ⟨fun e => ?_, fun e => ?_, fun e => ?_, writeNeed_other⟩ <;> unfold writeNeed <;> rw [e]
  · unfold sectorLoc
    simp only [isLabelWriter, labelBase, Bool.or_eq_true, or_assoc]
  · rw [planWrite_none hr hn]
    refine ⟨fun h => if_pos (all_indexed.mpr h), fun ⟨i, x, hx, h⟩ => if_neg fun all => ?_⟩
    rw [all_indexed.mp all i x hx] at h
    exact nomatch h
  · refine ⟨_, planWrite_anchor hr hx hn hb, rfl, rfl, rfl, rfl, fun ha => ?_, fun ha => ?_⟩
    · rw [planFrom_alone _ _ _ (decide_eq_true ha)]
      rfl
    · obtain ⟨n, one, most, items, all, stop⟩ := planFrom_run (f := writeWant s r) (fun _ => rfl) act (l := r.sectors)
        (i := i) (x := x) (limit := 17) (by decide) (by simp [writeWant, ha])
      have joins : ∀ k y, Joins (writeWant s r) act (writeWant s r (i, x)).loc i k y ↔ writeNeed s r (i + k) y = some act ∧
          y.attempts = 0 ∧ sectorLoc s r (i + k) = ⟨(sectorLoc s r i).track, (sectorLoc s r i).sector + k⟩ := fun k y => by
        simp [Joins, writeWant]
      refine ⟨n, one, most, items, fun k h1 hk => ?_, fun hlt y hy hj => stop hlt y hy ((joins n y).mpr hj)⟩
      obtain ⟨y, hy, hj⟩ := all k h1 hk
      exact ⟨y, hy, (joins k y).mp hj⟩
  · rw [planRec_reader hr hw, planRead_finished hr (firstUnread_none hu)]
  · have limited : isRead r = true → limit = readLimit s := fun e => hl.trans (if_pos (of_decide_eq_true e))
    have seventeen : isRead r = false → limit = 17 := fun e => hl.trans (if_neg (of_decide_eq_false e))
    rw [planRec_reader hr hw, planRead_pass hr (firstUnread_some hx hu hb) ht, planReadPass_anchor hx hu ht]
    refine ⟨fun ha hc => ?_, fun ha => by rw [if_pos ha], fun ha hone hstep => ?_⟩
    · rw [if_neg (by omega)]
      rcases hc with ⟨hk, hz⟩ | ⟨hk, hs, hf⟩
      · have read : isRead r = true := decide_eq_true hk
        rw [if_pos read, if_pos ((limited read).symm.trans hz)]
      · have step : isStep r = true := decide_eq_true hk
        have other : ¬ isRead r = true := by simp [isRead, hk]
        rw [if_neg other, if_pos ⟨step, by simp [hs, Nat.not_le.mpr hf]⟩]
    · obtain ⟨n, one, most, items, all, stop⟩ := planFrom_run (f := readWant s r) (fun _ => rfl) .read (l := r.sectors)
        (i := i) (x := x) hone (by simp [readWant, ha])
      have joins : ∀ k y, Joins (readWant s r) .read (readWant s r (i, x)).loc i k y ↔ (y.progress = .unread ∧
          throughData s (schedBay r) (r.first + (i + k)) = none) ∧ y.attempts = 0 ∧
          sectorLoc s r (i + k) = ⟨(sectorLoc s r i).track, (sectorLoc s r i).sector + k⟩ := fun k y => by
        unfold Joins
        rw [readWant_need]
        simp [readWant]
      refine ⟨n, one, most, ?_, fun k h1 hk => ?_, fun hlt y hy hj => ?_⟩
      · rw [if_neg (by omega)]
        cases read : isRead r with
        | true =>
          rw [limited read] at items hone
          have claims : (planFrom (readWant s r (i, x)) .read
              ((indexed (i + 1) (r.sectors.drop (i + 1))).map (readWant s r)) (readLimit s)).claims = decide (r.kind = .read) := by
            rw [← isRead, read]
            simp [planFrom, readWant, ha]
          rw [if_pos rfl, if_neg (by omega), ← items, ← claims]
          rfl
        | false =>
          rw [seventeen read] at items
          have ready : ¬ (isStep r = true ∧ ¬(r.started = true ∨ 17 ≤ freeCount s)) := fun ⟨step, lacks⟩ =>
            lacks (hstep (of_decide_eq_true step))
          rw [if_neg Bool.false_ne_true, if_neg ready, ← items, ← isRead, read]
          rfl
      · obtain ⟨y, hy, hj⟩ := all k h1 hk
        obtain ⟨⟨unread, none⟩, fresh, place⟩ := (joins k y).mp hj
        exact ⟨y, hy, unread, fresh, none, place⟩
      · obtain ⟨unread, fresh, none, place⟩ := hj
        exact stop hlt y hy ((joins n y).mpr ⟨⟨unread, none⟩, fresh, place⟩)
  · have read : isRead r = true := decide_eq_true hk
    have reading : isReading r = true := by simp [isReading, read]
    have bay : schedBay r = r.bay := by simp [schedBay, isStep, hk]
    rw [planRec_reader hr reading,
      planRead_through hr read (firstUnread_some hx hu hb) hx (show throughData s (schedBay r) _ = some d by rw [bay, ht])]
    refine ⟨fun hs hz => ?_, fun hs hz => ?_, fun j hs => ?_⟩ <;> rw [hs]
    · rw [if_neg (by simp), if_pos (show readLimit s = 0 from hz)]
    · rw [if_neg (by simp), if_neg (show readLimit s ≠ 0 from hz)]
    · exact if_pos rfl
  · rw [claimThrough_found hj]
    rfl
  · rfl

end Sys2Proof.Buffer
end

section
/-! What Stream Admission admits (R149 to R155), and what the start of a pass does (R77, R89, R99). -/

namespace Sys2Proof.Machine

variable {s : State}

/-! ### Admission -/

theorem admission_running {b : Bay} {x : Stream} (t n : Nat) (hx : s.stream = some x) (hb : x.bay = b) (hp : x.phase = .running) :
    admission s b t n =
      if unsent x < x.marks.low * 1024 then none
      else admittedLength n (budget (unsent x) x.line x.pace)
        (guardOf (s.schedOf b).head t (feedTrack s x) s.settings.margin) := by
  unfold admission
  rw [hx]
  dsimp only
  rw [if_pos ⟨hb, hp⟩, admitOn, ← hb]
  simp only [locked, decide_eq_true_eq]

theorem admission_free {b : Bay} (t n : Nat) (h : runningOn s b = false) : admission s b t n = some n := by
  unfold runningOn at h
  unfold admission
  cases hx : s.stream with
  | none => rfl
  | some x =>
    rw [hx, Bool.and_eq_false_imp] at h
    exact if_neg fun ⟨hb, hp⟩ => by simpa [hp] using h (decide_eq_true hb)

/-! ### Slots given to sectors -/

/-- The sectors of a record once the slots are given to them, in order (R41, R44). -/
def slotted : List Nat → List Nat → List Sector → List Sector
  | i :: is, j :: js, l => slotted is js (l.modify i fun x => { x with slot := some j })
  | _, _, l => l

theorem mapRec_id (q : Nat) (s : State) : (s.mapRec q fun r => r) = s := by
  unfold State.mapRec
  simp only [ite_self, List.map_id']
  rfl

/-- Giving slots changes the sectors of the record alone. -/
theorem assignSlots_eq (q : Nat) (is js : List Nat) (s : State) :
    assignSlots q is js s = s.mapRec q fun r => { r with sectors := slotted is js r.sectors } := by
  induction is generalizing js s with
  | nil => exact (mapRec_id q s).symm
  | cons i is ih =>
    cases js with
    | nil => exact (mapRec_id q s).symm
    | cons j js => exact (ih js _).trans (mapRec_mapRec s q _ fun _ => rfl)

theorem slotted_attempts (is js : List Nat) (l : List Sector) (i : Nat) :
    (slotted is js l)[i]?.map Sector.attempts = l[i]?.map Sector.attempts := by
  induction is generalizing js l with
  | nil => rfl
  | cons k is ih =>
    cases js with
    | nil => rfl
    | cons j js =>
      refine (ih js _).trans ?_
      rw [List.getElem?_modify]
      split <;> cases l[i]? <;> rfl

theorem slotted_other {is : List Nat} (js : List Nat) (l : List Sector) {i : Nat} (h : i ∉ is) :
    (slotted is js l)[i]? = l[i]? := by
  induction is generalizing js l with
  | nil => rfl
  | cons k is ih =>
    have ne : k ≠ i := (List.ne_of_not_mem_cons h).symm
    cases js with
    | nil => rfl
    | cons j js =>
      refine (ih js _ (List.not_mem_of_not_mem_cons h)).trans ?_
      simp [ne]

/-- Over sectors that differ each takes the slot of its own place in the list. -/
theorem slotted_at {is js : List Nat} {l : List Sector} {k i j : Nat} {x : Sector} (hn : is.Nodup) (hi : is[k]? = some i)
    (hj : js[k]? = some j) (hx : l[i]? = some x) : (slotted is js l)[i]? = some { x with slot := some j } := by
  induction is generalizing js l k with
  | nil => exact nomatch hi
  | cons m is ih =>
    obtain ⟨out, rest⟩ := List.nodup_cons.mp hn
    cases js with
    | nil => exact nomatch hj
    | cons p js =>
      cases k with
      | zero =>
        obtain rfl := Option.some.inj hi
        obtain rfl := Option.some.inj hj
        refine (slotted_other js _ out).trans ?_
        simp [hx]
      | succ k =>
        have ne : m ≠ i := fun e => out (e ▸ List.mem_of_getElem? hi)
        refine ih rest hi hj ?_
        simp [ne, hx]

/-! ### The record at its start -/

/-- What taking slots leaves of a record (R41, R44). -/
structure Reslotted (r r' : Rec) : Prop extends SameAsk r r' where
  relocations : r'.relocations = r.relocations
  attempts : ∀ i : Nat, r'.sectors[i]?.map Sector.attempts = r.sectors[i]?.map Sector.attempts

theorem Reslotted.refl (r : Rec) : Reslotted r r := ⟨.refl r, rfl, fun _ => rfl⟩

theorem Reslotted.trans {r r' r'' : Rec} (h : Reslotted r r') (h' : Reslotted r' r'') : Reslotted r r'' :=
  ⟨h.toSameAsk.trans h'.toSameAsk, h'.relocations.trans h.relocations, fun i => (h'.attempts i).trans (h.attempts i)⟩

theorem Reslotted.slotted (is js : List Nat) (r : Rec) : Reslotted r { r with sectors := slotted is js r.sectors } :=
  ⟨⟨rfl, rfl, rfl, rfl, rfl, rfl, rfl⟩, rfl, slotted_attempts is js r.sectors⟩

theorem assignSlots_rec? {q : Nat} {is js : List Nat} {r : Rec} (h : s.rec? q = some r) :
    (assignSlots q is js s).rec? q = some { r with sectors := slotted is js r.sectors } := by
  rw [assignSlots_eq, rec?_mapRec q q (fun r => (Reslotted.slotted is js r).toSameAsk), h, Option.map_some,
    if_pos (rec?_seq h)]

/-- The first start of a record takes images or slots, and neither the stream's place nor its records' runs (R77). -/
theorem firstStart_rec? {q : Nat} {r : Rec} (h : s.rec? q = some r) :
    ∃ r', (firstStart r s).rec? q = some r' ∧ Reslotted r r' := by
  have stays : ∃ r', s.rec? q = some r' ∧ Reslotted r r' := ⟨r, h, .refl r⟩
  unfold firstStart
  split
  · exact stays
  · exact stays
  · unfold takeFlushImage
    split
    · exact stays
    · exact stays
  · have claimed : (claim (.record r.seq) 17 s).1.rec? q = some r := h
    rw [rec?_seq h] at claimed ⊢
    exact ⟨_, assignSlots_rec? claimed, .slotted _ _ r⟩
  · exact stays

theorem firstStart_stream (r : Rec) : (firstStart r s).stream = s.stream := by
  unfold firstStart
  split
  · rfl
  · rfl
  · unfold takeFlushImage
    split <;> rfl
  · rw [assignSlots_eq]
    rfl
  · rfl

theorem firstStart_other {r : Rec} (hl : isLabelWriter r = false) (hs : r.kind ≠ .buildStep) : firstStart r s = s := by
  unfold firstStart
  split <;> rename_i e
  · simp [isLabelWriter, isPrepare, e] at hl
  · simp [isLabelWriter, isSetZones, e] at hl
  · simp [isLabelWriter, isFlush, e] at hl
  · exact absurd e hs
  · rfl

/-! ### The active record -/

/-- Becoming active changes records and schedulers alone. -/
theorem makeActive_frame (b : Bay) (q : Nat) (s : State) :
    makeActive b q s = { s with recs := (makeActive b q s).recs, sched := (makeActive b q s).sched } := by
  have checked : ∀ t : State, checkMode b t = { t with sched := (checkMode b t).sched } := fun t => by
    unfold checkMode
    dsimp only
    split <;> rfl
  unfold makeActive
  dsimp only
  split
  · split <;> rfl
  · split
    · rw [checked]
      rfl
    · rfl

theorem makeActive_active (b : Bay) (q : Nat) (s : State) : ((makeActive b q s).schedOf b).active = some q := by
  unfold makeActive
  dsimp only
  rw [State.mapSched_schedOf]

theorem makeActive_rec? (b : Bay) {q : Nat} {r : Rec} (h : s.rec? q = some r) :
    (makeActive b q s).rec? q = some { r with state := .active, started := true, stalled := false } := by
  have suspend : ∀ x : Rec, SameAsk x { x with state := .suspended } := fun _ => ⟨rfl, rfl, rfl, rfl, rfl, rfl, rfl⟩
  have activate : ∀ x : Rec, SameAsk x { x with state := .active, started := true, stalled := false } :=
    fun _ => ⟨rfl, rfl, rfl, rfl, rfl, rfl, rfl⟩
  have last : ∀ t : State, t.rec? q = some r →
      (t.mapRec q fun x => { x with state := .active, started := true, stalled := false }).rec? q =
        some { r with state := .active, started := true, stalled := false } := fun t ht => by
    rw [rec?_mapRec q q activate, ht, Option.map_some, if_pos (rec?_seq ht)]
  unfold makeActive
  refine last _ ?_
  split
  · rename_i a _
    split
    · exact h
    · rename_i other
      refine (rec?_mapRec (s := s) a q suspend).trans ?_
      rw [h, Option.map_some, if_neg (fun e => other ((rec?_seq h).symm.trans e).symm)]
  · split
    · exact (rec?_of_recs (checkMode_recs _ _) q).trans h
    · exact h

/-! ### The pass -/

/-- The state in which a READ has claimed for the sectors of its pass (R41); of any other record it is the state before. -/
def claimedFor (q : Nat) (p : Plan) (items : List Nat) (r : Rec) (s : State) : State :=
  if p.claims && isRead r then
    assignSlots q items (claim (.record q) items.length s).2 (claim (.record q) items.length s).1
  else s

/-- The pass in flight that a start leaves on the bay, from the state in which its record is active. -/
def passStarted (b : Bay) (q : Nat) (p : Plan) (items : List Nat) (r : Rec) (s : State) : Pass where
  owner := .record q
  action := p.action
  track := p.track
  first := p.first
  items := items
  allowed := items.map (allowedFor s b r p.relocation)
  data := if p.action = .write ∨ p.action = .verify then items.map (sourceData s r) else []
  slots := passSlots s r { p with items := items }
  relocation := p.relocation

theorem startPass_eq {b : Bay} {q n : Nat} {p : Plan} {r u : Rec} {w : State} (hr : s.rec? q = some r)
    (hw : w = makeActive b q (claimedFor q p (p.items.take n) r (if r.started = true then s else firstStart r s)))
    (hu : w.rec? q = some u) : startPass b q p n s =
      w.mapSched b fun c => { c with pass := some (passStarted b q p (p.items.take n) u w), last := .pass } := by
  have found : (w.rec? q).getD r = u := by rw [hu]; rfl
  unfold startPass
  rw [hr, ← found, hw]
  rfl

theorem claimedFor_rec? {q : Nat} {p : Plan} {items : List Nat} {r x : Rec} (h : s.rec? q = some x) :
    ∃ y, (claimedFor q p items r s).rec? q = some y ∧ Reslotted x y := by
  unfold claimedFor
  split
  · exact ⟨_, assignSlots_rec? (s := (claim (.record q) items.length s).1) h, .slotted _ _ x⟩
  · exact ⟨x, h, .refl x⟩

theorem claimedFor_mech (q : Nat) (p : Plan) (items : List Nat) (r : Rec) : (claimedFor q p items r s).mech = s.mech := by
  unfold claimedFor
  split
  · rw [assignSlots_eq]
    rfl
  · rfl

theorem claimedFor_stream (q : Nat) (p : Plan) (items : List Nat) (r : Rec) :
    (claimedFor q p items r s).stream = s.stream := by
  unfold claimedFor
  split
  · rw [assignSlots_eq]
    rfl
  · rfl

theorem claimedFor_none {q : Nat} {p : Plan} {items : List Nat} {r : Rec} (h : r.kind ≠ .read ∨ p.claims = false) :
    claimedFor q p items r s = s := by
  refine if_neg fun hc => ?_
  rw [Bool.and_eq_true, isRead, decide_eq_true_eq] at hc
  exact h.elim (fun e => e hc.2) fun e => by simp [e] at hc

theorem claimedFor_read {q : Nat} {p : Plan} {items : List Nat} {r : Rec} (hk : r.kind = .read) (hc : p.claims = true) :
    claimedFor q p items r s =
      assignSlots q items (claim (.record q) items.length s).2 (claim (.record q) items.length s).1 :=
  if_pos (by simp [hc, isRead, hk])

/-- Attempts allowed to a sector, by what its record has made (R99). -/
theorem allowedFor_eq (b : Bay) (r : Rec) (relocation : Bool) (i : Nat) : allowedFor s b r relocation i =
    if isPrepare r = true then 4
    else if runningOn s b = true then 1
    else 4 - if relocation = true then ((r.relocations.find? fun x => decide (x.index = i)).map Try.attempts).getD 0
      else (r.sectors[i]?.map Sector.attempts).getD 0 := by
  unfold allowedFor Rec.try?
  cases r.relocations.find? fun x => decide (x.index = i) <;> cases r.sectors[i]? <;> rfl

theorem allowedFor_reslotted {t : State} {r r' : Rec} (b : Bay) (relocation : Bool) (i : Nat) (h : Reslotted r r')
    (hs : t.stream = s.stream) : allowedFor t b r' relocation i = allowedFor s b r relocation i := by
  have running : runningOn t b = runningOn s b := by unfold runningOn; rw [hs]
  rw [allowedFor_eq, allowedFor_eq, h.isPrepare, running, h.relocations, h.attempts]

theorem sourceData_reslotted {r r' : Rec} (i : Nat) (h : Reslotted r r') : sourceData s r' i =
    if isLabelWriter r = true then
      ((s.mechOf r.bay).buffer.getD ((if isPrepare r then 0 else if isSetZones r then 1 else 2) + i) none).getD []
    else ((r'.sectors[i]?.bind Sector.slot).bind (slotData s)).getD [] := by
  have zones : isSetZones r' = isSetZones r := by simp only [isSetZones, h.kind]
  have writer : isLabelWriter r' = isLabelWriter r := by simp only [isLabelWriter, h.isPrepare, zones, isFlush, h.kind]
  unfold sourceData labelBase
  rw [writer, h.isPrepare, zones, h.bay]

theorem passSlots_none {r : Rec} {p : Plan} (ha : p.action = .erase) (hr : p.relocation = false) : passSlots s r p = [] := by
  unfold passSlots
  rw [ha, hr]
  rfl

theorem passSlots_some {r : Rec} {p : Plan} (h : p.action ≠ .erase ∨ p.relocation = true) :
    passSlots s r p = p.items.filterMap (readSlot s r) := by
  unfold passSlots
  split
  · rfl
  · rename_i e
    exact if_pos (h.resolve_left (not_not_intro e))
  · rfl

end Sys2Proof.Machine

namespace Sys2Proof.Buffer
open Machine

/-- Settles O38. -/
theorem admissionLaw : Obligations.AdmissionLaw := by
  refine ⟨fun b t n x s hx hb hp => ?_, fun b t n s h => admission_free t n h, fun b q n p r s v hr hv => ?_,
    fun r s => firstStart_other⟩
  · rw [admission_running t n hx hb hp]
    refine ⟨fun low => if_pos low, fun high g hg => ?_⟩
    rw [if_neg (Nat.not_lt.mpr high), ← hg, admittedLength]
    exact ⟨fun le => if_neg (Nat.not_lt.mpr le), fun lt => ⟨if_pos lt, by omega⟩⟩
  · have begun : ∃ x, v.rec? q = some x ∧ Reslotted r x := by
      rw [hv]
      split
      · exact ⟨r, hr, .refl r⟩
      · exact firstStart_rec? hr
    have streams : v.stream = s.stream := by
      rw [hv]
      split
      · rfl
      · exact firstStart_stream r
    obtain ⟨x, hx, kx⟩ := begun
    obtain ⟨y, hy, ky⟩ := claimedFor_rec? (p := p) (items := p.items.take n) (r := r) hx
    obtain ⟨u, eu⟩ : ∃ u : Rec, u = { y with state := .active, started := true, stalled := false } := ⟨_, rfl⟩
    have kept : Reslotted r u := (kx.trans ky).trans (eu ▸ ⟨⟨rfl, rfl, rfl, rfl, rfl, rfl, rfl⟩, rfl, fun _ => rfl⟩)
    obtain ⟨w, hw⟩ : ∃ w, w = makeActive b q (claimedFor q p (p.items.take n) r v) := ⟨_, rfl⟩
    have frame : w = { claimedFor q p (p.items.take n) r v with recs := w.recs, sched := w.sched } :=
      hw ▸ makeActive_frame b q _
    have hu : w.rec? q = some u := by rw [eu, hw]; exact makeActive_rec? b hy
    have active : (w.schedOf b).active = some q := hw ▸ makeActive_active b q _
    have stream : w.stream = s.stream := by rw [frame]; exact (claimedFor_stream q p _ r).trans streams
    have slots : w.slots = (claimedFor q p (p.items.take n) r v).slots := by rw [frame]
    have started := startPass_eq hr (hw.trans (by rw [hv])) hu
    have place : ((startPass b q p n s).schedOf b) =
        { w.schedOf b with pass := some (passStarted b q p (p.items.take n) u w), last := .pass } := by
      rw [started, State.mapSched_schedOf]
    refine ⟨startPass b q p n s, _, _, rfl, by rw [place], by rw [started]; exact hu, rfl, rfl, rfl, rfl, rfl, rfl,
      by rw [place]; exact active, by rw [place], by rw [eu], by rw [eu], by rw [eu], ?_, ?_, ?_, ?_, ?_, ?_, ?_, ?_⟩
    · rw [started]
      exact (congrArg State.mech frame).trans (claimedFor_mech q p _ r)
    · refine List.map_congr_left fun i _ => ?_
      rw [allowedFor_reslotted (s := s) b p.relocation i kept stream, allowedFor_eq]
    · exact fun hwrite hverify => if_neg (by simp [hwrite, hverify])
    · intro act
      refine (if_pos act).trans (List.map_congr_left fun i _ => ?_)
      rw [sourceData_reslotted i kept, started]
      rfl
    · exact fun ha hl => passSlots_none ha hl
    · intro h
      rw [started]
      exact passSlots_some (p := { p with items := p.items.take n }) h
    · intro h
      rw [started]
      exact slots.trans (by rw [claimedFor_none h])
    · intro hk hc hn _ _
      have whole : v = s := by
        rw [hv, firstStart_of_read (decide_eq_true hk), ite_self]
      subst whole
      have claimed := claimedFor_read (s := v) (q := q) (items := p.items.take n) hk hc
      have taken : (startPass b q p n v).slots = (claim (.record q) (p.items.take n).length v).1.slots := by
        rw [started]
        exact slots.trans (by rw [claimed, assignSlots_eq]; rfl)
      have sectors : y = { r with sectors := slotted (p.items.take n) ((freeIds v).take (p.items.take n).length) r.sectors } := by
        rw [claimed] at hy
        exact Option.some.inj (hy.symm.trans (assignSlots_rec? (s := (claim (.record q) (p.items.take n).length v).1) hr))
      refine ⟨fun k i j z hi hj hz => ?_, fun j hj => ?_⟩
      · have inside : k < (p.items.take n).length := (List.getElem?_eq_some_iff.mp hi).1
        have chosen : ((freeIds v).take (p.items.take n).length)[k]? = some j := by rw [List.getElem?_take_of_lt inside, hj]
        refine ⟨?_, ?_⟩
        · rw [eu, sectors]
          exact slotted_at hn hi chosen hz
        · have mem : j ∈ (claim (.record q) (p.items.take n).length v).2 := List.mem_of_getElem? chosen
          rw [taken, claim_slots, if_pos mem, claimed_free mem]
          rfl
      · rw [taken, claim_slots]
        exact if_neg hj

end Sys2Proof.Buffer
end

section
/-! The suspension of `overtaking0` once more, where the BUILD_STEP is of a whole track (R158), as the law of R60 has it. -/

namespace Sys2Proof.Machine

/-- `overtaking0` with the BUILD_STEP of a whole track (R158). -/
def overbuilding0 : State :=
  let r4 := { rec0 .read 4 1 [newSector .unread] with state := .active, started := true, level := 5 }
  let b5 := { newRec .buildStep none .B 3 102 17 (List.replicate 17 (newSector .read)) [] with seq := 5, started := true }
  let r6 := { rec0 .read 6 1 [newSector .unread] with link := some (1, 8), first := 1, level := 4 }
  { overtaking0 with recs := [r4, b5, r6] }

/-- What an UNBIND leaves of it. -/
def overbuilt0 : State := conclude (doneNow 0 0 0 (unbindMirror false (overbuilding0.withPending [])))

theorem overbuilding0_steps : step overbuilding0 = .next overbuilt0 := rfl

/-- READ 4 stands suspended while RUN_TO_END is in effect. -/
theorem overbuilt0_stack : (overbuilt0.schedOf .A).mode = .runToEnd ∧ (overbuilt0.schedOf .A).stack = [4] := by
  decide +kernel

theorem overbuilding0_stackLaw : stackLaw overbuilding0 := by
  refine ⟨⟨by decide, by decide, by decide, by decide, by decide, by decide, trivial⟩, by decide, fun b => ?_⟩
  cases b with
  | A =>
    refine ⟨fun q h => ?_, (fun q h => nomatch h), by decide, by decide, by decide⟩
    cases h
    exact ⟨_, rfl, rfl, rfl, rfl, rfl⟩
  | B => exact ⟨(fun q h => nomatch h), (fun q h => nomatch h), by decide, by decide, by decide⟩

/-- The step is the only write among the records, so none clashes with another. -/
theorem overbuilding0_startsApart : startsApart overbuilding0 := by unfold startsApart; decide

theorem overbuilding0_writeLaw : writeLaw overbuilding0 :=
  ⟨overbuilding0_stackLaw, overbuilding0_startsApart, by decide, fun _ _ _ _ h => nomatch h⟩

/-- A suspension under RUN_TO_END is against the law of the stacks (R86, R88). -/
theorem not_stackLaw_of_suspended {s : State} {b : Bay} {q : Nat} {qs : List Nat} (mode : (s.schedOf b).mode = .runToEnd)
    (stack : (s.schedOf b).stack = q :: qs) : ¬ stackLaw s := by
  rintro ⟨_, _, kept⟩
  obtain ⟨_, _, _, _, runsToEnd⟩ := kept b
  exact List.cons_ne_nil q qs (stack.symm.trans (runsToEnd mode))

end Sys2Proof.Machine

namespace Sys2Proof.Table
open Machine

/-- Refutes O30: the law does not say that a mode set waits only behind a stack. A BUILD_STEP entering its write phase
within a preemption puts RUN_TO_END in effect, and the record tried next suspends the active one. -/
theorem not_stackLawKept : ¬ Obligations.StackLawKept := fun h =>
  not_stackLaw_of_suspended overtaken0_stack.1 overtaken0_stack.2
    (h _ _ overtaking0_stackLaw (by decide) overtaking0_steps)

/-- Refutes O35, with the law of the stacks on which it rests: the same step's write phase, of a whole track. -/
theorem not_writeLawKept : ¬ Obligations.WriteLawKept := fun h =>
  not_stackLaw_of_suspended overbuilt0_stack.1 overbuilt0_stack.2
    (h _ _ overbuilding0_writeLaw (by decide) overbuilding0_steps).1

end Sys2Proof.Table
end

section
/-! The refusal of a link request by its first failing check (R55), and what a power-on leaves of the table (R73). -/

namespace Sys2Proof.Machine

variable {s : State}

/-- The code of a list of checks is that of the first that fails. -/
theorem firstCode_eq_some {cs : List (Bool × Code)} {c : Code} :
    firstCode cs = some c ↔ ∃ passed later, cs = passed ++ (true, c) :: later ∧ ∀ p ∈ passed, p.1 = false := by
  refine ⟨fun h => ?_, fun ⟨passed, later, hcs, hp⟩ => hcs ▸ firstCode_first c later hp⟩
  induction cs with
  | nil => exact nomatch h
  | cons p cs ih =>
    obtain ⟨refused, d⟩ := p
    cases refused with
    | true =>
      obtain rfl : d = c := Option.some.inj h
      exact ⟨[], cs, rfl, fun _ h => nomatch h⟩
    | false =>
      obtain ⟨passed, later, rfl, hp⟩ := ih h
      exact ⟨(false, d) :: passed, later, rfl, List.forall_mem_cons.mpr ⟨rfl, hp⟩⟩

/-- A request that its row puts to the checks at once is answered by the code it fails with. -/
theorem exec_ask_refused {i : Instr} {a : Ask} {accept : Bay → State → State} {c : Code}
    (hi : exec i s = .next (onLink s (takeAsk a accept s))) (hl : s.link.resetLine = false)
    (hc : requestCode s a = some c) : exec i s = .next (selectNext (reply a.ch a.tag (.refuse c) none s)) := by
  rw [hi, onLink_released hl, takeAsk_refused hc]
  rfl

/-- A bay holds no Defect Map right after a power-on (R35). -/
theorem powerMech_map (m : Mech) (pass : Option Pass) (c : Cut) : (powerMech m pass c).map = none := by
  unfold powerMech
  split <;> rfl

theorem powerOn_flushDeferred (cut : Two Cut) (s : State) (b : Bay) : flushDeferred (powerOn cut s) b = false := by
  have none : ((powerOn cut s).mechOf b).map = none := by cases b <;> exact powerMech_map _ _ _
  unfold flushDeferred
  rw [none]

end Sys2Proof.Machine

namespace Sys2Proof.Table
open Machine

/-- Settles O9. -/
theorem powerOnTable : Obligations.PowerOnTable := fun cut s =>
  ⟨powerOn cut s, rfl, rfl, rfl, powerOn_flushDeferred cut s .A, powerOn_flushDeferred cut s .B, rfl, fun _ _ => rfl, rfl,
    rfl⟩

/-- Settles O16. -/
theorem firstCheckRefuses : Obligations.FirstCheckRefuses :=
  ⟨fun _ _ => firstCode_eq_some, fun _ => firstCode_eq_none, fun _ _ _ => rfl, fun _ _ _ _ _ hl =>
    ⟨fun _ _ _ => exec_ask_refused rfl hl, fun _ _ _ => exec_ask_refused rfl hl,
      fun _ _ hn => exec_prepare_refused hl hn, fun _ => exec_ask_refused rfl hl, fun _ => exec_ask_refused rfl hl,
      fun _ _ => exec_ask_refused rfl hl⟩⟩

end Sys2Proof.Table
end

section
/-! The order of a bay's candidates (R83), and which records are held (R59 to R62) and eligible (R53). -/

namespace Sys2Proof.Machine

/-! ### Best first -/

theorem comesBefore_iff (x y : Rec) : comesBefore x y = true ↔
    x.level < y.level ∨ (x.level = y.level ∧
      (sourceRank x < sourceRank y ∨ (sourceRank x = sourceRank y ∧ x.seq < y.seq))) := by
  simp [comesBefore]

/-- Of two records of different numbers exactly one comes first. -/
theorem comesBefore_swap {x y : Rec} (h : x.seq ≠ y.seq) : comesBefore x y = !comesBefore y x := by
  rw [Bool.eq_iff_iff, Bool.not_eq_true', Bool.eq_false_iff, ne_eq, comesBefore_iff, comesBefore_iff]
  omega

/-- A record that does not come after a second does not come after what the second comes before. -/
theorem comesBefore_trans {x y z : Rec} (hxy : comesBefore y x = false) (hyz : comesBefore z y = false) :
    comesBefore z x = false := by
  rw [Bool.eq_false_iff, ne_eq, comesBefore_iff] at *
  omega

theorem comesBefore_asymm {x y : Rec} (h : comesBefore x y = true) : comesBefore y x = false := by
  rw [Bool.eq_false_iff, ne_eq, comesBefore_iff] at *
  omega

theorem insertBest_perm (r : Rec) (l : List Rec) : (insertBest r l).Perm (r :: l) := by
  induction l with
  | nil => exact .refl _
  | cons x xs ih =>
    unfold insertBest
    split
    · exact .refl _
    · exact (ih.cons x).trans (.swap r x xs)

/-- Best first: none comes before one that stands ahead of it. -/
def BestFirst (l : List Rec) : Prop := l.Pairwise fun x y => comesBefore y x = false

theorem insertBest_sorted (r : Rec) {l : List Rec} (h : BestFirst l) : BestFirst (insertBest r l) := by
  induction l with
  | nil => exact List.pairwise_singleton _ _
  | cons x xs ih =>
    obtain ⟨hx, hxs⟩ := List.pairwise_cons.mp h
    unfold insertBest
    split
    · rename_i first
      have ahead : comesBefore x r = false := comesBefore_asymm first
      exact List.pairwise_cons.mpr ⟨List.forall_mem_cons.mpr ⟨ahead, fun y hy => comesBefore_trans ahead (hx y hy)⟩, h⟩
    · rename_i after
      refine List.pairwise_cons.mpr ⟨fun y hy => ?_, ih hxs⟩
      rcases List.mem_cons.mp ((insertBest_perm r xs).mem_iff.mp hy) with rfl | hy
      · exact Bool.eq_false_iff.mpr after
      · exact hx y hy

theorem foldl_insertBest (rs acc : List Rec) (h : BestFirst acc) :
    (rs.foldl (fun acc r => insertBest r acc) acc).Perm (rs ++ acc) ∧
      BestFirst (rs.foldl (fun acc r => insertBest r acc) acc) := by
  induction rs generalizing acc with
  | nil => exact ⟨.refl _, h⟩
  | cons r rs ih =>
    obtain ⟨perm, sorted⟩ := ih (insertBest r acc) (insertBest_sorted r h)
    exact ⟨perm.trans (((insertBest_perm r acc).append_left rs).trans List.perm_middle), sorted⟩

theorem bestFirst_perm_sorted (rs : List Rec) : (bestFirst rs).Perm rs ∧ BestFirst (bestFirst rs) := by
  obtain ⟨perm, sorted⟩ := foldl_insertBest rs [] .nil
  exact ⟨by rwa [List.append_nil] at perm, sorted⟩

/-! ### Kinds -/

section
variable {r : Rec}

theorem isWriter_iff : isWriter r = true ↔ r.kind = .write ∨ r.kind = .mirrorCopy ∨ ∃ v, r.kind = .relocate v := by
  have variety : (∃ v, r.kind = .relocate v) ↔ r.kind = .relocate .weak ∨ r.kind = .relocate .repair :=
    ⟨fun ⟨v, h⟩ => by cases v <;> simp [h], fun h => h.elim (fun h => ⟨_, h⟩) fun h => ⟨_, h⟩⟩
  simp [isWriter, isWrite, isCopy, isRelocate, variety, or_assoc]

theorem isStep_iff : isStep r = true ↔ r.kind = .buildStep := decide_eq_true_iff

theorem isSetZones_iff : isSetZones r = true ↔ ∃ zs, r.kind = .setZones zs := by
  unfold isSetZones
  split <;> simp_all

theorem isPrepare_iff : isPrepare r = true ↔ ∃ serial name, r.kind = .prepare serial name := by
  unfold isPrepare
  split <;> simp_all

theorem unfinished_iff : unfinished r = true ↔ r.state ≠ .ending := decide_eq_true_iff

theorem overlapsExtent_iff {f n : Nat} : overlapsExtent r f n = true ↔ r.first < f + n ∧ f < r.first + r.count := by
  simp [overlapsExtent]

theorem sourceRank_relocate {v : Variety} (h : r.kind = .relocate v) : sourceRank r = 0 := by
  have relocates : isRelocate r = true := by cases v <;> simp [isRelocate, h]
  rw [sourceRank, if_pos relocates]

theorem sourceRank_flush (h : r.kind = .mapFlush) : sourceRank r = 1 := by simp [sourceRank, isRelocate, isFlush, h]

theorem sourceRank_mirror (hl : r.link = none)
    (h : r.kind = .mirrorCopy ∨ r.kind = .buildStep ∨ r.kind = .fallbackRead) : sourceRank r = 2 := by
  rcases h with h | h | h <;> simp [sourceRank, isRelocate, isFlush, isLink, h, hl]

theorem sourceRank_link (hl : r.link ≠ none) (hr : ∀ v : Variety, r.kind ≠ .relocate v) (hf : r.kind ≠ .mapFlush) :
    sourceRank r = 3 := by
  simp [sourceRank, isRelocate, isFlush, isLink, hr, hf, Option.isSome_iff_ne_none.mpr hl]

theorem schedBay_reads (hk : r.kind = .buildStep) (hp : r.writePhase = false) : schedBay r = r.bay.other := by
  simp [schedBay, isStep, hk, hp]

theorem schedBay_own (h : r.kind ≠ .buildStep ∨ r.writePhase = true) : schedBay r = r.bay := by
  rcases h with h | h <;> simp [schedBay, isStep, h]

end

/-! ### Holds -/

section
variable {s : State} {r : Rec}

theorem stepOver_iff {f n : Nat} : stepOver s f n = true ↔ ∃ o ∈ s.recs, o.kind = .buildStep ∧ o.started = true ∧
    o.state ≠ .ending ∧ o.first < f + n ∧ f < o.first + o.count := by
  simp [stepOver, stepRunning, isStep_iff, unfinished_iff, overlapsExtent_iff, and_assoc]

theorem olderOn_iff {p : Rec → Bool} : olderOn s r p = true ↔
    ∃ o ∈ s.recs, p o = true ∧ o.state ≠ .ending ∧ o.bay = r.bay ∧ o.seq < r.seq := by
  simp [olderOn, unfinished_iff, and_assoc]

theorem isHeld_writer (h : isWriter r = true) : isHeld s r =
    (olderOn s r (fun o => isWriter o && overlapsExtent o r.first r.count) || stepOver s r.first r.count) := if_pos h

theorem not_writer_of_kind (h : ¬(r.kind = .write ∨ r.kind = .mirrorCopy ∨ ∃ v, r.kind = .relocate v)) :
    isWriter r = false := Bool.eq_false_iff.mpr fun hw => h (isWriter_iff.mp hw)

theorem isHeld_step (h : r.kind = .buildStep) : isHeld s r = (!r.started &&
    (s.recs.any (fun o => isWriter o && unfinished o && overlapsExtent o r.first r.count) ||
      s.recs.any (fun o => isStep o && unfinished o && decide (o.first = r.first) && decide (o.seq < r.seq)))) := by
  unfold isHeld
  rw [if_neg (by simp [not_writer_of_kind, h]), if_pos (isStep_iff.mpr h)]

theorem isHeld_reader (h : r.kind = .read ∨ r.kind = .fallbackRead) :
    isHeld s r = (awaitsData s r || stepOver s r.first r.count) := by
  unfold isHeld
  rcases h with h | h <;> simp [not_writer_of_kind, isStep, isRead, isFallback, h]

theorem isHeld_setZones (h : isSetZones r = true) : isHeld s r = olderOn s r isSetZones := by
  obtain ⟨zs, hk⟩ := isSetZones_iff.mp h
  unfold isHeld
  simp [not_writer_of_kind, isStep, isRead, isFallback, hk, h]

theorem isHeld_flush (h : isFlush r = true) : isHeld s r = olderOn s r isFlush := by
  have hk : r.kind = .mapFlush := of_decide_eq_true h
  unfold isHeld
  simp [not_writer_of_kind, isStep, isRead, isFallback, isSetZones, hk, h]

/-- A PREPARE and an EJECT are never held. -/
theorem isHeld_other (h : isPrepare r = true ∨ isEject r = true) : isHeld s r = false := by
  rw [isPrepare_iff, isEject_iff] at h
  unfold isHeld
  rcases h with ⟨_, _, hk⟩ | hk | hk <;>
    simp [not_writer_of_kind, isStep, isRead, isFallback, isSetZones, isFlush, hk]

/-! ### The newest writer -/

theorem foldl_newerOf_some (l : List Rec) (w : Rec) :
    ∃ x ∈ w :: l, l.foldl newerOf (some w) = some x ∧ ∀ o ∈ w :: l, o.seq ≤ x.seq := by
  induction l generalizing w with
  | nil => exact ⟨w, by simp⟩
  | cons y ys ih =>
    have step : newerOf (some w) y = some (if w.seq < y.seq then y else w) := by
      simp only [newerOf]
      split <;> rfl
    obtain ⟨x, hx, hfold, hmax⟩ := ih (if w.seq < y.seq then y else w)
    have newest := hmax _ List.mem_cons_self
    refine ⟨x, ?_, by rw [List.foldl_cons, step, hfold], ?_⟩
    · rcases List.mem_cons.mp hx with rfl | hx
      · split <;> simp
      · simp [hx]
    · simp only [List.forall_mem_cons] at hmax ⊢
      refine ⟨?_, ?_, hmax.2⟩ <;> split at newest <;> omega

theorem mem_writersOver {b : Bay} {n : Nat} {o : Rec} :
    o ∈ (s.recs.filter fun r => isWriter r && unfinished r && decide (r.bay = b) && covers r n) ↔
      o ∈ s.recs ∧ isWriter o = true ∧ o.state ≠ .ending ∧ o.bay = b ∧ covers o n = true := by
  simp [unfinished_iff, and_assoc]

theorem newestWriter_none {b : Bay} {n : Nat} : newestWriter s b n = none ↔
    ∀ o ∈ s.recs, ¬(isWriter o = true ∧ o.state ≠ .ending ∧ o.bay = b ∧ covers o n = true) := by
  have members := fun o => mem_writersOver (s := s) (b := b) (n := n) (o := o)
  unfold newestWriter
  cases hl : s.recs.filter _ with
  | nil =>
    rw [hl] at members
    exact iff_of_true rfl fun o ho hw => nomatch (members o).mpr ⟨ho, hw⟩
  | cons w ws =>
    rw [hl] at members
    obtain ⟨x, -, hfold, -⟩ := foldl_newerOf_some ws w
    obtain ⟨hw, hover⟩ := (members w).mp List.mem_cons_self
    refine iff_of_false (fun h => ?_) (fun h => h w hw hover)
    exact Option.some_ne_none x (hfold.symm.trans h)

theorem newestWriter_some {b : Bay} {n : Nat} {w : Rec} (h : newestWriter s b n = some w) :
    w ∈ s.recs ∧ isWriter w = true ∧ w.state ≠ .ending ∧ w.bay = b ∧ covers w n = true ∧
      ∀ o ∈ s.recs, isWriter o = true → o.state ≠ .ending → o.bay = b → covers o n = true → o.seq ≤ w.seq := by
  have members := fun o => mem_writersOver (s := s) (b := b) (n := n) (o := o)
  unfold newestWriter at h
  cases hl : s.recs.filter _ with
  | nil => rw [hl] at h; exact nomatch h
  | cons v vs =>
    rw [hl] at h members
    obtain ⟨x, hx, hfold, hmax⟩ := foldl_newerOf_some vs v
    obtain rfl : x = w := Option.some.inj (hfold.symm.trans h)
    obtain ⟨mem, writer, live, bay, covered⟩ := (members x).mp hx
    exact ⟨mem, writer, live, bay, covered, fun o ho hw hs hb hc => hmax o ((members o).mpr ⟨ho, hw, hs, hb, hc⟩)⟩

/-- Some UNREAD sector of a reader waits for its newest writer's data (R61). -/
theorem awaitsData_iff : awaitsData s r = true ↔ ∃ (i : Nat) (x : Sector) (w : Rec), i < r.count ∧
    r.sectors[i]? = some x ∧ x.progress = .unread ∧ newestWriter s r.bay (r.first + i) = some w ∧
      writerData s w (r.first + i) = none := by
  have waits : ∀ n, awaitsWriter s r.bay n = true ↔ ∃ w, newestWriter s r.bay n = some w ∧ writerData s w n = none :=
    fun n => by
      unfold awaitsWriter
      cases newestWriter s r.bay n <;> simp
  simp only [awaitsData, List.any_eq_true, List.mem_range, Bool.and_eq_true, waits]
  refine exists_congr fun i => ?_
  cases r.sectors[i]? <;> simp

/-! ### Eligibility -/

/-- The bay can start the record's passes (R19): at speed, READY or EJECTING, or for a PREPARE of its own the two states without
a label. -/
theorem canStartRec_iff : canStartRec s r = true ↔ (s.mechOf (schedBay r)).spindle = .turning ∧
    ((s.mechOf (schedBay r)).mode = .ready ∨
      (∃ (k : EjectKind) (f : Former), (s.mechOf (schedBay r)).mode = .ejecting k f) ∨
      (isPrepare r = true ∧ ((s.mechOf (schedBay r)).mode = .unlabelled ∨ (s.mechOf (schedBay r)).mode = .damaged) ∧
        ∃ o ∈ s.recs, isPrepare o = true ∧ o.bay = schedBay r)) := by
  have prepares : prepareOn s (schedBay r) = true ↔ ∃ o ∈ s.recs, isPrepare o = true ∧ o.bay = schedBay r := by
    simp [prepareOn]
  simp only [canStartRec, canStart, Bool.and_eq_true, Bool.or_eq_true, decide_eq_true_eq, isEjecting_iff, prepares]
  generalize (∃ o ∈ s.recs, isPrepare o = true ∧ o.bay = schedBay r) = present
  generalize (∃ k f, (s.mechOf (schedBay r)).mode = .ejecting k f) = ejects
  tauto

end

end Sys2Proof.Machine

namespace Sys2Proof.Table
open Machine

/-- Settles O50: the order is that of three keys, insertion sorts by it, and each kind has its own hold. -/
theorem candidateOrder : Obligations.CandidateOrder := by
  refine ⟨comesBefore_iff, fun _ _ => comesBefore_swap, fun r => ⟨fun _ => sourceRank_relocate, sourceRank_flush,
    sourceRank_mirror, sourceRank_link⟩, fun s b bound => ⟨_, rfl, bestFirst_perm_sorted _⟩,
    fun r => ⟨schedBay_reads, schedBay_own⟩, fun s r => ?_, fun s r hw => ?_, fun s r hk => ?_, fun s r hk => ?_,
    fun s b n => ⟨newestWriter_none, fun _ => newestWriter_some⟩, fun s r => ⟨fun h => ?_, fun h => ?_, isHeld_other⟩⟩
  · rw [eligible_iff, canStartRec_iff]
  · rw [isHeld_writer hw, Bool.or_eq_true, olderOn_iff, stepOver_iff]
    refine or_congr_left (exists_congr fun o => and_congr_right fun _ => ?_)
    rw [Bool.and_eq_true, overlapsExtent_iff]
    tauto
  · rw [isHeld_step hk]
    refine ⟨fun hs => by rw [hs]; rfl, fun hs => ?_⟩
    simp [hs, unfinished_iff, overlapsExtent_iff, isStep_iff, and_assoc]
  · rw [isHeld_reader hk, Bool.or_eq_true, awaitsData_iff, stepOver_iff]
  · rw [isHeld_setZones h, olderOn_iff]
  · rw [isHeld_flush h, olderOn_iff]

end Sys2Proof.Table
end

section
/-! The SECTOR frames that a link READ queues (R69, R103). -/

namespace Sys2Proof.Machine

/-- The frame of a settled sector of a read (R103), with its index. -/
def sectorFrame (r : Rec) (s : State) (p : Sector × Nat) : Reply :=
  ⟨(r.link.getD (0, 0)).1, (r.link.getD (0, 0)).2,
    .sector p.2
      (if p.1.progress = .read then .data else if p.1.cause = some .blank then .blank else .unreadable)
      (if p.1.progress = .read then (p.1.slot.bind (slotData s)).getD [] else []),
    some r.seq⟩

/-- What a settled sector adds to its read's failure list (R69). -/
def failureAt (p : Sector × Nat) : Option (Nat × Cause) :=
  if p.1.progress = .read then none else some (p.2, p.1.cause.getD .unreadable)

/-- The state in which a read has queued the frames of these sectors, numbered from `i` on. -/
def withFrames (r : Rec) (i : Nat) (l : List Sector) (s : State) : State :=
  { s with
    link := { s.link with replies := s.link.replies ++ (l.zipIdx i).map (sectorFrame r s) }
    recs := s.recs.map fun y => if y.seq = r.seq then
      { y with queued := i + l.length, failures := y.failures ++ (l.zipIdx i).filterMap failureAt } else y }

/-- The sectors whose frames can be queued: those READ or FAILED before the first that is neither (R103). -/
def settledPrefix (l : List Sector) : List Sector :=
  l.takeWhile fun x => decide (x.progress = .read) || decide (x.progress = .failed)

variable {r : Rec} {s : State}

/-- One sector's frame. -/
theorem queueOne_eq (i : Nat) (x : Sector) : queueOne r i x s = withFrames r i [x] s := by
  by_cases read : x.progress = .read
  · simp [queueOne, withFrames, sectorFrame, failureAt, read, reply, State.mapRec, State.mapLink, State.withRecs]
  · have blank : x.cause.getD .unreadable = .blank ↔ x.cause = some .blank := by cases x.cause <;> simp
    simp [queueOne, withFrames, sectorFrame, failureAt, read, blank, reply, State.mapRec, State.mapLink, State.withRecs]

/-- One sector's frame, and then those of the sectors after it. -/
theorem withFrames_cons (i : Nat) (x : Sector) (l : List Sector) :
    withFrames r (i + 1) l (withFrames r i [x] s) = withFrames r i (x :: l) s := by
  have count : i + 1 + l.length = i + (l.length + 1) := by omega
  unfold withFrames
  simp only [List.zipIdx_cons, List.zipIdx_nil, List.map_cons, List.map_nil, List.append_assoc, List.singleton_append,
    List.map_map, List.length_cons, count]
  congr 1
  refine List.map_congr_left fun y _ => ?_
  by_cases hy : y.seq = r.seq
  · cases hf : failureAt (x, i) <;> simp [hy, hf]
  · simp [hy]

theorem queueFrom_eq (xs : List Sector) (i : Nat) (s : State) :
    queueFrom r i xs s = if settledPrefix xs = [] then s else withFrames r i (settledPrefix xs) s := by
  induction xs generalizing i s with
  | nil => rfl
  | cons x xs ih =>
    unfold queueFrom
    by_cases settled : x.progress = .read ∨ x.progress = .failed
    · have first : settledPrefix (x :: xs) = x :: settledPrefix xs :=
        List.takeWhile_cons_of_pos (by simpa using settled)
      rw [if_pos settled, ih, queueOne_eq, first, if_neg (List.cons_ne_nil _ _)]
      split
      · rename_i none
        rw [none]
      · exact withFrames_cons i x _
    · have first : settledPrefix (x :: xs) = [] := List.takeWhile_cons_of_neg (by simpa using settled)
      rw [if_neg settled, first, if_pos rfl]

theorem queueFrames_of_other {q : Nat} (hr : s.rec? q = some r) (hk : r.kind ≠ .read) : queueFrames q s = s := by
  unfold queueFrames
  rw [hr]
  exact if_neg (by simp [isRead, hk])

theorem queueFrames_read {q : Nat} (hr : s.rec? q = some r) (hk : r.kind = .read) :
    queueFrames q s = queueFrom r r.queued (r.sectors.drop r.queued) s := by
  unfold queueFrames
  rw [hr]
  exact if_pos (by simp [isRead, hk])

end Sys2Proof.Machine

namespace Sys2Proof.Table
open Machine

/-- Settles O53. -/
theorem framesQueued : Obligations.FramesQueued := by
  rintro q ch tag r s l hr
  refine ⟨queueFrames_of_other hr, fun hk hlink hl => ?_⟩
  obtain rfl : r.seq = q := rec?_seq hr
  obtain rfl : l = settledPrefix (r.sectors.drop r.queued) := hl
  rw [queueFrames_read hr hk, queueFrom_eq]
  refine ⟨fun none => if_pos none, fun some => (if_neg some).trans ?_⟩
  unfold withFrames sectorFrame
  rw [hlink]
  rfl

end Sys2Proof.Table
end

section
/-! How a sector is moved to a spare (R107, R113 to R116), and the warning of exhaustion (R124). -/

namespace Sys2Proof.Machine

variable {s : State} {b : Bay} {q i : Nat} {r : Rec} {t : Try} {m : DefectMap}

/-- A change of a Defect Map that the bay holds. -/
theorem mapMap_of_map (f : DefectMap → DefectMap) (h : (s.mechOf b).map = some m) :
    s.mapMap b f = s.mapMech b fun k => { k with map := some (f m) } :=
  mapMech_congr (by rw [h]; rfl)

/-- The refusals of R113. -/
theorem wouldRefuse_iff {n tried : Nat} : wouldRefuse m n tried = true ↔
    3 ≤ tried ∨ 1088 ≤ m.cursor ∨ (512 ≤ m.entries.length ∧ ∀ e ∈ m.entries, e.1 ≠ n) := by
  rw [← hasEntry_eq_false, wouldRefuse, Bool.or_eq_true, Bool.or_eq_true, Bool.and_eq_true, decide_eq_true_iff, decide_eq_true_iff,
    decide_eq_true_iff, Bool.not_eq_true', or_assoc]
  exact Iff.rfl

/-! ### A spare asked for -/

section
variable (hr : s.rec? q = some r) (ht : r.try? i = some t) (he : r.endCause = none) (hm : (s.mechOf r.bay).map = some m)
include hr ht he hm

theorem assignSpare_refused (h : wouldRefuse m (r.first + i) t.tried = true) : assignSpare q i s = noSpare q i s := by
  unfold assignSpare
  simp [hr, ht, he, hm, h]

/-- The spare at the cursor becomes the try's (R113). -/
theorem assignSpare_assigned (h : wouldRefuse m (r.first + i) t.tried = false) :
    assignSpare q i s = spareLowTest r.bay (State.mapMech
      (s.mapRec q (Rec.mapTry · i fun u =>
        { u with tried := u.tried + 1, spare := some m.cursor, progress := .pending, attempts := 0 }))
      r.bay fun k => { k with map := some { m with cursor := m.cursor + 1, dirty := true } }) := by
  unfold assignSpare
  simp only [hr, ht, he, hm, h, Option.isSome_none, Bool.false_eq_true, if_false, mapMap_of_map _ hm]
  rfl

end

/-! ### NO_SPARE, and the move recorded -/

section
variable (hr : s.rec? q = some r)
include hr

/-- What NO_SPARE makes of the record itself (R116). -/
theorem noSpare_eq : noSpare q i s =
    let t := s.mapRec q fun x =>
      { ((x.dropTry i).mapSector i fun y => { y with progress := .failed, attempts := 0, cause := some .noSpare }) with
        failures := x.failures ++ [(i, .noSpare)] }
    if isCopy r then degrade .copyFailed (flagRecord q setDegraded t) else t := by
  unfold noSpare
  rw [hr]

variable (hm : (s.mechOf r.bay).map = some m)
include hm

/-- A full map has no room for an entry of one sector more (R115). -/
theorem recordMove_full {x : Nat} (hl : 512 ≤ m.entries.length) (hn : ∀ e ∈ m.entries, e.1 ≠ r.first + i) :
    recordMove q i x s = noSpare q i s := by
  unfold recordMove
  simp only [hr, hm]
  exact if_pos ⟨hl, (hasEntry_eq_false m _).mpr hn⟩

theorem recordMove_recorded {x : Nat} (h : m.entries.length < 512 ∨ ∃ e ∈ m.entries, e.1 = r.first + i) :
    recordMove q i x s = spareLowTest r.bay (flagRecord q setRelocated (State.mapMech
      (s.mapRec q fun y => (y.dropTry i).mapSector i fun z => { z with progress := .done, attempts := 0 })
      r.bay fun k => { k with map := some { m with entries := putEntry (r.first + i) x m.entries, dirty := true } })) := by
  have room : ¬(Config.maxEntries ≤ m.entries.length ∧ hasEntry m (r.first + i) = false) := by
    rintro ⟨full, absent⟩
    rcases h with short | ⟨e, he, hn⟩
    · exact Nat.not_lt.mpr full short
    · exact (hasEntry_eq_false m _).mp absent e he hn
  unfold recordMove
  simp only [hr, hm, if_neg room, mapMap_of_map _ hm]
  rfl

end

/-- The entries of a map after one is put: it, and those of the other sectors (R115). -/
theorem mem_putEntry_iff {n x : Nat} {es : List (Nat × Nat)} (h : ascending es = true) (e : Nat × Nat) :
    e ∈ putEntry n x es ↔ e = (n, x) ∨ (e ∈ es ∧ e.1 ≠ n) := by
  induction es with
  | nil => simp [putEntry]
  | cons a l ih =>
    obtain ⟨least, rest⟩ := ascending_cons.mp h
    have above : ∀ {k}, k ≤ a.1 → ∀ f ∈ l, f.1 ≠ k := fun hk f hf => by
      have := least f hf
      omega
    have others : ∀ {k}, k ≤ a.1 → (e ∈ l ∧ e.1 ≠ k ↔ e ∈ l) := fun hk => and_iff_left_of_imp (above hk e)
    unfold putEntry
    split
    case isTrue hn =>
      have first : e = a → e.1 ≠ n := by rintro rfl; omega
      rw [List.mem_cons, List.mem_cons, or_and_right, and_iff_left_of_imp first, others (Nat.le_of_lt hn)]
    case isFalse hn =>
      split
      case isTrue ha =>
        have gone : ¬(e = a ∧ e.1 ≠ n) := by rintro ⟨rfl, ne⟩; exact ne ha.symm
        rw [List.mem_cons, List.mem_cons, or_and_right, or_iff_right gone, others (Nat.le_of_eq ha)]
      case isFalse ha =>
        have first : e = a → e.1 ≠ n := by rintro rfl; omega
        rw [List.mem_cons, ih rest, List.mem_cons, or_and_right, and_iff_left_of_imp first]
        exact or_left_comm

/-! ### Flags -/

theorem flagRecord_of_other {f : Flags → Flags} (hr : s.rec? q = some r) (hk : r.kind ≠ .mirrorCopy) :
    flagRecord q f s = s.mapRec q (Rec.flag · f) := by
  unfold flagRecord
  rw [hr]
  exact if_neg (by simp [isCopy, hk])

/-- A copy's flag is its write's too (R70). -/
theorem flagRecord_of_copy {f : Flags → Flags} {w : Nat} (hr : s.rec? q = some r) (hk : r.kind = .mirrorCopy)
    (hw : r.partners = [w]) (hne : w ≠ q) :
    flagRecord q f s = { s with recs := s.recs.map fun y => if y.seq = q ∨ y.seq = w then { y with flags := f y.flags } else y } := by
  have both : flagRecord q f s = (s.mapRec q (Rec.flag · f)).mapRec w (Rec.flag · f) := by
    unfold flagRecord
    rw [hr]
    exact (if_pos (by simp [isCopy, hk])).trans (by rw [hw]; rfl)
  refine both.trans (congrArg s.withRecs ?_)
  rw [State.mapRec, State.withRecs_recs, List.map_map]
  refine List.map_congr_left fun y _ => ?_
  by_cases hq : y.seq = q
  · have other : y.seq ≠ w := fun h => hne (h.symm.trans hq)
    simp [hq, Rec.flag, hne.symm]
  · simp [hq, Rec.flag]

/-! ### The VERIFY on the spare -/

section
variable (hr : s.rec? q = some r) (ht : r.try? i = some t) {found : Found} {bytes : Data}
include hr ht

theorem settleTryVerify_matched (hv : verdictOf found bytes = .matched) : settleTryVerify q i found bytes s =
    recordMove q i (t.spare.getD 0) (noteTries q (t.attempts + foundTries found) s) := by
  unfold settleTryVerify
  simp only [hr, ht, hv]

/-- Other bytes, BLANK, and 4 failed attempts in all each ask for the next spare (R114). -/
theorem settleTryVerify_next (hv : verdictOf found bytes = .mismatched ∨ verdictOf found bytes = .blank ∨
    (verdictOf found bytes = .failed ∧ 4 ≤ t.attempts + foundTries found)) : settleTryVerify q i found bytes s =
      assignSpare q i (noteTries q (t.attempts + foundTries found) s) := by
  unfold settleTryVerify
  rcases hv with hv | hv | ⟨hv, hn⟩
  · simp only [hr, ht, hv]
  · simp only [hr, ht, hv]
  · simp only [hr, ht, hv, if_pos hn]

theorem settleTryVerify_retries (hv : verdictOf found bytes = .failed) (hn : t.attempts + foundTries found < 4) :
    settleTryVerify q i found bytes s = (noteTries q (t.attempts + foundTries found) s).mapRec q
      (Rec.mapTry · i fun y => { y with attempts := t.attempts + foundTries found }) := by
  unfold settleTryVerify
  simp only [hr, ht, hv, if_neg (Nat.not_le.mpr hn)]

end

/-! ### The warning of exhaustion -/

theorem spareLowTest_low (hm : (s.mechOf b).map = some m) (h : 1088 - m.cursor < 32 ∨ 480 ≤ m.entries.length) :
    spareLowTest b s = raise b (.spareLow (1088 - m.cursor) m.entries.length) s := by
  unfold spareLowTest
  rw [hm]
  exact if_pos h

theorem spareLowTest_ample (hm : (s.mechOf b).map = some m) (hc : 32 ≤ 1088 - m.cursor) (hl : m.entries.length < 480) :
    spareLowTest b s = s := by
  unfold spareLowTest
  rw [hm]
  exact if_neg (not_or.mpr ⟨Nat.not_lt.mpr hc, Nat.not_le.mpr hl⟩)

end Sys2Proof.Machine

namespace Sys2Proof.Table
open Machine

/-- Settles O54, operation by operation. -/
theorem sparesAssigned : Obligations.SparesAssigned := by
  refine ⟨fun q i r t s hr ht => ⟨fun he => assignSpare_ended hr (Option.isSome_iff_ne_none.mpr he),
      fun m he hm => ⟨fun h => ?_, fun hn hc hl => ?_⟩⟩,
    fun _ _ _ => rfl, fun q i r s t hr ht => ⟨fun hk => ?_, fun hk => ?_⟩,
    fun q i x r m s t hr hm ht => ⟨recordMove_full hr hm, fun h => ht ▸ recordMove_recorded hr hm h⟩,
    fun n x es h => ⟨ascending_putEntry n x h, mem_putEntry_iff h⟩,
    fun q f r s hr => ⟨flagRecord_of_other hr, fun _ => flagRecord_of_copy hr⟩,
    fun q i n bytes r t s hr ht => ?_, fun q n s => ⟨fun h => if_neg (Nat.not_lt.mpr h), noteTries_many⟩,
    fun b m s hm => ⟨spareLowTest_low hm, spareLowTest_ample hm⟩⟩
  · exact assignSpare_refused hr ht he hm (wouldRefuse_iff.mpr h)
  · refine assignSpare_assigned hr ht he hm (Bool.eq_false_iff.mpr fun refused => ?_)
    rcases wouldRefuse_iff.mp refused with three | last | ⟨full, absent⟩
    · omega
    · omega
    · rcases hl with short | ⟨e, mem, here⟩
      · omega
      · exact absent e mem here
  · rw [noSpare_eq hr, ht]
    exact if_neg (by simp [isCopy, hk])
  · rw [noSpare_eq hr, ht]
    exact if_pos (by simp [isCopy, hk])
  · refine ⟨fun x hx => ?_, fun d hd => settleTryVerify_next hr ht (.inl (if_neg hd)),
      settleTryVerify_next hr ht (.inr (.inl rfl)), fun hn => settleTryVerify_next hr ht (.inr (.inr ⟨rfl, hn⟩)),
      settleTryVerify_retries hr ht (found := .failed n) (bytes := bytes) rfl⟩
    have recorded := settleTryVerify_matched hr ht (found := .data bytes n) (if_pos rfl)
    rwa [hx] at recorded

end Sys2Proof.Table
end

section
/-! When the feed is eligible (R133), what it takes by read-through, and the run of its pass (R134). -/

namespace Sys2Proof.Machine

variable {s : State} {t : Stream} {x : Band}

/-! ### The feed band and its eligibility -/

theorem feedBand_iff : feedBand t = some x ↔ ∃ xs ys : List Band, t.bands = xs ++ x :: ys ∧ x.fetched < sectorCount x ∧
    ∀ y ∈ xs, sectorCount y ≤ y.fetched := by
  simp only [feedBand, List.find?_eq_some_iff_append, decide_eq_true_eq, Bool.not_eq_true', decide_eq_false_iff_not, not_lt]
  exact ⟨fun ⟨hx, xs, ys, hl, hxs⟩ => ⟨xs, ys, hl, hx, hxs⟩, fun ⟨xs, ys, hl, hx, hxs⟩ => ⟨hx, xs, ys, hl, hxs⟩⟩

/-- The holds of R133: a writer that lacks its data, or a build step that writes to the stream's bay. -/
theorem feedHeld_eq_false {n : Nat} : feedHeld s t n = false ↔
    (∀ w : Rec, newestWriter s t.bay n = some w → writerData s w n ≠ none) ∧
      ∀ o ∈ s.recs, o.kind = .buildStep → o.started = true → o.state ≠ .ending → o.bay = t.bay →
        ¬(o.first ≤ n ∧ n < o.first + o.count) := by
  have waits : awaitsWriter s t.bay n = false ↔ ∀ w, newestWriter s t.bay n = some w → writerData s w n ≠ none := by
    unfold awaitsWriter
    cases newestWriter s t.bay n <;> simp [Option.isSome_iff_ne_none]
  rw [feedHeld, Bool.or_eq_false_iff, waits]
  simp [stepRunning, isStep_iff, unfinished_iff, covers, and_imp]

theorem feedEligible_iff (ht : s.stream = some t) : feedEligible s = true ↔ (t.phase = .priming ∨ t.phase = .running) ∧
    ∃ x : Band, feedBand t = some x ∧ unsent t < t.marks.high * 1024 ∧ bandBytes x x.fetched ≤ freeSpace t ∧
      feedInFlight s t.bay = false ∧ feedHeld s t (x.first + x.fetched) = false := by
  unfold feedEligible
  simp only [ht]
  cases feedBand t <;> simp [and_assoc]

/-! ### Read-through -/

section
variable (ht : s.stream = some t) (hx : feedBand t = some x)
include ht hx

theorem feedThrough_takes (n : Nat) {d : Data} (he : feedEligible s = true)
    (hd : throughData s t.bay (x.first + x.fetched) = some d) :
    feedThrough (n + 1) s = feedThrough n (armingTest (primingTest
      { s with stream := some (enterSector x.number (d.take (bandBytes x x.fetched)) false t) })) := by
  rw [feedThrough]
  simp only [he, if_true, ht, hx, hd, feedThroughOne, State.mapStream, Option.map_some]
  rfl

theorem feedThrough_stops (n : Nat) (h : feedEligible s = false ∨ throughData s t.bay (x.first + x.fetched) = none) :
    feedThrough n s = s := by
  cases n with
  | zero => rfl
  | succ n =>
    rw [feedThrough]
    rcases h with h | h
    · simp [h]
    · simp [ht, hx, h]

end

/-! ### The run of a pass -/

/-- Band bytes of `n` sectors of a band from sector `k` on. -/
def bytesFrom (x : Band) (k n : Nat) : Nat := ((List.range n).map fun j => bandBytes x (k + j)).sum

theorem bytesFrom_succ (x : Band) (k n : Nat) : bytesFrom x k (n + 1) = bandBytes x k + bytesFrom x (k + 1) n := by
  simp [bytesFrom, List.range_succ_eq_map, Function.comp_def, Nat.add_assoc, Nat.add_comm 1]

/-- The sector of the band is the next of a run: at the place where the head comes to, and in no writer's slot. -/
def Runs (s : State) (t : Stream) (x : Band) (k track position : Nat) : Prop :=
  translate s t.bay (x.first + k) = ⟨track, position⟩ ∧ throughData s t.bay (x.first + k) = none

/-- The longest run of at most `fuel` sectors from `k` on, within the room (R134). -/
structure LongestRun (s : State) (t : Stream) (x : Band) (track fuel k position room n : Nat) : Prop where
  atMost : n ≤ fuel
  inBand : k + n ≤ sectorCount x
  fits : bytesFrom x k n ≤ room
  runs : ∀ j, j < n → Runs s t x (k + j) track (position + j)
  longest : n < fuel → k + n < sectorCount x → Runs s t x (k + n) track (position + n) → room < bytesFrom x k (n + 1)

/-- A run of one sector and that after it. -/
theorem LongestRun.cons {track fuel k position room n : Nat} (first : Runs s t x k track position)
    (fits : bandBytes x k ≤ room)
    (h : LongestRun s t x track fuel (k + 1) (position + 1) (room - bandBytes x k) n) :
    LongestRun s t x track (fuel + 1) k position room (n + 1) where
  atMost := Nat.succ_le_succ h.atMost
  inBand := by have := h.inBand; omega
  fits := by
    have := h.fits
    rw [bytesFrom_succ]
    omega
  runs
    | 0, _ => first
    | j + 1, hj => by
      have next := h.runs j (Nat.lt_of_succ_lt_succ hj)
      rwa [Nat.add_right_comm k 1 j, Nat.add_right_comm position 1 j] at next
  longest hn hk hr := by
    have all := h.longest (Nat.lt_of_succ_lt_succ hn) (by omega)
      (by rwa [Nat.add_right_comm k 1 n, Nat.add_right_comm position 1 n])
    rw [bytesFrom_succ]
    omega

/-- The feed's run is the longest (R134). -/
theorem feedRun_longest (track : Nat) (fuel k position room : Nat) (hk : k ≤ sectorCount x) :
    ∃ n, feedRun s t x track fuel k position room = (List.range n).map (k + ·) ∧
      LongestRun s t x track fuel k position room n := by
  induction fuel generalizing k position room with
  | zero => exact ⟨0, rfl, Nat.le_refl 0, hk, Nat.zero_le _, (fun _ h => nomatch h), fun h => nomatch h⟩
  | succ fuel ih =>
    rw [feedRun]
    split
    case isTrue h =>
      obtain ⟨inBand, onTrack, atSector, fits, unwritten⟩ := h
      obtain ⟨n, items, run⟩ := ih (k + 1) (position + 1) (room - bandBytes x k) inBand
      have here : Runs s t x k track position := by
        refine ⟨?_, Option.isNone_iff_eq_none.mp unwritten⟩
        rw [← onTrack, ← atSector]
      refine ⟨n + 1, ?_, run.cons here fits⟩
      rw [items, List.range_succ_eq_map]
      simp [Function.comp_def, Nat.add_assoc, Nat.add_comm 1]
    case isFalse h =>
      refine ⟨0, rfl, Nat.zero_le _, hk, Nat.zero_le _, (fun _ h => nomatch h), fun _ inBand ⟨place, unwritten⟩ => ?_⟩
      refine Nat.lt_of_not_le fun fits => h ?_
      have one : bytesFrom x k 1 = bandBytes x k := bytesFrom_succ x k 0
      rw [Nat.add_zero] at place unwritten inBand
      rw [place, unwritten]
      exact ⟨inBand, rfl, rfl, one ▸ fits, rfl⟩

/-- The first sector of an eligible feed's pass, and so at least one, is in its run. -/
theorem LongestRun.pos {track k position room n : Nat} (h : LongestRun s t x track 17 k position room n)
    (hk : k < sectorCount x) (fits : bandBytes x k ≤ room) (here : Runs s t x k track position) : 1 ≤ n := by
  refine Nat.one_le_iff_ne_zero.mpr ?_
  rintro rfl
  have full := h.longest (by decide) hk here
  rw [bytesFrom_succ] at full
  exact absurd full (Nat.not_lt.mpr fits)

/-- The pass that the feed starts (R134). -/
theorem startFeed_eq (ht : s.stream = some t) (hx : feedBand t = some x) {n : Nat}
    (hn : feedRun s t x (translate s t.bay (x.first + x.fetched)).track 17 x.fetched
      (translate s t.bay (x.first + x.fetched)).sector (freeSpace t) = (List.range n).map (x.fetched + ·)) :
    startFeed s = State.mapSched { s with stream := some { t with reserved := bytesFrom x x.fetched n } } t.bay fun c =>
      { c with
        pass := some ⟨.feed x.serial, .read, (translate s t.bay (x.first + x.fetched)).track,
          (translate s t.bay (x.first + x.fetched)).sector, (List.range n).map (x.fetched + ·), List.replicate n 4, [], [],
          false⟩
        last := .feed } := by
  have bytes : ((List.range n).map (x.fetched + ·)).map (bandBytes x) = (List.range n).map fun j => bandBytes x (x.fetched + j) :=
    List.map_map
  have four : ((List.range n).map (x.fetched + ·)).map (fun _ => 4) = List.replicate n 4 := by simp [Function.comp_def]
  unfold startFeed
  simp only [ht, hx, hn, bytes, four]
  rfl

/-! ### Band bytes -/

theorem bandBytes_whole {k : Nat} (h : k + 1 < sectorCount x) : bandBytes x k = 1024 := if_pos h

/-- The last sector of a band has what is left of its length (R131). -/
theorem bandBytes_last {k : Nat} (h : k + 1 = sectorCount x) :
    bandBytes x k = x.length - 1024 * k ∧ 1 ≤ bandBytes x k ∧ bandBytes x k ≤ 1024 := by
  have last : bandBytes x k = x.length - 1024 * (sectorCount x - 1) := if_neg (by omega)
  have count : sectorCount x = (x.length + 1023) / 1024 := rfl
  have before : sectorCount x - 1 = k := by omega
  rw [last, before]
  omega

end Sys2Proof.Machine

namespace Sys2Proof.Table
open Machine

/-- Settles O57. -/
theorem feedPlanned : Obligations.FeedPlanned := by
  refine ⟨fun t s ht => ⟨?_, fun x => feedBand_iff, fun x hx => ⟨fun n d => feedThrough_takes ht hx n,
    feedThrough_stops ht hx, fun he hd => ?_⟩⟩, fun _ _ _ _ => ⟨bandBytes_whole, bandBytes_last⟩⟩
  · rw [feedEligible_iff ht]
    simp only [feedHeld_eq_false]
  · obtain ⟨_, y, hy, _, fits, _⟩ := (feedEligible_iff ht).mp he
    obtain rfl : y = x := Option.some.inj (hy.symm.trans hx)
    obtain ⟨_, _, _, inBand, _⟩ := feedBand_iff.mp hx
    obtain ⟨n, items, run⟩ := feedRun_longest (s := s) (t := t) (x := y)
      (translate s t.bay (y.first + y.fetched)).track 17 y.fetched (translate s t.bay (y.first + y.fetched)).sector
      (freeSpace t) (Nat.le_of_lt inBand)
    exact ⟨n, _, run.pos inBand fits ⟨rfl, hd⟩, run.atMost, rfl, run.inBand, run.fits, run.runs,
      fun h17 hband place free => run.longest h17 hband ⟨place, free⟩, startFeed_eq ht hx items⟩

end Sys2Proof.Table
end

section
/-! What the end of records changes of the other records, the mirror and the link (R65, R70, R168), and the outcome of a
build step and a degrade (R161 to R165). -/

namespace Sys2Proof.Machine

/-- A record's end changes its state, its end cause, its flags and its slots at most: state and cause only for a number of
`Q`, flags only for a number of `D`; what has ended and DEGRADED stay. -/
structure Closed (Q D : Nat → Prop) (x y : Rec) : Prop where
  rest : y = { x with
    state := y.state, stalled := y.stalled, endCause := y.endCause, flags := y.flags, sectors := y.sectors }
  kept : ¬Q x.seq → y.state = x.state ∧ y.endCause = x.endCause
  ended : Ended x → Ended y
  flags : ¬D x.seq → y.flags = x.flags
  degraded : x.flags.degraded = true → y.flags.degraded = true

section
variable {Q Q' D D' : Nat → Prop} {x y z : Rec} {s t u : State}

theorem Closed.refl (Q D : Nat → Prop) (x : Rec) : Closed Q D x x := ⟨rfl, fun _ => ⟨rfl, rfl⟩, id, fun _ => rfl, id⟩

theorem Closed.sameAsk (h : Closed Q D x y) : SameAsk x y := by
  rw [h.rest]
  exact ⟨rfl, rfl, rfl, rfl, rfl, rfl, rfl⟩

theorem Closed.partners (h : Closed Q D x y) : y.partners = x.partners := by rw [h.rest]

theorem Closed.trans (h : Closed Q D x y) (h' : Closed Q D y z) : Closed Q D x z where
  rest := by rw [h'.rest, h.rest]
  kept hq := by
    obtain ⟨state, cause⟩ := h.kept hq
    obtain ⟨state', cause'⟩ := h'.kept (h.sameAsk.seq.symm ▸ hq)
    exact ⟨state'.trans state, cause'.trans cause⟩
  ended he := h'.ended (h.ended he)
  flags hd := (h'.flags (h.sameAsk.seq.symm ▸ hd)).trans (h.flags hd)
  degraded hd := h'.degraded (h.degraded hd)

theorem Closed.mono (hQ : ∀ q, Q q → Q' q) (hD : ∀ q, D q → D' q) (h : Closed Q D x y) : Closed Q' D' x y where
  rest := h.rest
  kept hn := h.kept fun hq => hn (hQ _ hq)
  ended := h.ended
  flags hd := h.flags fun hn => hd (hD _ hn)
  degraded := h.degraded

/-- The end of records of `Q`, with flags for those of `D`, leaves the mirror and the link alone. -/
structure Closing (Q D : Nat → Prop) (s t : State) : Prop where
  mirror : t.mirror = s.mirror
  link : t.link = s.link
  counter : t.counter = s.counter
  recs : ∃ g, (∀ x, Closed Q D x (g x)) ∧ t.recs = s.recs.map g

theorem Closing.of_recs (hm : t.mirror = s.mirror) (hl : t.link = s.link) (hc : t.counter = s.counter)
    (hr : t.recs = s.recs) : Closing Q D s t :=
  ⟨hm, hl, hc, id, .refl Q D, hr.trans (List.map_id _).symm⟩

theorem Closing.refl (Q D : Nat → Prop) (s : State) : Closing Q D s s := .of_recs rfl rfl rfl rfl

theorem Closing.trans (h : Closing Q D s t) (h' : Closing Q D t u) : Closing Q D s u where
  mirror := h'.mirror.trans h.mirror
  link := h'.link.trans h.link
  counter := h'.counter.trans h.counter
  recs := by
    obtain ⟨f, kf, hf⟩ := h.recs
    obtain ⟨g, kg, hg⟩ := h'.recs
    exact ⟨g ∘ f, fun x => (kf x).trans (kg (f x)), by rw [hg, hf, List.map_map]⟩

theorem Closing.mono (hQ : ∀ q, Q q → Q' q) (hD : ∀ q, D q → D' q) (h : Closing Q D s t) : Closing Q' D' s t :=
  ⟨h.mirror, h.link, h.counter, h.recs.imp fun _ ⟨k, e⟩ => ⟨fun x => (k x).mono hQ hD, e⟩⟩

theorem Closing.foldl {α : Type} {f : State → α → State} {l : List α} (h : ∀ x ∈ l, ∀ t, Closing Q D t (f t x)) :
    Closing Q D s (l.foldl f s) :=
  List.foldlRecOn (motive := Closing Q D s) l f (.refl Q D s) fun t ht x hx => ht.trans (h x hx t)

theorem Closing.mapRec {q : Nat} {f : Rec → Rec} (h : ∀ x, x.seq = q → Closed Q D x (f x)) :
    Closing Q D s (s.mapRec q f) :=
  ⟨rfl, rfl, rfl, _, fun x => by
    split
    · rename_i hq
      exact h x hq
    · exact .refl Q D x, rfl⟩

theorem Closing.rec? (h : Closing Q D s t) {q : Nat} {r : Rec} (hr : s.rec? q = some r) :
    ∃ x, t.rec? q = some x ∧ Closed Q D r x := by
  obtain ⟨g, kg, hg⟩ := h.recs
  have found : t.rec? q = (s.withRecs (s.recs.map g)).rec? q := by
    unfold State.rec?
    rw [hg, State.withRecs_recs]
  exact ⟨g r, by rw [found, rec?_map s q fun x => (kg x).sameAsk, hr, Option.map_some], kg r⟩

theorem Closing.seqLaw (h : Closing Q D s t) (hs : seqLaw s) : seqLaw t := by
  obtain ⟨g, kg, hg⟩ := h.recs
  unfold Machine.seqLaw State.nextSeq
  rw [h.counter, hg]
  exact seqsAscend_map (fun x => (kg x).sameAsk.seq) hs

/-! ### One record -/

theorem Closing.signalRelease (before : State) (h : Closing Q D s t) : Closing Q D s (signalRelease before t) := by
  rcases signalRelease_cases before t with ⟨_, e⟩ | ⟨_, e⟩ <;> rw [e]
  · exact h.trans (.of_recs rfl rfl rfl rfl)
  · exact h

theorem Closing.dropAll (k : Holder) : Closing Q D s (dropAll k s) :=
  (Closing.of_recs (s := s) (t := s.withSlots (s.slots.map (dropFrom k))) rfl rfl rfl rfl).signalRelease s

theorem Closing.dropOne (k : Holder) (i : Nat) : Closing Q D s (dropOne k i s) :=
  (Closing.of_recs (s := s) (t := s.withSlots (s.slots.modify i (dropFrom k))) rfl rfl rfl rfl).signalRelease s

theorem Closing.checkMode (b : Bay) (h : Closing Q D s t) : Closing Q D s (checkMode b t) := by
  unfold Machine.checkMode
  dsimp only
  split
  · exact h.trans (.of_recs rfl rfl rfl rfl)
  · exact h

theorem Closing.leaveScheduler (r : Rec) : Closing Q D s (leaveScheduler r s) := by
  unfold Machine.leaveScheduler
  dsimp only
  split
  · exact .of_recs rfl rfl rfl rfl
  · split
    · exact .checkMode _ (.of_recs rfl rfl rfl rfl)
    · exact .refl Q D s

theorem Closing.dropUnqueued (r : Rec) (i : Nat) : Closing Q D s (dropUnqueued r s i) := by
  unfold Machine.dropUnqueued
  split
  · have cleared : Closing Q D s (s.mapRec r.seq (Rec.mapSector · i fun x => { x with slot := none })) :=
      .mapRec fun _ _ => ⟨rfl, fun _ => ⟨rfl, rfl⟩, id, fun _ => rfl, id⟩
    exact cleared.trans (.dropOne _ _)
  · exact .refl Q D s

theorem Closing.giveUp (r : Rec) : Closing Q D s (giveUp r s) := by
  unfold Machine.giveUp
  split
  · split
    · exact .foldl fun i _ _ => .dropUnqueued r i
    · exact .refl Q D s
  · exact .dropAll _

theorem Closing.endEffect (r : Rec) : Closing Q D s (endEffect r s) := by
  unfold Machine.endEffect
  split
  · exact .of_recs rfl rfl rfl rfl
  · split <;> exact .of_recs rfl rfl rfl rfl

theorem Closing.signalHoldEnds (before : State) : Closing Q D s (signalHoldEnds before s) := by
  refine .foldl fun r _ t => ?_
  split <;> exact .of_recs rfl rfl rfl rfl

theorem Closing.degradeWriteOf {r : Rec} (hD : ∀ p ∈ r.partners, D p) : Closing Q D s (degradeWriteOf r s) := by
  unfold Machine.degradeWriteOf
  split
  · exact .foldl fun p hp t => .mapRec fun x hx =>
      ⟨rfl, fun _ => ⟨rfl, rfl⟩, id, fun hd => absurd (hx ▸ hD p hp) hd, fun _ => rfl⟩
  · exact .refl Q D s

/-- The partners of a copy carry DEGRADED. -/
theorem degradeWriteOf_degraded {q : Nat} {r w : Rec} (hr : isCopy r = true) (hw : s.rec? q = some w) (hq : q ∈ r.partners) :
    ∃ o, (degradeWriteOf r s).rec? q = some o ∧ o.flags.degraded = true := by
  have change : ∀ x : Rec, SameAsk x (x.flag setDegraded) := fun _ => ⟨rfl, rfl, rfl, rfl, rfl, rfl, rfl⟩
  have flags : ∀ (l : List Nat) (t : State), Closing (fun _ => False) (fun _ => True) t
      (l.foldl (fun t p => t.mapRec p (Rec.flag · setDegraded)) t) := fun l t =>
    .foldl fun p _ t => .mapRec fun x _ => ⟨rfl, fun _ => ⟨rfl, rfl⟩, id, fun hd => absurd trivial hd, fun _ => rfl⟩
  obtain ⟨before, after, split⟩ := List.append_of_mem hq
  unfold degradeWriteOf
  rw [if_pos hr, split, List.foldl_append, List.foldl_cons]
  obtain ⟨x, hx, _⟩ := (flags before s).rec? hw
  obtain ⟨o, ho, k⟩ := (flags after _).rec? (rec?_mapRec_same change hx)
  exact ⟨o, ho, k.degraded rfl⟩

theorem Closing.enterEndingAlone {q : Nat} (hQ : Q q) : Closing Q D s (enterEndingAlone q s) := by
  cases hr : s.rec? q with
  | none =>
    unfold Machine.enterEndingAlone
    rw [hr]
    exact .refl Q D s
  | some r =>
    by_cases he : r.state = .ending
    · rw [enterEndingAlone_ended hr he]
      exact .refl Q D s
    · have marked : Closing Q D s (s.mapRec q fun x => { x with state := .ending, stalled := false }) :=
        .mapRec fun x hx => ⟨rfl, fun hn => absurd (hx ▸ hQ) hn, fun _ => .inl rfl, fun _ => rfl, id⟩
      rw [enterEndingAlone_eq hr he]
      exact (((marked.trans (.leaveScheduler r)).trans (.giveUp r)).trans (.endEffect r)).trans (.signalHoldEnds s)

/-- A record's end by a cause. Only ABANDONED degrades a copy's write. -/
theorem Closing.endByAlone {c : EndCause} {q : Nat} (hQ : Q q) (hD : c = .abandoned → ∀ p, D p) :
    Closing Q D s (endByAlone c q s) := by
  cases hr : s.rec? q with
  | none =>
    unfold Machine.endByAlone
    rw [hr]
    exact .refl Q D s
  | some r =>
    by_cases he : Ended r
    · rw [endByAlone_ended hr he]
      exact .refl Q D s
    · have marked : Closing Q D s (s.mapRec r.seq fun x => { x with endCause := some c }) :=
        .mapRec fun x hx => ⟨rfl, fun hn => absurd (hx ▸ (rec?_seq hr).symm ▸ hQ) hn, fun _ => .inr rfl, fun _ => rfl, id⟩
      have caused : Closing Q D s (Machine.caused c r s) := by
        unfold Machine.caused
        dsimp only
        split
        · rename_i hc
          exact marked.trans (.degradeWriteOf fun p _ => hD hc p)
        · exact marked
      rw [endByAlone_eq hr he]
      split
      · exact caused
      · exact caused.trans (.enterEndingAlone hQ)

/-! ### The copies and the steps of a mirror that ends -/

/-- The cancelling of one waiting copy, its write degraded. -/
def cancelCopy (t : State) (r : Rec) : State := endByAlone .cancelled r.seq (degradeWriteOf r t)

theorem cancelWaitingCopies_eq (s : State) :
    cancelWaitingCopies s = (s.recs.filter fun r => isCopy r && decide (r.state = .waiting)).foldl cancelCopy s := rfl

theorem cancelCopy_closing {r : Rec} (hQ : Q r.seq) (hD : ∀ p ∈ r.partners, D p) : Closing Q D s (cancelCopy s r) :=
  .trans (.degradeWriteOf hD) (.endByAlone hQ nofun)

theorem cancelCopies_closing (l : List Rec) (s : State) :
    Closing (· ∈ l.map Rec.seq) (fun p => ∃ r ∈ l, p ∈ r.partners) s (l.foldl cancelCopy s) :=
  .foldl fun r hr _ => cancelCopy_closing (List.mem_map_of_mem hr) fun _ hp => ⟨r, hr, hp⟩

theorem cancelSteps_closing (s : State) : Closing (· ∈ seqsOf s isStep) (fun _ => False) s (cancelSteps s) :=
  .foldl fun _ hq _ => .endByAlone hq nofun

/-- Each copy of the list ends CANCELLED, and its partners carry DEGRADED. -/
theorem cancelCopies_rec? {l : List Rec} (hn : (l.map Rec.seq).Nodup) {r : Rec} (hr : r ∈ l) (hk : isCopy r = true)
    (hw : r.state = .waiting) (found : s.rec? r.seq = some r) :
    (∃ o, (l.foldl cancelCopy s).rec? r.seq = some o ∧
        (r.endCause = none → o.state = .ending ∧ o.endCause = some .cancelled)) ∧
      ∀ q w, s.rec? q = some w → q ∈ r.partners →
        ∃ o, (l.foldl cancelCopy s).rec? q = some o ∧ o.flags.degraded = true := by
  obtain ⟨before, after, rfl⟩ := List.append_of_mem hr
  rw [List.map_append, List.map_cons] at hn
  obtain ⟨notAfter, _⟩ := List.nodup_cons.mp (List.nodup_append.mp hn).2.1
  have notBefore : r.seq ∉ before.map Rec.seq := fun h => (List.nodup_append.mp hn).2.2 _ h _ List.mem_cons_self rfl
  rw [List.foldl_append, List.foldl_cons]
  have first := cancelCopies_closing before s
  have last := cancelCopies_closing after (cancelCopy (before.foldl cancelCopy s) r)
  constructor
  · obtain ⟨x, hx, kx⟩ := first.rec? found
    obtain ⟨stateX, causeX⟩ := kx.kept notBefore
    have degraded : Closing (fun _ => False) (fun _ => True) (before.foldl cancelCopy s) (degradeWriteOf r _) :=
      .degradeWriteOf fun _ _ => trivial
    obtain ⟨y, hy, ky⟩ := degraded.rec? hx
    obtain ⟨stateY, causeY⟩ := ky.kept id
    by_cases hc : r.endCause = none
    · have live : ¬Ended y := by simp [Ended, stateY, stateX, hw, causeY, causeX, hc]
      obtain ⟨z, hz, ended⟩ := endByAlone_rec? (c := .cancelled) hy live
      obtain ⟨o, ho, ko⟩ := last.rec? hz
      obtain ⟨stateO, causeO⟩ := ko.kept (by rwa [rec?_seq hz])
      refine ⟨o, ho, fun _ => ⟨stateO.trans ?_, causeO.trans ended.endCause⟩⟩
      rw [ended.state, stateY, stateX, hw]
      exact if_neg nofun
    · have one : Closing (fun _ => True) (fun _ => True) (before.foldl cancelCopy s) (cancelCopy _ r) :=
        cancelCopy_closing trivial fun _ _ => trivial
      obtain ⟨z, hz, _⟩ := one.rec? hx
      obtain ⟨o, ho, _⟩ := last.rec? hz
      exact ⟨o, ho, fun h => absurd h hc⟩
  · intro q w hq hp
    obtain ⟨x, hx, _⟩ := first.rec? hq
    obtain ⟨y, hy, degraded⟩ := degradeWriteOf_degraded hk hx hp
    have ends : Closing (fun _ => True) (fun _ => False) (degradeWriteOf r (before.foldl cancelCopy s)) (cancelCopy _ r) :=
      .endByAlone trivial nofun
    obtain ⟨z, hz, kz⟩ := ends.rec? hy
    obtain ⟨o, ho, ko⟩ := last.rec? hz
    exact ⟨o, ho, ko.degraded (kz.degraded degraded)⟩

/-- Each BUILD_STEP ends, at once or when its pass is done. -/
theorem cancelSteps_ended (h : seqLaw s) {q : Nat} {r : Rec} (hr : s.rec? q = some r) (hk : isStep r = true) :
    ∃ o, (cancelSteps s).rec? q = some o ∧ Ended o := by
  have listed : q ∈ seqsOf s isStep :=
    List.mem_map.mpr ⟨r, List.mem_filter.mpr ⟨List.mem_of_find?_eq_some hr, hk⟩, rec?_seq hr⟩
  by_cases he : Ended r
  · obtain ⟨o, ho, ko⟩ := (cancelSteps_closing s).rec? hr
    exact ⟨o, ho, ko.ended he⟩
  · obtain ⟨_, each⟩ := foldl_end_rec? (c := .cancelled) (f := fun t x => endByAlone .cancelled x t) (s := s)
      (fun _ _ _ _ _ => rfl) (seqsOf_nodup h isStep) fun x hx => by
        obtain ⟨o, ho, hp⟩ := rec?_of_seqsOf h hx
        exact ⟨o, ho, by simp_all [isStep, isRead]⟩
    obtain ⟨o, ho, ended⟩ := each q listed r hr he
    exact ⟨o, ho, .inr (by rw [ended.endCause]; rfl)⟩

/-- What a mirror's end leaves of its records (R165, R168). -/
theorem cancelMirror_closing (s : State) :
    Closing (fun q => ∃ r ∈ s.recs, r.seq = q ∧ (isStep r = true ∨ (isCopy r = true ∧ r.state = .waiting)))
      (fun p => ∃ r ∈ s.recs, isCopy r = true ∧ r.state = .waiting ∧ p ∈ r.partners) s
      (cancelSteps (cancelWaitingCopies s)) := by
  have waiting : ∀ r ∈ s.recs.filter (fun r => isCopy r && decide (r.state = .waiting)),
      r ∈ s.recs ∧ isCopy r = true ∧ r.state = .waiting := by simp
  have copies := cancelCopies_closing (s.recs.filter fun r => isCopy r && decide (r.state = .waiting)) s
  have steps := cancelSteps_closing (cancelWaitingCopies s)
  refine (copies.mono ?_ ?_).trans (steps.mono ?_ fun _ => False.elim)
  · intro q hq
    obtain ⟨r, hr, rfl⟩ := List.mem_map.mp hq
    obtain ⟨hm, hk⟩ := waiting r hr
    exact ⟨r, hm, rfl, .inr hk⟩
  · rintro p ⟨r, hr, hp⟩
    obtain ⟨hm, hk, hw⟩ := waiting r hr
    exact ⟨r, hm, hk, hw, hp⟩
  · intro q hq
    obtain ⟨x, hx, rfl⟩ := List.mem_map.mp hq
    obtain ⟨hm, hk⟩ := List.mem_filter.mp hx
    obtain ⟨g, kg, hg⟩ := copies.recs
    rw [cancelWaitingCopies_eq, hg] at hm
    obtain ⟨r, hr, rfl⟩ := List.mem_map.mp hm
    have same := (kg r).sameAsk
    exact ⟨r, hr, same.seq.symm, .inl (by rwa [isStep, same.kind] at hk)⟩

/-! ### The degrade -/

theorem degrade_eq {p : Bay} {c g : Nat} {ph : MirrorPhase} (cause : DegradeCause) (hm : s.mirror = .paired p c g ph)
    (hph : ∀ x : DegradeCause, ph ≠ .degraded x) :
    degrade cause s = raise p (.mirrorState (.degraded cause) c)
      (cancelSteps (cancelWaitingCopies (s.withMirror (.paired p c g (.degraded cause))))) := by
  unfold degrade
  rw [hm]
  cases ph with
  | degraded x => exact absurd rfl (hph x)
  | building _ => rfl
  | bound => rfl

theorem degrade_unchanged (cause : DegradeCause)
    (h : s.mirror = .unbound ∨ ∃ (p : Bay) (c g : Nat) (x : DegradeCause), s.mirror = .paired p c g (.degraded x)) :
    degrade cause s = s := by
  unfold degrade
  rcases h with h | ⟨p, c, g, x, h⟩ <;> rw [h]

/-- What a mirror's end makes of each record (R165, R168). -/
structure MirrorCancelled (s t : State) : Prop where
  asks : t.recs.map (fun r => (r.seq, r.kind, r.link, r.bay, r.level, r.partners, r.failures)) =
    s.recs.map (fun r => (r.seq, r.kind, r.link, r.bay, r.level, r.partners, r.failures))
  copies : ∀ r ∈ s.recs, r.kind = .mirrorCopy → r.state = .waiting →
    (∃ o : Rec, t.rec? r.seq = some o ∧ (r.endCause = none → o.state = .ending ∧ o.endCause = some .cancelled)) ∧
      ∀ w ∈ s.recs, w.seq ∈ r.partners → ∃ o : Rec, t.rec? w.seq = some o ∧ o.flags.degraded = true
  steps : ∀ r ∈ s.recs, r.kind = .buildStep →
    ∃ o : Rec, t.rec? r.seq = some o ∧ (o.state = .ending ∨ o.endCause.isSome = true)
  others : ∀ r ∈ s.recs, r.kind ≠ .buildStep → (r.kind = .mirrorCopy → r.state ≠ .waiting) →
    ∃ o : Rec, t.rec? r.seq = some o ∧ o.state = r.state ∧ o.endCause = r.endCause ∧
      ((∀ y ∈ s.recs, y.kind = .mirrorCopy → y.state = .waiting → r.seq ∉ y.partners) → o.flags = r.flags)

theorem Closing.asks (h : Closing Q D s t) :
    t.recs.map (fun r => (r.seq, r.kind, r.link, r.bay, r.level, r.partners, r.failures)) =
      s.recs.map (fun r => (r.seq, r.kind, r.link, r.bay, r.level, r.partners, r.failures)) := by
  obtain ⟨g, kg, hg⟩ := h.recs
  rw [hg, List.map_map]
  refine List.map_congr_left fun x _ => ?_
  rw [Function.comp_apply, (kg x).rest]

theorem cancelMirror_records (h : seqLaw s) : MirrorCancelled s (cancelSteps (cancelWaitingCopies s)) where
  asks := (cancelMirror_closing s).asks
  copies r hr hk hw := by
    have listed : r ∈ s.recs.filter fun r => isCopy r && decide (r.state = .waiting) :=
      List.mem_filter.mpr ⟨hr, by simp [isCopy, hk, hw]⟩
    have distinct : ((s.recs.filter fun r => isCopy r && decide (r.state = .waiting)).map Rec.seq).Nodup := seqsOf_nodup h _
    have copy : isCopy r = true := decide_eq_true hk
    obtain ⟨⟨x, hx, ended⟩, partners⟩ := cancelCopies_rec? distinct listed copy hw (rec?_of_mem h hr)
    have steps := cancelSteps_closing (cancelWaitingCopies s)
    have closing := cancelCopies_closing (s.recs.filter fun r => isCopy r && decide (r.state = .waiting)) s
    have law : seqLaw (cancelWaitingCopies s) := closing.seqLaw h
    constructor
    · obtain ⟨o, ho, ko⟩ := steps.rec? hx
      refine ⟨o, ho, fun hc => ?_⟩
      obtain ⟨state, cause⟩ := ended hc
      have notStep : x.seq ∉ seqsOf (cancelWaitingCopies s) isStep := fun hm => by
        obtain ⟨y, hy, step⟩ := rec?_of_seqsOf law hm
        rw [rec?_seq hx] at hy
        obtain ⟨z, hz, kz⟩ := closing.rec? (rec?_of_mem h hr)
        obtain rfl := Option.some.inj (hy.symm.trans hz)
        rw [isStep, kz.sameAsk.kind, hk] at step
        exact nomatch step
      obtain ⟨stateO, causeO⟩ := ko.kept notStep
      exact ⟨stateO.trans state, causeO.trans cause⟩
    · intro w hm hp
      obtain ⟨y, hy, degraded⟩ := partners w.seq w (rec?_of_mem h hm) hp
      obtain ⟨o, ho, ko⟩ := steps.rec? hy
      exact ⟨o, ho, ko.degraded degraded⟩
  steps r hr hk := by
    have closing := cancelCopies_closing (s.recs.filter fun r => isCopy r && decide (r.state = .waiting)) s
    obtain ⟨x, hx, kx⟩ := closing.rec? (rec?_of_mem h hr)
    exact cancelSteps_ended (closing.seqLaw h) hx (decide_eq_true (kx.sameAsk.kind.trans hk))
  others r hr hs hc := by
    obtain ⟨o, ho, ko⟩ := (cancelMirror_closing s).rec? (rec?_of_mem h hr)
    have alone : ∀ x ∈ s.recs, x.seq = r.seq → x = r := fun x hx e => h.eq_of_seq hx hr e
    obtain ⟨state, cause⟩ := ko.kept fun ⟨x, hx, e, k⟩ => by
      obtain rfl := alone x hx e
      rcases k with k | ⟨k, w⟩
      · exact hs (of_decide_eq_true k)
      · exact hc (of_decide_eq_true k) w
    exact ⟨o, ho, state, cause, fun hp => ko.flags fun ⟨y, hy, k, w, m⟩ => hp y hy (of_decide_eq_true k) w m⟩

/-! ### The outcome of a build step -/

section
variable {r : Rec} {p : Bay} {c g : Nat}

theorem stepOutcome_ended (h : r.endCause ≠ none) : stepOutcome r s = s := by
  have cause : r.endCause.isSome = true := Option.isSome_iff_ne_none.mpr h
  unfold stepOutcome
  split
  · exact if_pos cause
  · rfl

theorem stepOutcome_absent (h : ∀ (p : Bay) (c g : Nat), s.mirror ≠ .paired p c g (.building .present)) :
    stepOutcome r s = s := by
  unfold stepOutcome
  split
  · rename_i hm
    exact absurd hm (h _ _ _)
  · rfl

theorem stepOutcome_eq (hm : s.mirror = .paired p c g (.building .present)) (h : r.endCause = none) :
    stepOutcome r s =
      if r.sectors.any fun x => decide (x.progress = .failed) then degrade .buildFailed s
      else if c + 17 < 277423 then s.withMirror (.paired p (c + 17) (g + gapsOf r) (.building .deferred))
      else raise p (.mirrorState .bound 277423) (s.withMirror (.paired p 277423 (g + gapsOf r) .bound)) := by
  unfold stepOutcome
  simp only [hm, h]
  rfl

theorem stepOutcome_failed (hm : s.mirror = .paired p c g (.building .present)) (h : r.endCause = none)
    (hf : ∃ x ∈ r.sectors, x.progress = .failed) : stepOutcome r s = degrade .buildFailed s := by
  rw [stepOutcome_eq hm h, if_pos (by simpa using hf)]

theorem stepOutcome_done (hm : s.mirror = .paired p c g (.building .present)) (h : r.endCause = none)
    (hf : ∀ x ∈ r.sectors, x.progress ≠ .failed) :
    stepOutcome r s =
      if c + 17 < 277423 then s.withMirror (.paired p (c + 17) (g + gapsOf r) (.building .deferred))
      else raise p (.mirrorState .bound 277423) (s.withMirror (.paired p 277423 (g + gapsOf r) .bound)) := by
  rw [stepOutcome_eq hm h, if_neg (by simpa using hf)]

end

end

end Sys2Proof.Machine

namespace Sys2Proof.Table
open Machine

/-- Settles O59. -/
theorem mirrorOutcomes : Obligations.MirrorOutcomes := by
  refine ⟨fun r p c g s hm => ⟨stepOutcome_ended, stepOutcome_failed hm, fun hc hf => ?_⟩,
    fun r s => stepOutcome_absent, fun cause s => degrade_unchanged cause, fun cause p c g ph s t hm hph ht => ?_⟩
  · rw [stepOutcome_done hm hc hf]
    exact ⟨fun below => if_pos below, fun last => if_neg (Nat.not_lt.mpr last)⟩
  · have closing := cancelMirror_closing (s.withMirror (.paired p c g (.degraded cause)))
    rw [degrade_eq cause hm hph] at ht
    subst ht
    refine ⟨closing.mirror, ?_, fun h => ?_⟩
    · exact congrArg (fun l : Link => { l with reports := putReport l.reports ⟨p, .mirrorState (.degraded cause) c⟩ })
        closing.link
    · obtain ⟨asks, copies, steps, others⟩ :=
        cancelMirror_records (s := s.withMirror (.paired p c g (.degraded cause))) h
      exact ⟨asks, copies, steps, others⟩

end Sys2Proof.Table
end

section
/-! When a record is ready to leave the table, and the creation that is due (R54, R68, R104, R119, R160). -/

namespace Sys2Proof.Machine

variable {b p : Bay} {q c g : Nat} {r : Rec} {m : DefectMap} {s : State}

/-! ### Leaving -/

theorem framesLeft_eq_false : framesLeft s q = false ↔
    (∀ p ∈ s.link.replies, p.owner ≠ some q) ∧
      ∀ p : Reply, s.link.sending = some (.reply p) → p.owner ≠ some q := by
  have queued : (s.link.replies.any fun p => decide (p.owner = some q)) = false ↔ ∀ p ∈ s.link.replies, p.owner ≠ some q := by
    simp [List.any_eq_false]
  unfold framesLeft
  rw [Bool.or_eq_false_iff, queued]
  split
  · rename_i p hp
    simp [hp]
  · rename_i other
    exact and_congr_right fun _ => ⟨fun _ p hp => absurd hp (other p), fun _ => rfl⟩

theorem partnersEnded_iff : partnersEnded s r = true ↔
    ((r.kind = .write ∨ r.kind = .mirrorCopy) →
      ∀ o ∈ s.recs, o.seq ∈ r.partners → (o.kind = .write ∨ o.kind = .mirrorCopy) → o.state = .ending) ∧
      (r.kind = .read → ∀ o ∈ s.recs, o.kind = .fallbackRead → r.seq ∉ o.partners) := by
  have pair : ∀ o : Rec, (isWrite o || isCopy o) = true ↔ o.kind = .write ∨ o.kind = .mirrorCopy := fun o => by
    simp [isWrite, isCopy]
  unfold partnersEnded
  by_cases hw : r.kind = .write ∨ r.kind = .mirrorCopy
  · have notRead : r.kind ≠ .read := by rcases hw with h | h <;> rw [h] <;> exact nofun
    rw [if_pos ((pair r).mpr hw), List.all_eq_true]
    simp only [Bool.or_eq_true, Bool.not_eq_true', Bool.and_eq_false_imp, decide_eq_true_eq, hw, notRead, forall_true_left,
      false_implies, and_true]
    refine forall₂_congr fun o _ => ?_
    rw [← pair o, or_iff_not_imp_left, Classical.not_imp, Bool.not_eq_false, and_imp, Bool.or_eq_true]
  · rw [if_neg (mt (pair r).mp hw), isRead]
    by_cases hr : r.kind = .read
    · rw [if_pos (decide_eq_true hr), List.all_eq_true]
      simp [hr, isFallback, imp_iff_not_or]
    · rw [if_neg (mt of_decide_eq_true hr)]
      exact ⟨fun _ => ⟨fun h => absurd h hw, fun h => absurd h hr⟩, fun _ => rfl⟩

theorem readyToLeave_iff : readyToLeave s r = true ↔
    r.state = .ending ∧ (∀ p ∈ s.link.replies, p.owner ≠ some r.seq) ∧
      (∀ p : Reply, s.link.sending = some (.reply p) → p.owner ≠ some r.seq) ∧
      ((r.kind = .write ∨ r.kind = .mirrorCopy) →
        ∀ o ∈ s.recs, o.seq ∈ r.partners → (o.kind = .write ∨ o.kind = .mirrorCopy) → o.state = .ending) ∧
      (r.kind = .read → ∀ o ∈ s.recs, o.kind = .fallbackRead → r.seq ∉ o.partners) := by
  unfold readyToLeave
  rw [Bool.and_eq_true, Bool.and_eq_true, decide_eq_true_iff, Bool.not_eq_true', framesLeft_eq_false, partnersEnded_iff]
  simp only [and_assoc]

theorem execRecordLeavesTable_ready (hr : s.rec? q = some r) (h : readyToLeave s r = true) :
    execRecordLeavesTable q s = .next (conclude (leaveTable q s)) := by
  unfold execRecordLeavesTable
  rw [hr]
  exact if_pos h

theorem execRecordLeavesTable_stays
    (h : s.rec? q = none ∨ ∃ r : Rec, s.rec? q = some r ∧ readyToLeave s r = false) :
    execRecordLeavesTable q s = .next s := by
  unfold execRecordLeavesTable
  rcases h with h | ⟨r, hr, h⟩
  · rw [h]
  · rw [hr]
    exact if_neg (by simp [h])

theorem leaveTable_link {ch tag : Nat} (hr : s.rec? q = some r) (hl : r.link = some (ch, tag)) :
    leaveTable q s = deferredCreations (reply ch tag (.done (doneOf r)) none (removeRec q s)) := by
  unfold leaveTable
  simp only [hr, hl]

theorem leaveTable_fallback (hr : s.rec? q = some r) (hl : r.link = none) (hk : r.kind = .fallbackRead) :
    leaveTable q s = fallbackOutcome r (deferredCreations (removeRec q s)) := by
  unfold leaveTable
  simp only [hr, hl, isFallback, hk, decide_true, if_true]

theorem leaveTable_step (hr : s.rec? q = some r) (hl : r.link = none) (hk : r.kind = .buildStep) :
    leaveTable q s = deferredCreations (stepOutcome r (removeRec q s)) := by
  unfold leaveTable
  simp [hr, hl, isFallback, isStep, hk]

theorem leaveTable_other (hr : s.rec? q = some r) (hl : r.link = none) (hf : r.kind ≠ .fallbackRead)
    (hs : r.kind ≠ .buildStep) : leaveTable q s = deferredCreations (removeRec q s) := by
  unfold leaveTable
  simp [hr, hl, isFallback, isStep, hf, hs]

/-! ### Flushes -/

theorem freePlaces_ne_zero : freePlaces s ≠ 0 ↔ s.recs.length < 16 := Nat.sub_ne_zero_iff_lt

theorem freePlaces_eq_zero : freePlaces s = 0 ↔ 16 ≤ s.recs.length := Nat.sub_eq_zero_iff_le

theorem needsFlush_iff : needsFlush s b = true ↔
    ∃ m : DefectMap, (s.mechOf b).map = some m ∧ m.dirty = true ∧ m.pending = .none ∧ (s.mechOf b).inhibit = false := by
  unfold needsFlush
  cases (s.mechOf b).map <;> simp [and_assoc]

/-- The flush created takes the place of the pending one (R119). -/
theorem createFlush_eq (hm : (s.mechOf b).map = some m) :
    createFlush b s = trigger b (wake b (State.mapMech
      { s with
        recs := s.recs ++
          [{ newRec .mapFlush none b 3 0 0 (List.replicate 4 ⟨.pending, 0, none, false, none⟩) [] with seq := s.nextSeq }]
        counter := s.counter + 1 }
      b fun k => { k with map := some { m with pending := .queued } })) := by
  have never : ∀ t : State, createInternal (newRec .mapFlush none b 3 0 0 (List.replicate 4 (newSector .pending)) []) t =
      createRec (newRec .mapFlush none b 3 0 0 (List.replicate 4 (newSector .pending)) []) t := fun t => by
    unfold createInternal
    exact if_neg (by simp [isFlush, newRec])
  unfold createFlush
  rw [never, mapMap_of_map _ hm, createRec_wakes rfl rfl]
  rfl

theorem makeFlush_deferred (h : flushDeferred s b = true) (hp : s.recs.length < 16) : makeFlush b s = createFlush b s :=
  if_pos (by rw [h, decide_eq_true (freePlaces_ne_zero.mpr hp)]; rfl)

theorem makeFlush_unchanged
    (h : (∀ m : DefectMap, (s.mechOf b).map = some m → m.pending ≠ .deferred) ∨ 16 ≤ s.recs.length) : makeFlush b s = s := by
  refine if_neg fun due => ?_
  obtain ⟨deferred, place⟩ := Bool.and_eq_true_iff.mp due
  rcases h with none_deferred | full
  · obtain ⟨m, hm, hd⟩ := flushDeferred_iff.mp deferred
    exact none_deferred m hm hd
  · exact of_decide_eq_true place (freePlaces_eq_zero.mpr full)

theorem askFlush_place (b : Bay) (h : s.recs.length < 16) : askFlush b s = createFlush b s :=
  if_neg (freePlaces_ne_zero.mpr h)

theorem askFlush_full (h : 16 ≤ s.recs.length) (hm : (s.mechOf b).map = some m) :
    askFlush b s = s.mapMech b fun k => { k with map := some { m with pending := .deferred } } :=
  (if_pos (freePlaces_eq_zero.mpr h)).trans (mapMap_of_map _ hm)

/-! ### The build step -/

theorem stepCreatable_iff : stepCreatable s = true ↔
    (∃ (p : Bay) (c g : Nat), s.mirror = .paired p c g (.building .deferred)) ∧ (∀ r ∈ s.recs, isStep r = false) ∧
      s.recs.length < 16 := by
  unfold stepCreatable
  split
  · rename_i p c g hm
    rw [Bool.and_eq_true, decide_eq_true_iff, freePlaces_ne_zero, Bool.not_eq_true', List.any_eq_false]
    simp only [Bool.not_eq_true, hm]
    exact ⟨fun h => ⟨⟨p, c, g, rfl⟩, h⟩, fun h => h.2⟩
  · rename_i other
    exact ⟨nofun, fun ⟨⟨p, c, g, hm⟩, _⟩ => absurd hm (other p c g)⟩

/-- A step is created on the secondary, and wakes both bays (log entry 40). -/
theorem createStep_eq (hm : s.mirror = .paired p c g (.building .deferred)) (hf : forcedOut (s.mechOf p.other).mode = false) :
    createStep s = trigger p (wake p (wake p.other
      { s with
        recs := s.recs ++
          [{ newRec .buildStep none p.other 7 c 17 (List.replicate 17 ⟨.unread, 0, none, false, none⟩) [] with
              seq := s.nextSeq }]
        counter := s.counter + 1
        mirror := .paired p c g (.building .present) })) := by
  unfold createStep
  rw [hm]
  dsimp only
  rw [createInternal_kept (r := newRec .buildStep none p.other 7 c 17 (List.replicate 17 (newSector .unread)) [])
    (s := s.withMirror (.paired p c g (.building .present))) hf]
  cases p <;> rfl

theorem makeStep_creatable (h : stepCreatable s = true) : makeStep s = createStep s := if_pos h

theorem makeStep_unchanged (h : stepCreatable s = false) : makeStep s = s := if_neg (by simp [h])

/-! ### The creation that is due first -/

theorem creationStep_needed (hn : needsFlush s b = true) (first : b = .B → needsFlush s .A = false) :
    creationStep s = some (askFlush b s) := by
  unfold creationStep
  cases b with
  | A => rw [if_pos hn]
  | B => rw [if_neg (by simp [first rfl]), if_pos hn]

theorem creationStep_deferred (ha : needsFlush s .A = false) (hb : needsFlush s .B = false) (hd : flushDeferred s b = true)
    (hp : s.recs.length < 16) (first : b = .B → flushDeferred s .A = false) : creationStep s = some (createFlush b s) := by
  have place : decide (freePlaces s ≠ 0) = true := decide_eq_true (freePlaces_ne_zero.mpr hp)
  unfold creationStep
  rw [place, ha, hb]
  cases b with
  | A => simp [hd]
  | B => simp [hd, first rfl]

theorem creationStep_flushless (ha : needsFlush s .A = false) (hb : needsFlush s .B = false)
    (hd : 16 ≤ s.recs.length ∨ (flushDeferred s .A = false ∧ flushDeferred s .B = false)) :
    creationStep s = if stepCreatable s then some (createStep s) else none := by
  have undue : (flushDeferred s .A && decide (freePlaces s ≠ 0)) = false ∧
      (flushDeferred s .B && decide (freePlaces s ≠ 0)) = false := by
    rcases hd with full | ⟨da, db⟩
    · simp [freePlaces_eq_zero.mpr full]
    · simp [da, db]
  unfold creationStep
  rw [ha, hb, undue.1, undue.2]
  rfl

theorem execDeferredCreation_some {t : State} (h : creationStep s = some t) :
    exec .deferredCreation s = .next (conclude t) := by
  change execDeferredCreation s = _
  unfold execDeferredCreation
  rw [h]

theorem execDeferredCreation_none (h : creationStep s = none) : exec .deferredCreation s = .next s := by
  change execDeferredCreation s = _
  unfold execDeferredCreation
  rw [h]

end Sys2Proof.Machine

namespace Sys2Proof.Table
open Machine

/-- Settles O43. -/
theorem leavingAndCreation : Obligations.LeavingAndCreation := by
  refine ⟨fun r s => readyToLeave_iff, fun q r s t hr ready ht => ?_, fun q s => execRecordLeavesTable_stays, fun _ => rfl,
    fun b m s t hm hp ht => ?_, fun b s => makeFlush_unchanged, fun b m s hm dirty pending inhibit first full => ?_,
    fun b s => needsFlush_iff, fun p c g s t hm steps hp hf ht => ?_, fun s h => ?_⟩
  · obtain rfl : t = removeRec q s := ht
    have leaves : exec (.recordLeavesTable q) s = .next (conclude (leaveTable q s)) := execRecordLeavesTable_ready hr ready
    rw [leaves]
    exact ⟨fun ch tag hl => by rw [leaveTable_link hr hl], fun hl hk => by rw [leaveTable_fallback hr hl hk],
      fun hl hk => by rw [leaveTable_step hr hl hk], fun hl hf hs => by rw [leaveTable_other hr hl hf hs]⟩
  · rw [← createFlush_eq hm] at ht
    subst ht
    refine ⟨fun hd => makeFlush_deferred (flushDeferred_iff.mpr ⟨m, hm, hd⟩) hp, fun dirty pending inhibit first => ?_,
      fun hd ha hb first => ?_⟩
    · rw [← askFlush_place b hp]
      exact execDeferredCreation_some (creationStep_needed (needsFlush_iff.mpr ⟨m, hm, dirty, pending, inhibit⟩) first)
    · exact execDeferredCreation_some (creationStep_deferred ha hb (flushDeferred_iff.mpr ⟨m, hm, hd⟩) hp first)
  · rw [← askFlush_full full hm]
    exact execDeferredCreation_some (creationStep_needed (needsFlush_iff.mpr ⟨m, hm, dirty, pending, inhibit⟩) first)
  · rw [← createStep_eq hm hf] at ht
    subst ht
    have due : stepCreatable s = true := stepCreatable_iff.mpr ⟨⟨p, c, g, hm⟩, steps, hp⟩
    exact ⟨makeStep_creatable due, fun ha hb da db => execDeferredCreation_some
      ((creationStep_flushless ha hb (.inr ⟨da, db⟩)).trans (if_pos due))⟩
  · have undue : stepCreatable s = false := Bool.eq_false_iff.mpr fun due => by
      obtain ⟨⟨p, c, g, hm⟩, steps, place⟩ := stepCreatable_iff.mp due
      rcases h with h | ⟨r, hr, hk⟩ | full
      · exact h p c g hm
      · exact Bool.false_ne_true ((steps r hr).symm.trans hk)
      · exact Nat.not_lt.mpr full place
    exact ⟨makeStep_unchanged undue, fun ha hb hd => execDeferredCreation_none
      ((creationStep_flushless ha hb hd).trans (if_neg (by simp [undue])))⟩

end Sys2Proof.Table
end

section
/-! The order of the records by the walk over the store, taken without its slots (R52). -/

namespace Sys2Proof.Machine

/-- The numbers of the table's records and the room left for them, whatever the slots hold. -/
def numberedLaw (m₀ k : Nat) (s : State) : Prop := storedLaw m₀ 0 k (s.withSlots [])

section
variable {m₀ top k : Nat} {s : State}

theorem Stored.emptied (h : Stored m₀ top k s) : Stored m₀ 0 k (s.withSlots []) :=
  ⟨⟨h.holders.1, fun _ hx => nomatch hx⟩, h.room, .inl (Nat.zero_le _)⟩

theorem numberedLaw_grows : Grows (numberedLaw m₀ k) where
  rest := by
    intro s t e h
    obtain ⟨_, recs, counter, settings⟩ := store_eq_iff.mp e
    have same : store (t.withSlots []) = store (s.withSlots []) := store_eq_iff.mpr ⟨rfl, recs, counter, settings⟩
    exact storedLaw_grows.rest same h
  recs f s hf h := storedLaw_grows.recs f (s.withSlots []) hf h
  slots _ _ _ h := h
  claims _ _ _ _ _ h := h
  creates r _ s hp hl _ h := storedLaw_grows.creates r [] (s.withSlots []) hp hl (.refl _ _) h

theorem numberedLaw_stepwise (h : seqLaw s) : Stepwise s (numberedLaw (s.nextSeq + 16)) := by
  have emptied : Stepwise (s.withSlots []) (storedLaw (s.nextSeq + 16) (holdings (s.withSlots []))) :=
    storedLaw_stepwise ⟨h, fun _ hx => nomatch hx⟩
  refine ⟨⟨fun _ => numberedLaw_grows, fun k t ht hk => ?_, fun k q t ht hk => ?_⟩, fun hk => ?_, fun x hk => ?_,
    fun t e hk => ?_, fun cut t hk => (powerOn_stored cut t _ 0).emptied⟩
  · obtain ⟨holders, room, held⟩ := ht (by omega)
    exact ⟨holders, by omega, held⟩
  · exact (ht (by omega)).removes q
  · exact (emptied.start hk).emptied
  · exact (emptied.setup x hk).emptied
  · obtain ⟨_, recs, counter, _⟩ := store_eq_iff.mp e
    have next : t.nextSeq = s.nextSeq := congrArg BitVec.toNat counter
    have seqs : seqLaw t := by
      unfold seqLaw
      rwa [recs, next]
    exact next ▸ (controllerReset_stored seqs 0).emptied

end

end Sys2Proof.Machine
end

section
/-! No link WRITE on the secondary, through what the records, the relocations and the mirror itself do (R159, R163): no mirror
becomes BUILDING there and no WRITE is created. The walks above let the mirror become anything, so this law has its own. -/

namespace Sys2Proof.Machine

variable {s t : State}

/-! ### The basic changes -/

/-- No primary is new, and each WRITE stands where one stood. -/
theorem mirrorLaw.of_writes (h : mirrorLaw s) (hp : ∀ p, mirrorPrimary t = some p → mirrorPrimary s = some p)
    (hr : ∀ r ∈ t.recs, isWrite r = true → ∃ x ∈ s.recs, isWrite x = true ∧ x.bay = r.bay) : mirrorLaw t := by
  intro p primary r hm hw
  obtain ⟨x, hx, write, bay⟩ := hr r hm hw
  exact bay ▸ h p (hp p primary) x hx write

theorem mirrorPrimary_of_mirror (h : t.mirror = s.mirror) : mirrorPrimary t = mirrorPrimary s := by
  unfold mirrorPrimary
  rw [h]

theorem mirrorLaw.of_same (h : mirrorLaw s) (hm : t.mirror = s.mirror) (hr : t.recs = s.recs) : mirrorLaw t :=
  h.of_writes (fun _ hp => mirrorPrimary_of_mirror hm ▸ hp) fun r hx hw => ⟨r, hr ▸ hx, hw, rfl⟩

theorem mirrorLaw.of_map (h : mirrorLaw s) (hm : t.mirror = s.mirror) {g : Rec → Rec} (hg : ∀ x, SameAsk x (g x))
    (hr : t.recs = s.recs.map g) : mirrorLaw t :=
  h.of_writes (fun _ hp => mirrorPrimary_of_mirror hm ▸ hp) fun r mem hw => by
    rw [hr] at mem
    obtain ⟨x, hx, rfl⟩ := List.mem_map.mp mem
    exact ⟨x, hx, by rwa [isWrite, (hg x).kind] at hw, (hg x).bay.symm⟩

theorem Closing.mirrorLaw {Q D : Nat → Prop} (c : Closing Q D s t) (h : mirrorLaw s) : mirrorLaw t := by
  obtain ⟨g, kg, hg⟩ := c.recs
  exact h.of_map c.mirror (fun x => (kg x).sameAsk) hg

/-- The mirror comes to stand under no primary, or stays under its own. -/
theorem mirrorLaw.withMirror (h : mirrorLaw s) {m : Mirror}
    (hp : ∀ p, mirrorPrimary (s.withMirror m) = some p → mirrorPrimary s = some p) : mirrorLaw (s.withMirror m) :=
  h.of_writes hp fun r hx hw => ⟨r, hx, hw, rfl⟩

theorem mirrorLaw.withPaired (h : mirrorLaw s) {p : Bay} (primary : mirrorPrimary s = some p) (c g : Nat) (ph : MirrorPhase) :
    mirrorLaw (s.withMirror (.paired p c g ph)) :=
  h.withMirror fun x hx => by
    cases ph with
    | building item => exact primary.trans hx
    | bound => exact primary.trans hx
    | degraded cause => exact nomatch hx

theorem mapRec_mirrorLaw {q : Nat} {f : Rec → Rec} (h : mirrorLaw s)
    (hf : ∀ r, SameAsk r (f r) := by exact fun _ => ⟨rfl, rfl, rfl, rfl, rfl, rfl, rfl⟩) : mirrorLaw (s.mapRec q f) :=
  h.of_map rfl (fun r => (hf r).ite (r.seq = q)) rfl

theorem signalRelease_mirrorLaw (before : State) (h : mirrorLaw s) : mirrorLaw (signalRelease before s) :=
  ((Closing.refl (fun _ => True) (fun _ => True) s).signalRelease before).mirrorLaw h

theorem checkMode_mirrorLaw (b : Bay) (h : mirrorLaw s) : mirrorLaw (checkMode b s) :=
  ((Closing.refl (fun _ => True) (fun _ => True) s).checkMode b).mirrorLaw h

theorem flagRecord_mirrorLaw (q : Nat) (f : Flags → Flags) (h : mirrorLaw s) : mirrorLaw (flagRecord q f s) := by
  unfold flagRecord
  split
  · exact h
  · split
    · exact foldl_keeps (fun _ _ ht => mapRec_mirrorLaw ht) _ _ (mapRec_mirrorLaw h)
    · exact mapRec_mirrorLaw h

/-! ### The stream as its bay's loss acts on it -/

theorem setPhase_mirrorLaw (ph : StreamPhase) (h : mirrorLaw s) : mirrorLaw (setPhase ph s) := by
  unfold setPhase
  split <;> exact h

theorem haltByEject_mirrorLaw (b : Bay) (h : mirrorLaw s) : mirrorLaw (haltByEject b s) := by
  unfold haltByEject
  split
  · exact h
  · split
    · exact setPhase_mirrorLaw _ h
    · exact h

/-! ### Ending -/

theorem endByAlone_mirrorLaw (c : EndCause) (q : Nat) (h : mirrorLaw s) : mirrorLaw (endByAlone c q s) :=
  (Closing.endByAlone (Q := fun _ => True) (D := fun _ => True) trivial fun _ _ => trivial).mirrorLaw h

theorem cancelFallbacks_mirrorLaw (q : Nat) (h : mirrorLaw s) : mirrorLaw (cancelFallbacks q s) :=
  foldl_keeps (fun _ x ht => endByAlone_mirrorLaw .cancelled x ht) _ _ h

theorem enterEnding_mirrorLaw (q : Nat) (h : mirrorLaw s) : mirrorLaw (enterEnding q s) := by
  have alone : mirrorLaw (enterEndingAlone q s) :=
    (Closing.enterEndingAlone (Q := fun _ => True) (D := fun _ => True) trivial).mirrorLaw h
  unfold enterEnding
  split
  · exact h
  · split
    · exact cancelFallbacks_mirrorLaw q alone
    · exact alone

theorem endBy_mirrorLaw (c : EndCause) (q : Nat) (h : mirrorLaw s) : mirrorLaw (endBy c q s) := by
  unfold endBy
  split
  · exact h
  · split
    · exact cancelFallbacks_mirrorLaw q (endByAlone_mirrorLaw c q h)
    · exact endByAlone_mirrorLaw c q h

theorem abandonAll_mirrorLaw (b : Bay) (p : Rec → Bool) (h : mirrorLaw s) : mirrorLaw (abandonAll b p s) :=
  foldl_keeps (fun _ q ht => endBy_mirrorLaw .abandoned q ht) _ _ h

/-! ### The mirror's own changes -/

theorem unbindMirror_mirrorLaw (report : Bool) (h : mirrorLaw s) : mirrorLaw (unbindMirror report s) := by
  unfold unbindMirror
  split
  · exact h
  · have dissolved := (cancelMirror_closing (s.withMirror .unbound)).mirrorLaw (h.withMirror fun _ hp => nomatch hp)
    dsimp only
    split <;> exact dissolved

theorem degrade_mirrorLaw (c : DegradeCause) (h : mirrorLaw s) : mirrorLaw (degrade c s) := by
  unfold degrade
  split
  · exact h
  · exact h
  · exact (cancelMirror_closing (s.withMirror _)).mirrorLaw (h.withMirror fun _ hp => nomatch hp)

theorem stepOutcome_mirrorLaw (r : Rec) (h : mirrorLaw s) : mirrorLaw (stepOutcome r s) := by
  unfold stepOutcome
  split
  · rename_i p c g hm
    have primary : mirrorPrimary s = some p := by
      unfold mirrorPrimary
      rw [hm]
    split
    · exact h
    · split
      · exact degrade_mirrorLaw _ h
      · split
        · exact h.withPaired primary _ _ _
        · exact h.withPaired primary Config.userSectors (g + gapsOf r) .bound
  · exact h

/-! ### Records created -/

/-- The record created is no WRITE on the secondary. -/
theorem createRec_mirrorLaw_of {r : Rec} (hr : isWrite r = true → ∀ p, mirrorPrimary s = some p → r.bay ≠ p.other)
    (h : mirrorLaw s) : mirrorLaw (createRec r s) := by
  have created : mirrorLaw (withCreated r s) := fun p primary x hx hw => by
    rcases List.mem_append.mp hx with old | new
    · exact h p primary x old hw
    · obtain rfl := List.mem_singleton.mp new
      exact hr hw p primary
  exact created.of_same (createRec_mirror s r) (by rw [(store_eq_iff.mp (store_createRec r)).2.1])

theorem createRec_mirrorLaw {r : Rec} (hr : isWrite r = false) (h : mirrorLaw s) : mirrorLaw (createRec r s) :=
  createRec_mirrorLaw_of (fun hw => absurd hw (Bool.eq_false_iff.mp hr)) h

theorem createInternal_mirrorLaw {r : Rec} (hr : isWrite r = false) (h : mirrorLaw s) : mirrorLaw (createInternal r s) := by
  unfold createInternal
  dsimp only
  split
  · exact endBy_mirrorLaw _ _ (createRec_mirrorLaw hr h)
  · exact createRec_mirrorLaw hr h

theorem createFlush_mirrorLaw (b : Bay) (h : mirrorLaw s) : mirrorLaw (createFlush b s) :=
  createInternal_mirrorLaw (s := s.mapMap b _) rfl h

theorem askFlush_mirrorLaw (b : Bay) (h : mirrorLaw s) : mirrorLaw (askFlush b s) := by
  unfold askFlush
  split
  · exact h
  · exact createFlush_mirrorLaw b h

theorem createStep_mirrorLaw (h : mirrorLaw s) : mirrorLaw (createStep s) := by
  unfold createStep
  split
  · rename_i p c g item hm
    have primary : mirrorPrimary s = some p := by
      unfold mirrorPrimary
      rw [hm]
    exact createInternal_mirrorLaw rfl (h.withPaired primary _ _ _)
  · exact h

theorem creations_mirrorLaw (h : mirrorLaw s) : mirrorLaw (deferredCreations s) :=
  deferredCreations_keeps s (fun b _ ht => createFlush_mirrorLaw b ht) (fun _ ht => createStep_mirrorLaw ht) h

theorem creationStep_mirrorLaw (e : creationStep s = some t) (h : mirrorLaw s) : mirrorLaw t := by
  unfold creationStep at e
  split at e
  · cases e
    exact askFlush_mirrorLaw _ h
  · split at e
    · cases e
      exact askFlush_mirrorLaw _ h
    · split at e
      · cases e
        exact createFlush_mirrorLaw _ h
      · split at e
        · cases e
          exact createFlush_mirrorLaw _ h
        · split at e
          · cases e
            exact createStep_mirrorLaw h
          · exact nomatch e

/-! ### Relocations -/

theorem spareLowTest_mirrorLaw (b : Bay) (h : mirrorLaw s) : mirrorLaw (spareLowTest b s) := by
  unfold spareLowTest
  split
  · exact h
  · split <;> exact h

theorem noSpare_mirrorLaw (q i : Nat) (h : mirrorLaw s) : mirrorLaw (noSpare q i s) := by
  unfold noSpare
  split
  · exact h
  · dsimp only
    split
    · exact degrade_mirrorLaw _ (flagRecord_mirrorLaw q _ (mapRec_mirrorLaw h))
    · exact mapRec_mirrorLaw h

theorem assignSpare_mirrorLaw (q i : Nat) (h : mirrorLaw s) : mirrorLaw (assignSpare q i s) := by
  unfold assignSpare
  split
  · exact h
  · split
    · exact h
    · split
      · exact h
      · split
        · exact noSpare_mirrorLaw q i h
        · split
          · exact noSpare_mirrorLaw q i h
          · exact spareLowTest_mirrorLaw _ (mapRec_mirrorLaw (s := s.mapMap _ _) h)

theorem recordMove_mirrorLaw (q i x : Nat) (h : mirrorLaw s) : mirrorLaw (recordMove q i x s) := by
  unfold recordMove
  split
  · exact h
  · split
    · exact noSpare_mirrorLaw q i h
    · split
      · exact noSpare_mirrorLaw q i h
      · exact spareLowTest_mirrorLaw _ (flagRecord_mirrorLaw q _ (mapRec_mirrorLaw (s := s.mapMap _ _) h))

theorem requestRelocate_mirrorLaw (v : Variety) (b : Bay) (n : Nat) (bytes : Data) (source : Nat) (h : mirrorLaw s) :
    mirrorLaw (requestRelocate v b n bytes source s) := by
  unfold requestRelocate
  exact iteInduction (fun _ => h) fun _ =>
    assignSpare_mirrorLaw _ _ (createInternal_mirrorLaw (s := fillSlot _ _ (claim _ 1 s).1) rfl h)

/-! ### Frames and outcomes -/

theorem queueFrom_mirrorLaw (r : Rec) (xs : List Sector) (i : Nat) (h : mirrorLaw s) : mirrorLaw (queueFrom r i xs s) := by
  induction xs generalizing i s with
  | nil => exact h
  | cons x xs ih =>
    unfold queueFrom
    split
    · refine ih _ ?_
      unfold queueOne
      dsimp only
      split <;> exact mapRec_mirrorLaw (s := reply _ _ _ _ s) h
    · exact h

theorem queueFrames_mirrorLaw (q : Nat) (h : mirrorLaw s) : mirrorLaw (queueFrames q s) := by
  unfold queueFrames
  split
  · exact h
  · split
    · exact queueFrom_mirrorLaw _ _ _ h
    · exact h

theorem fallbackOutcome_mirrorLaw (f : Rec) (h : mirrorLaw s) : mirrorLaw (fallbackOutcome f s) := by
  unfold fallbackOutcome
  split
  · exact h
  · dsimp only
    split
    · exact h
    · split
      · exact h
      · split
        · refine queueFrames_mirrorLaw _ ?_
          split
          · exact requestRelocate_mirrorLaw _ _ _ _ _ (mapRec_mirrorLaw h)
          · exact mapRec_mirrorLaw h
        · exact queueFrames_mirrorLaw _ (mapRec_mirrorLaw h)

theorem removeRec_mirrorLaw (q : Nat) (h : mirrorLaw s) : mirrorLaw (removeRec q s) :=
  h.of_writes (fun _ => id) fun r hr hw => by
    obtain ⟨x, hx, rfl⟩ := List.mem_map.mp hr
    exact ⟨x, List.mem_of_mem_filter hx, hw, rfl⟩

theorem leaveTable_mirrorLaw (q : Nat) (h : mirrorLaw s) : mirrorLaw (leaveTable q s) := by
  have removed := removeRec_mirrorLaw q h
  unfold leaveTable
  split
  · exact h
  · dsimp only
    split
    · exact creations_mirrorLaw (s := reply _ _ _ _ (removeRec q s)) removed
    · split
      · exact fallbackOutcome_mirrorLaw _ (creations_mirrorLaw removed)
      · split
        · exact creations_mirrorLaw (stepOutcome_mirrorLaw _ removed)
        · exact creations_mirrorLaw removed

end Sys2Proof.Machine
end

section
/-! No link WRITE on the secondary, through the stream's feed, the decisions, the completion of a pass, and all that follows at
once (R159). -/

namespace Sys2Proof.Machine

variable {s t : State}

/-! ### The feed -/

theorem primingTest_mirrorLaw (h : mirrorLaw s) : mirrorLaw (primingTest s) := by
  unfold primingTest
  split
  · exact h
  · split
    · exact setPhase_mirrorLaw _ h
    · exact h

theorem lowTest_mirrorLaw (h : mirrorLaw s) : mirrorLaw (lowTest s) := by
  unfold lowTest
  split
  · exact h
  · split <;> exact h

theorem enterFeed_mirrorLaw (x : Band) (b : Bay) (l : List (Nat × Found)) (h : mirrorLaw s) :
    mirrorLaw (enterFeed x b l s) := by
  induction l generalizing s with
  | nil => exact h
  | cons y l ih =>
    refine ih ?_
    split <;> exact h

theorem completeFeed_mirrorLaw (n : Nat) (found : List (Nat × Found)) (h : mirrorLaw s) :
    mirrorLaw (completeFeed n found s) := by
  unfold completeFeed
  split
  · exact h
  · dsimp only
    split
    · exact h
    · exact primingTest_mirrorLaw (enterFeed_mirrorLaw (s := s.withStream _) _ _ _ h)

theorem feedThrough_mirrorLaw (n : Nat) (h : mirrorLaw s) : mirrorLaw (feedThrough n s) := by
  induction n generalizing s with
  | zero => exact h
  | succ n ih =>
    unfold feedThrough
    split
    · split
      · exact h
      · split
        · exact h
        · split
          · exact ih (primingTest_mirrorLaw (s := s.mapStream _) h)
          · exact h
    · exact h

theorem startFeed_mirrorLaw (h : mirrorLaw s) : mirrorLaw (startFeed s) := by
  unfold startFeed
  split
  · exact h
  · split <;> exact h

/-! ### Planning and stalls -/

theorem takeThrough_mirrorLaw (q i : Nat) (slot : Option Nat) (d : Data) (h : mirrorLaw s) :
    mirrorLaw (takeThrough q i slot d s) := by
  unfold takeThrough
  refine queueFrames_mirrorLaw q (mapRec_mirrorLaw ?_)
  split <;> exact h

theorem claimThrough_mirrorLaw (q i : Nat) (d : Data) (h : mirrorLaw s) : mirrorLaw (claimThrough q i d s) :=
  takeThrough_mirrorLaw _ _ _ _ (mapRec_mirrorLaw (s := (claim (.record q) 1 s).1) h)

theorem planRead_mirrorLaw (q n : Nat) (h : mirrorLaw s) : mirrorLaw (planRead q n s).1 := by
  induction n generalizing s with
  | zero => exact h
  | succ n ih =>
    unfold planRead
    split
    · exact h
    · split
      · exact h
      · split
        · exact h
        · split
          · split
            · exact ih (takeThrough_mirrorLaw _ _ _ _ h)
            · split
              · exact h
              · exact ih (claimThrough_mirrorLaw _ _ _ h)
          · split
            · exact h
            · exact ih (takeThrough_mirrorLaw _ _ _ _ h)

theorem planRec_mirrorLaw (q : Nat) (h : mirrorLaw s) : mirrorLaw (planRec q s).1 := by
  unfold planRec
  split
  · exact h
  · split
    · exact planRead_mirrorLaw q _ h
    · exact h

theorem stall_mirrorLaw (b : Bay) (q : Nat) (h : mirrorLaw s) : mirrorLaw (stall b q s) :=
  checkMode_mirrorLaw b (mapRec_mirrorLaw (q := q) (f := fun x => { x with state := .waiting, stalled := true }) h)

theorem finishRecord_mirrorLaw (q : Nat) (h : mirrorLaw s) : mirrorLaw (finishRecord q s) := by
  have writes : mirrorLaw (toWritePhase q s) := by
    unfold toWritePhase
    split
    · exact h
    · exact mapRec_mirrorLaw (checkMode_mirrorLaw (s := s.mapSched _ _) _ h)
  unfold finishRecord
  split
  · exact h
  · split
    · exact writes
    · exact enterEnding_mirrorLaw q h

/-! ### Pass start -/

theorem assignSlots_mirrorLaw (q : Nat) (is js : List Nat) (h : mirrorLaw s) : mirrorLaw (assignSlots q is js s) := by
  induction is generalizing js s with
  | nil => exact h
  | cons i is ih =>
    cases js with
    | nil => exact h
    | cons j js => exact ih js (mapRec_mirrorLaw h)

theorem firstStart_mirrorLaw (r : Rec) (h : mirrorLaw s) : mirrorLaw (firstStart r s) := by
  unfold firstStart
  split
  · exact h
  · exact h
  · unfold takeFlushImage
    split <;> exact h
  · exact assignSlots_mirrorLaw (s := (claim _ 17 s).1) _ _ _ h
  · exact h

theorem makeActive_mirrorLaw (b : Bay) (q : Nat) (h : mirrorLaw s) : mirrorLaw (makeActive b q s) := by
  have placed : mirrorLaw (match (s.schedOf b).active with
      | some a =>
        if a = q then s
        else (s.mapRec a fun x => { x with state := .suspended }).mapSched b fun c => { c with stack := a :: c.stack }
      | none =>
        if (s.schedOf b).stack.head? = some q then checkMode b (s.mapSched b fun c => { c with stack := c.stack.tail })
        else s) := by
    split
    · split
      · exact h
      · exact mapRec_mirrorLaw h
    · split
      · exact checkMode_mirrorLaw (s := s.mapSched b _) b h
      · exact h
  exact mapRec_mirrorLaw (q := q) (f := fun x => { x with state := .active, started := true, stalled := false }) placed

theorem startPass_mirrorLaw (b : Bay) (q : Nat) (p : Plan) (n : Nat) (h : mirrorLaw s) : mirrorLaw (startPass b q p n s) := by
  unfold startPass
  split
  · exact h
  · rename_i r _
    have begun : mirrorLaw (if r.started then s else firstStart r s) := by
      split
      · exact h
      · exact firstStart_mirrorLaw r h
    refine makeActive_mirrorLaw b q ?_
    dsimp only
    split
    · exact assignSlots_mirrorLaw (s := (claim _ _ _).1) _ _ _ begun
    · exact begun

/-! ### The decision -/

theorem tryPlanned_mirrorLaw (b : Bay) (q : Nat) (p : Plan) (refused : Bool) (h : mirrorLaw s) :
    mirrorLaw (tryPlanned b q p refused s).state := by
  unfold tryPlanned
  split
  · exact startPass_mirrorLaw b q p _ h
  · exact h

theorem tryWaiting_mirrorLaw (b : Bay) (qs : List Nat) (refused : Bool) (h : mirrorLaw s) :
    mirrorLaw (tryWaiting b qs refused s).state := by
  induction qs generalizing refused s with
  | nil => exact h
  | cons q qs ih =>
    have planned := planRec_mirrorLaw q h
    unfold tryWaiting
    split <;> rename_i u _ hu <;> rw [hu] at planned
    · exact ih _ (mapRec_mirrorLaw planned)
    · exact ih _ (finishRecord_mirrorLaw q planned)
    · have tried := fun p => tryPlanned_mirrorLaw b q p refused planned
      dsimp only
      split
      · exact tried _
      · exact ih _ (tried _)

theorem tryStack_mirrorLaw (b : Bay) (n : Nat) (refused : Bool) (h : mirrorLaw s) :
    mirrorLaw (tryStack b n refused s).state := by
  induction n generalizing refused s with
  | zero => exact h
  | succ n ih =>
    unfold tryStack
    split
    · exact tryWaiting_mirrorLaw b _ _ h
    · rename_i q _ _
      have waited := tryWaiting_mirrorLaw b (candidates s b (levelOf s (some q))) refused h
      dsimp only
      split
      · exact waited
      · have planned := planRec_mirrorLaw q waited
        split <;> rename_i u _ hu <;> rw [hu] at planned
        · exact tryPlanned_mirrorLaw b q _ _ planned
        · exact ih _ (stall_mirrorLaw b q planned)
        · exact ih _ (finishRecord_mirrorLaw q planned)

theorem tryActive_mirrorLaw (b : Bay) (q : Nat) (refused : Bool) (h : mirrorLaw s) :
    mirrorLaw (tryActive b q refused s).state := by
  have planned := planRec_mirrorLaw q h
  unfold tryActive
  split <;> rename_i u _ hu <;> rw [hu] at planned
  · exact tryPlanned_mirrorLaw b q _ _ planned
  · exact tryStack_mirrorLaw b _ _ (stall_mirrorLaw b q planned)
  · exact tryStack_mirrorLaw b _ _ (finishRecord_mirrorLaw q planned)

theorem tryRecords_mirrorLaw (b : Bay) (h : mirrorLaw s) : mirrorLaw (tryRecords b s).state := by
  unfold tryRecords
  split
  · exact tryStack_mirrorLaw b _ _ h
  · rename_i q _
    have planned := planRec_mirrorLaw q h
    split <;> rename_i u _ hu <;> rw [hu] at planned
    · exact tryStack_mirrorLaw b _ _ (stall_mirrorLaw b q planned)
    · exact tryStack_mirrorLaw b _ _ (finishRecord_mirrorLaw q planned)
    · split
      · have waited := tryWaiting_mirrorLaw b (candidates u b (levelOf u (some q))) false planned
        dsimp only
        split
        · exact waited
        · exact tryActive_mirrorLaw b q _ waited
      · exact tryActive_mirrorLaw b q _ planned

theorem considered_mirrorLaw (b : Bay) (h : mirrorLaw s) : mirrorLaw (considered b s) := by
  have cleared : mirrorLaw (clearStalled b (answerTrigger b s)) :=
    h.of_map (g := fun r => if schedBay r = b then { r with stalled := false } else r) rfl
      (fun _ => SameAsk.ite _ ⟨rfl, rfl, rfl, rfl, rfl, rfl, rfl⟩) rfl
  unfold considered feedFirst
  split
  · split
    · exact feedThrough_mirrorLaw _ cleared
    · exact cleared
  · exact cleared

theorem makeDecision_mirrorLaw (b : Bay) (h : mirrorLaw s) : mirrorLaw (makeDecision b s) := by
  unfold makeDecision
  split
  · exact h
  · split
    · exact h
    · have looked := considered_mirrorLaw b h
      dsimp only
      split
      · exact startFeed_mirrorLaw looked
      · have tried := tryRecords_mirrorLaw b looked
        unfold recordOutcome
        split <;> exact tried

/-! ### The completion of a pass -/

theorem noteTries_mirrorLaw (q n : Nat) (h : mirrorLaw s) : mirrorLaw (noteTries q n s) :=
  noteTries_keeps (fun _ _ ht => mapRec_mirrorLaw ht) q n h

theorem readGivesUp_mirrorLaw (r : Rec) (i : Nat) (h : mirrorLaw s) : mirrorLaw (readGivesUp r i s) := by
  unfold readGivesUp
  split
  · exact createInternal_mirrorLaw rfl (mapRec_mirrorLaw h)
  · exact mapRec_mirrorLaw h

theorem readDelivers_mirrorLaw (r : Rec) (i n : Nat) (d : Data) (h : mirrorLaw s) : mirrorLaw (readDelivers r i n d s) := by
  have filled : mirrorLaw (match readSlot s r i with
      | some j => fillSlot j (some d) s
      | none => s) := by
    split <;> exact h
  unfold readDelivers
  dsimp only
  split
  · exact requestRelocate_mirrorLaw _ _ _ _ _ (mapRec_mirrorLaw filled)
  · exact mapRec_mirrorLaw filled

theorem settleRead_mirrorLaw (q i : Nat) (found : Found) (h : mirrorLaw s) : mirrorLaw (settleRead q i found s) := by
  unfold settleRead
  split
  · exact h
  · have noted := fun n => noteTries_mirrorLaw q n h
    cases found with
    | data d n => exact readDelivers_mirrorLaw _ _ _ _ (noted _)
    | blank => exact mapRec_mirrorLaw (noted _)
    | failed n => exact iteInduction (fun _ => readGivesUp_mirrorLaw _ _ (noted _)) fun _ => mapRec_mirrorLaw (noted _)

theorem verifyGivesUp_mirrorLaw (r : Rec) (i : Nat) (c : Cause) (h : mirrorLaw s) : mirrorLaw (verifyGivesUp r i c s) := by
  unfold verifyGivesUp
  split
  · exact mapRec_mirrorLaw h
  · split
    · exact mapRec_mirrorLaw h
    · exact assignSpare_mirrorLaw _ _ (mapRec_mirrorLaw h)

theorem settleVerify_mirrorLaw (q i : Nat) (found : Found) (bytes : Data) (h : mirrorLaw s) :
    mirrorLaw (settleVerify q i found bytes s) := by
  unfold settleVerify
  split
  · exact h
  · have noted := fun n => noteTries_mirrorLaw q n h
    dsimp only
    split
    · exact mapRec_mirrorLaw (noted _)
    · exact verifyGivesUp_mirrorLaw _ _ _ (noted _)
    · exact verifyGivesUp_mirrorLaw _ _ _ (noted _)
    · exact iteInduction (fun _ => verifyGivesUp_mirrorLaw _ _ _ (noted _)) fun _ => mapRec_mirrorLaw (noted _)

theorem settleTryVerify_mirrorLaw (q i : Nat) (found : Found) (bytes : Data) (h : mirrorLaw s) :
    mirrorLaw (settleTryVerify q i found bytes s) := by
  unfold settleTryVerify
  split
  · exact h
  · split
    · exact h
    · have noted := fun n => noteTries_mirrorLaw q n h
      dsimp only
      split
      · exact recordMove_mirrorLaw _ _ _ (noted _)
      · exact assignSpare_mirrorLaw _ _ (noted _)
      · exact assignSpare_mirrorLaw _ _ (noted _)
      · exact iteInduction (fun _ => assignSpare_mirrorLaw _ _ (noted _)) fun _ => mapRec_mirrorLaw (noted _)

theorem settleSector_mirrorLaw (q : Nat) (p : Pass) (rs : List SectorResponse) (m : Medium) (j i : Nat) (h : mirrorLaw s) :
    mirrorLaw (settleSector q p rs m j i s) := by
  have advanced : ∀ pr, mirrorLaw (advance q i p.relocation pr s) := fun pr => by
    unfold advance
    split <;> exact mapRec_mirrorLaw h
  unfold settleSector
  split
  · exact advanced _
  · exact advanced _
  · exact settleRead_mirrorLaw _ _ _ h
  · split
    · exact settleTryVerify_mirrorLaw _ _ _ _ h
    · exact settleVerify_mirrorLaw _ _ _ _ h

theorem settleSectors_mirrorLaw (q : Nat) (p : Pass) (rs : List SectorResponse) (m : Medium) (is : List Nat) (j : Nat)
    (h : mirrorLaw s) : mirrorLaw (settleSectors q p rs m j is s) := by
  induction is generalizing j s with
  | nil => exact h
  | cons i is ih => exact ih (j + 1) (settleSector_mirrorLaw q p rs m j i h)

theorem ownerEnds_mirrorLaw (q : Nat) (h : mirrorLaw s) : mirrorLaw (ownerEnds q s) := by
  unfold ownerEnds
  split
  · exact h
  · split
    · exact enterEnding_mirrorLaw q h
    · split
      · exact finishRecord_mirrorLaw q h
      · exact h

theorem setInhibit_mirrorLaw (b : Bay) (h : mirrorLaw s) : mirrorLaw (setInhibit b s) := by
  have set : mirrorLaw (raise b .mediaAlert (s.mapMech b fun m => { m with inhibit := true })) := h
  have flushed := foldl_keeps (P := mirrorLaw) (fun _ q ht => endByAlone_mirrorLaw .cancelled q ht)
    (seqsOf (raise b .mediaAlert (s.mapMech b fun m => { m with inhibit := true }))
      fun r => isFlush r && decide (r.bay = b) && !r.started && unfinished r) _ set
  unfold setInhibit
  dsimp only
  split
  · exact degrade_mirrorLaw (s := State.mapMap _ b _) _ flushed
  · exact flushed

theorem labelRoundEnd_mirrorLaw (q : Nat) (h : mirrorLaw s) : mirrorLaw (labelRoundEnd q s) := by
  have succeeds : ∀ r, mirrorLaw (labelSucceeds r s) := fun r => by
    unfold labelSucceeds
    split <;> exact h
  have fails : ∀ base r, mirrorLaw (labelFails base r s) := fun base r => by
    have noted : mirrorLaw (s.mapRec r.seq fun x => { x with failures := x.failures ++ labelFailures base r }) :=
      mapRec_mirrorLaw h
    unfold labelFails
    dsimp only
    split
    · exact noted
    · exact setInhibit_mirrorLaw (s := State.mapMap _ r.bay _) _ noted
    · exact setInhibit_mirrorLaw _ noted
  unfold labelRoundEnd
  split
  · exact h
  · dsimp only
    split
    · exact h
    · split
      · exact succeeds _
      · split
        · exact mapRec_mirrorLaw h
        · exact fails _ _

theorem completePass_mirrorLaw (b : Bay) (rs : List SectorResponse) (h : mirrorLaw s) : mirrorLaw (completePass b rs s) := by
  have handed : ∀ p m u, mirrorLaw u → mirrorLaw (handOutcomes b p rs m u) := fun p m u hu => by
    unfold handOutcomes
    split
    · exact ownerEnds_mirrorLaw _ (labelRoundEnd_mirrorLaw _ (queueFrames_mirrorLaw _
        (settleSectors_mirrorLaw _ _ _ _ _ _ hu)))
    · exact completeFeed_mirrorLaw _ _ hu
    · exact signalRelease_mirrorLaw (s := u.withSlots _) u hu
  unfold completePass
  split
  · exact h
  · exact handed _ _ _ h

/-! ### All that follows at once -/

theorem release_mirrorLaw (b : Bay) (h : mirrorLaw s) : mirrorLaw (release b s) :=
  foldl_keeps (fun _ q ht => enterEnding_mirrorLaw q ht) _ _ h

theorem beginStop_mirrorLaw (b : Bay) (h : mirrorLaw s) : mirrorLaw (beginStop b s) :=
  h.of_map (g := fun r => if isEject r && decide (r.bay = b) then { r with state := .active } else r) rfl
    (fun _ => SameAsk.ite _ ⟨rfl, rfl, rfl, rfl, rfl, rfl, rfl⟩) rfl

theorem ejectStep_mirrorLaw (b : Bay) (e : ejectStep b s = some t) (h : mirrorLaw s) : mirrorLaw t := by
  unfold ejectStep at e
  split at e
  · split at e
    · cases e
      exact beginStop_mirrorLaw b h
    · cases e
      exact release_mirrorLaw b h
    · exact nomatch e
  · exact nomatch e

theorem nextStep_mirrorLaw (e : nextStep s = some t) (h : mirrorLaw s) : mirrorLaw t := by
  rcases nextStep_cases e with e | e | ⟨b, e⟩ | e
  · exact creationStep_mirrorLaw e h
  · obtain ⟨q, rfl | rfl⟩ := leaveStep_cases e
    · exact leaveTable_mirrorLaw q h
    · exact leaveTable_mirrorLaw (s := s.choose) q h
  · exact ejectStep_mirrorLaw b e h
  · obtain ⟨b, rfl | rfl⟩ := decisionStep_cases e
    · exact makeDecision_mirrorLaw b h
    · exact makeDecision_mirrorLaw (s := s.choose) b h

theorem conclude_mirrorLaw (h : mirrorLaw s) : mirrorLaw (conclude s) :=
  conclude_keeps (fun _ _ => nextStep_mirrorLaw) (fun b u hu => by
    unfold setTimer
    split <;> exact hu) (fun _ => id) s h

end Sys2Proof.Machine
end

section
/-! No link WRITE on the secondary, through the commands (R55, R159). -/

namespace Sys2Proof.Machine

variable {s t : State}

/-! ### Requests that create records -/

theorem takeAsk_mirrorLaw {a : Ask} {accept : Bay → State → State} (h : mirrorLaw s)
    (ha : ∀ b, (∀ p ∈ bayChecks s a b, p.1 = false) → mirrorLaw (accept b s)) : mirrorLaw (takeAsk a accept s) := by
  cases hc : requestCode s a with
  | some c =>
    rw [takeAsk_refused hc]
    exact h
  | none =>
    obtain ⟨b, hb, _, checks⟩ := requestCode_eq_none.mp hc
    rw [takeAsk_accepted hc hb]
    exact conclude_mirrorLaw (ha b checks)

/-- A WRITE that is not refused is not addressed to the secondary (R55). -/
theorem primary_of_mirrorBars {b : Bay} (h : mirrorBars s b .write = false) (p : Bay) (hp : mirrorPrimary s = some p) :
    b ≠ p.other := by
  rintro rfl
  simp [mirrorBars, isSecondary, hp, Bay.other_other] at h

theorem takeWrite_mirrorLaw (ch tag : Nat) (bay : Option Bay) (first count level : Nat) (h : mirrorLaw s) :
    mirrorLaw (takeWrite ch tag bay first count level s) := by
  refine takeAsk_mirrorLaw h fun b checks => ?_
  obtain ⟨_, _, _, _, _, bars, _⟩ := bayChecks_pass.mp checks
  have created := fun r (hr : r.bay = b) =>
    createRec_mirrorLaw_of (r := r) (s := (claim (.record s.nextSeq) count s).1)
      (fun _ p hp => hr ▸ primary_of_mirrorBars bars p hp) h
  unfold acceptWrite
  dsimp only
  split
  · exact createInternal_mirrorLaw (s := shareSlots _ _ _) rfl (mapRec_mirrorLaw (created _ rfl))
  · exact created _ rfl

theorem beginEject_mirrorLaw (a : Ask) (kind : EjectKind) (b : Bay) (ha : isWrite (askRec a b [] []) = false)
    (h : mirrorLaw s) : mirrorLaw (beginEject a kind b s) := by
  have created := fun x : RecState =>
    createRec_mirrorLaw (r := { askRec a b [] [] with state := x }) ha h
  unfold beginEject
  dsimp only
  split
  · exact release_mirrorLaw b (created _)
  · exact created _

theorem takePrepare_mirrorLaw (ch tag : Nat) (bay : Option Bay) (serial : BitVec 32) (name : Data) (h : mirrorLaw s) :
    mirrorLaw (takePrepare ch tag bay serial name s) := by
  unfold takePrepare
  split
  · exact takeAsk_mirrorLaw h fun _ _ => createRec_mirrorLaw rfl h
  · exact h

/-! ### The other requests -/

theorem takeSector_mirrorLaw (ch tag index : Nat) (status : Option SectorStatus) (data : Data) (h : mirrorLaw s) :
    mirrorLaw (takeSector ch tag index status data s) := by
  have accepted : ∀ r, mirrorLaw (acceptSector r index data s) := fun r => by
    have filled : mirrorLaw (match r.sectors[index]?.bind Sector.slot with
        | some j => fillSlot j (some data) s
        | none => s) := by
      split <;> exact h
    have copies : ∀ u, mirrorLaw u → mirrorLaw (triggerCopies r u) := fun u hu =>
      foldl_keeps (P := mirrorLaw) (f := fun t (o : Rec) => trigger o.bay t) (fun _ _ ht => ht) _ _ hu
    exact ((Closing.refl (fun _ => True) (fun _ => True) _).trans (.signalHoldEnds s)).mirrorLaw
      (copies _ (mapRec_mirrorLaw filled))
  unfold takeSector
  split
  · split
    · exact conclude_mirrorLaw (accepted _)
    · exact h
    · exact h
  · exact h

theorem cancelRec_mirrorLaw (r : Rec) (h : mirrorLaw s) : mirrorLaw (cancelRec r s) := by
  unfold cancelRec
  split
  · exact h
  · split
    · unfold cancelEject
      split
      · exact endBy_mirrorLaw .cancelled r.seq h
      · exact mapRec_mirrorLaw h
    · split
      · exact h
      · split
        · exact foldl_keeps (fun _ q ht => endBy_mirrorLaw .cancelled q ht) _ _ (endBy_mirrorLaw _ _ h)
        · exact endBy_mirrorLaw _ _ h

theorem takeCancel_mirrorLaw (ch tag target : Nat) (h : mirrorLaw s) : mirrorLaw (takeCancel ch tag target s) := by
  unfold takeCancel
  split
  · exact h
  · exact conclude_mirrorLaw (cancelRec_mirrorLaw (s := doneNow ch tag 0 s) _ h)

theorem acceptSetup_mirrorLaw (f : SetupFields) (h : mirrorLaw s) : mirrorLaw (acceptSetup f s) := by
  have mode : ∀ b x u, mirrorLaw u → mirrorLaw (setMode b x u) := fun b x u hu => by
    unfold setMode
    dsimp only
    split <;> exact hu
  have timer : ∀ b o u, mirrorLaw u → mirrorLaw (retime b o u) := fun b o u hu => by
    unfold retime
    split <;> exact hu
  have cap : ∀ o u, mirrorLaw u → mirrorLaw (capTriggers o u) := fun o u hu => by
    unfold capTriggers
    split <;> exact hu
  have margin : ∀ o u, mirrorLaw u → mirrorLaw (marginTriggers o u) := fun o u hu => by
    unfold marginTriggers
    split
    · split <;> exact hu
    · exact hu
  exact margin _ _ (cap _ _ (timer _ _ _ (timer _ _ _ (mode _ _ _ (mode _ _ (s.withSettings _) h)))))

theorem takeSetup_mirrorLaw (ch tag : Nat) (f : SetupFields) (h : mirrorLaw s) : mirrorLaw (takeSetup ch tag f s) := by
  unfold takeSetup
  split
  · exact h
  · split
    · exact h
    · exact conclude_mirrorLaw (s := reply _ _ _ _ _) (acceptSetup_mirrorLaw f h)

theorem controllerReset_mirrorLaw (s : State) : mirrorLaw (controllerReset s) := fun _ hp => nomatch hp

theorem takeReset_mirrorLaw (ch tag : Nat) (h : mirrorLaw s) : mirrorLaw (takeReset ch tag s) := by
  unfold takeReset
  split
  · exact conclude_mirrorLaw (s := doneNow _ _ _ _) (controllerReset_mirrorLaw s)
  · exact h

/-- A BIND that is not refused finds no WRITE on the secondary (R159). -/
theorem acceptBind_mirrorLaw {p : Bay} (h : firstCode (bindChecks s p) = none) : mirrorLaw (acceptBind p s) := by
  have checks := firstCode_eq_none.mp h
  simp only [bindChecks, List.forall_mem_cons] at checks
  obtain ⟨_, _, _, _, _, writes, _⟩ := checks
  intro q hq r hr hw
  have primary : p = q := Option.some.inj hq
  subst primary
  intro bay
  exact List.any_eq_false.mp writes r hr (by simp [bay, hw])

theorem takeBind_mirrorLaw (ch tag : Nat) (primary : Option Bay) (h : mirrorLaw s) : mirrorLaw (takeBind ch tag primary s) := by
  unfold takeBind
  split
  · exact h
  · split
    · exact h
    · rename_i p _ passed
      exact conclude_mirrorLaw (s := doneNow ch tag 0 (acceptBind p s)) (acceptBind_mirrorLaw (s := s) passed)

/-! ### The stream's requests -/

theorem takeOpenStream_mirrorLaw (ch tag : Nat) (bay : Option Bay) (ring line pace : Nat) (marks : Option Marks)
    (h : mirrorLaw s) : mirrorLaw (takeOpenStream ch tag bay ring line pace marks s) := by
  unfold takeOpenStream
  split
  · exact conclude_mirrorLaw h
  · exact h
  · exact h

theorem takeSetMarks_mirrorLaw (ch tag : Nat) (marks : Marks) (h : mirrorLaw s) : mirrorLaw (takeSetMarks ch tag marks s) := by
  unfold takeSetMarks
  split
  · exact h
  · exact conclude_mirrorLaw (s := reply _ _ _ _ _) (primingTest_mirrorLaw (s := s.withStream _) h)

theorem takeAppendBand_mirrorLaw (ch tag first length : Nat) (h : mirrorLaw s) :
    mirrorLaw (takeAppendBand ch tag first length s) := by
  unfold takeAppendBand
  split
  · exact h
  · split
    · exact h
    · exact conclude_mirrorLaw h

theorem takeStartStream_mirrorLaw (ch tag : Nat) (h : mirrorLaw s) : mirrorLaw (takeStartStream ch tag s) := by
  have accepted : ∀ x, mirrorLaw (acceptStart x s) := fun x => by
    have primed : mirrorLaw (primingTest (setPhase .priming (s.withStream
        (some (if isHalted x.phase then treatOldest x else x))))) :=
      primingTest_mirrorLaw (setPhase_mirrorLaw (s := s.withStream _) _ h)
    unfold acceptStart
    dsimp only
    split <;> exact primed
  unfold takeStartStream
  split
  · exact h
  · split
    · exact h
    · exact conclude_mirrorLaw (s := doneNow _ _ _ _) (accepted _)

theorem takeStopStream_mirrorLaw (ch tag : Nat) (h : mirrorLaw s) : mirrorLaw (takeStopStream ch tag s) := by
  unfold takeStopStream
  split
  · exact h
  · split
    · exact h
    · exact conclude_mirrorLaw (s := doneNow _ _ _ _) (setPhase_mirrorLaw (.halted .stop) h)

theorem takeFlushStream_mirrorLaw (ch tag : Nat) (h : mirrorLaw s) : mirrorLaw (takeFlushStream ch tag s) := by
  have accepted : ∀ x, mirrorLaw (acceptFlush x s) := fun x => by
    unfold acceptFlush
    split
    · split <;> exact h
    · exact setPhase_mirrorLaw (s := s.withStream _) _ h
  unfold takeFlushStream
  split
  · exact h
  · split
    · exact conclude_mirrorLaw (s := doneNow _ _ _ _) (accepted _)
    · exact h

theorem takeCloseStream_mirrorLaw (ch tag : Nat) (h : mirrorLaw s) : mirrorLaw (takeCloseStream ch tag s) := by
  unfold takeCloseStream
  split
  · exact h
  · split
    · exact conclude_mirrorLaw (s := doneNow _ _ _ _)
        (signalRelease_mirrorLaw (s := (s.withStream none).withSlots _) (s.withStream none) h)
    · exact h

/-- Every request that the Link Port hands on. -/
theorem handOn_mirrorLaw (i : Instr) (h : mirrorLaw s) : mirrorLaw (handOn i s) := by
  cases i with
  | reset ch tag => exact takeReset_mirrorLaw ch tag h
  | read ch tag bay first count level => exact takeAsk_mirrorLaw h fun _ _ => createRec_mirrorLaw rfl h
  | write ch tag bay first count level => exact takeWrite_mirrorLaw ch tag bay first count level h
  | sector ch tag index status data => exact takeSector_mirrorLaw ch tag index status data h
  | cancel ch tag target => exact takeCancel_mirrorLaw ch tag target h
  | queryBay ch tag bay =>
    unfold handOn takeQueryBay
    dsimp only
    split <;> exact h
  | queryOperation ch tag target =>
    unfold handOn takeQueryOperation
    dsimp only
    split <;> exact h
  | setup ch tag f => exact takeSetup_mirrorLaw ch tag f h
  | prepare ch tag bay serial name => exact takePrepare_mirrorLaw ch tag bay serial name h
  | ejectNormal ch tag bay level =>
    exact takeAsk_mirrorLaw h fun b _ => beginEject_mirrorLaw _ _ b rfl (unbindMirror_mirrorLaw true h)
  | ejectForced ch tag bay level =>
    exact takeAsk_mirrorLaw h fun b _ => beginEject_mirrorLaw _ _ b rfl
      (abandonAll_mirrorLaw b _ (unbindMirror_mirrorLaw true (haltByEject_mirrorLaw b h)))
  | setZones ch tag bay level zones => exact takeAsk_mirrorLaw h fun _ _ => createRec_mirrorLaw rfl h
  | bind ch tag primary => exact takeBind_mirrorLaw ch tag primary h
  | unbind ch tag => exact conclude_mirrorLaw (s := doneNow _ _ _ _) (unbindMirror_mirrorLaw false h)
  | openStream ch tag bay ring line pace marks => exact takeOpenStream_mirrorLaw ch tag bay ring line pace marks h
  | setMarks ch tag marks => exact takeSetMarks_mirrorLaw ch tag marks h
  | appendBand ch tag first length => exact takeAppendBand_mirrorLaw ch tag first length h
  | startStream ch tag => exact takeStartStream_mirrorLaw ch tag h
  | stopStream ch tag => exact takeStopStream_mirrorLaw ch tag h
  | flushStream ch tag => exact takeFlushStream_mirrorLaw ch tag h
  | closeStream ch tag => exact takeCloseStream_mirrorLaw ch tag h
  | _ => exact h

/-! ### The link, the mechanisms and the imagesetter -/

theorem takeByte_mirrorLaw (x : Byte) (h : mirrorLaw s) : mirrorLaw (takeByte x s) := by
  have taken : ∀ bytes, mirrorLaw (takeBytes bytes s) := fun bytes => by
    unfold takeBytes checkFrame
    dsimp only
    split
    · exact h
    · split
      · split
        · exact h
        · split
          · exact handOn_mirrorLaw (s := setAssembly _ s) _ h
          · exact h
      · exact h
  unfold takeByte
  split
  · exact h
  · exact taken _
  · exact taken _

theorem frameSent_mirrorLaw (f : Outbound) (h : mirrorLaw s) : mirrorLaw (frameSent f s) := by
  unfold frameSent
  dsimp only
  split
  · exact h
  · split
    · unfold giveUpSent
      split
      · exact h
      · exact (Closing.dropUnqueued (Q := fun _ => True) (D := fun _ => True)
          (s := s.mapLink fun l => { l with sending := none }) _ _).mirrorLaw h
    · exact h

theorem spinUpFails_mirrorLaw (b : Bay) (h : mirrorLaw s) : mirrorLaw (spinUpFails b s) := by
  unfold spinUpFails
  split
  · exact abandonAll_mirrorLaw b (fun _ => true)
      (unbindMirror_mirrorLaw true (haltByEject_mirrorLaw (s := faultBay b s) b h))
  · exact h

theorem answerLine_mirrorLaw (x : Stream) (h : mirrorLaw s) : mirrorLaw (answerLine x s) := by
  unfold answerLine
  split
  · exact h
  · split
    · exact h
    · split
      · exact h
      · split
        · exact lowTest_mirrorLaw (s := ((s.withStream _).mapTally _).mapPort _) h
        · exact lowTest_mirrorLaw (s := sendFill _ _ ((s.withStream _).mapTally _)) h

theorem acceptBand_mirrorLaw (x : Stream) (y : Band) (h : mirrorLaw s) : mirrorLaw (acceptBand x y s) := by
  have taken : mirrorLaw (raise x.bay (.bandDone y.number 1)
      ((s.withStream (some (withoutOldest y x))).mapTally fun z => { z with bandsAccepted := z.bandsAccepted + 1 })) := h
  unfold acceptBand afterAccept
  split
  · exact setPhase_mirrorLaw _ taken
  · split
    · exact setPhase_mirrorLaw _ taken
    · exact taken

/-- A row that is no request. -/
theorem event_mirrorLaw {i : Instr} (request : requestRow i = false) (e : exec i s = .next t) (h : mirrorLaw s) :
    mirrorLaw t := by
  have next : ∀ {u : State}, (Host.Outcome.next u : Host.Outcome State Fault Refusal) = .next t → mirrorLaw u →
      mirrorLaw t := fun e hu => by
    cases e
    exact hu
  have guarded : ∀ {c : Prop} [Decidable c] {u : State}, (if c then Host.Outcome.next u else .next s) = .next t →
      mirrorLaw u → mirrorLaw t := fun e hu => by
    split at e
    · exact next e hu
    · exact next e h
  cases i with
  | powerOnReset cut => exact next e fun _ hp => nomatch hp
  | linkResetLineAsserted =>
    unfold exec execLinkResetLineAsserted at e
    dsimp only at e
    split at e
    · exact next e h
    · exact next e (conclude_mirrorLaw (s := setResetLine _ _) (controllerReset_mirrorLaw s))
  | linkResetLineReleased => exact next e h
  | byteArrival x =>
    unfold exec execByteArrival at e
    dsimp only at e
    split at e
    · exact next e h
    · split at e
      · exact next e h
      · exact next e (takeByte_mirrorLaw x h)
  | firstByteTaken =>
    unfold exec execFirstByteTaken at e
    dsimp only at e
    split at e
    · exact next e h
    · split at e
      · exact next e h
      · exact next e (takeByte_mirrorLaw (s := s.mapLink _) _ h)
  | incompleteFrameTimeout =>
    unfold exec execIncompleteFrameTimeout at e
    dsimp only at e
    split at e <;> exact next e h
  | discardQuietTimeout =>
    unfold exec execDiscardQuietTimeout at e
    dsimp only at e
    split at e <;> exact next e h
  | cartridgeInsertion b m => exact guarded e (conclude_mirrorLaw (s := insertCartridge b m s) h)
  | spinUpCompletion b =>
    refine guarded e (conclude_mirrorLaw ?_)
    unfold spinUpDone
    dsimp only
    split <;> exact h
  | spinUpFailure b => exact guarded e (conclude_mirrorLaw (spinUpFails_mirrorLaw b h))
  | mountReadCompletion b fails =>
    refine guarded e (conclude_mirrorLaw ?_)
    unfold mountDone
    dsimp only
    split <;> exact h
  | spinDownTimerExpiry b => exact guarded e (conclude_mirrorLaw (s := rest b s) h)
  | spindleStop b => exact guarded e (conclude_mirrorLaw (beginStop_mirrorLaw b h))
  | stopCompletion b => exact guarded e (conclude_mirrorLaw (s := stopDone b s) h)
  | passCompletion b rs => exact guarded e (conclude_mirrorLaw (completePass_mirrorLaw b rs h))
  | recordLeavesTable q =>
    unfold exec execRecordLeavesTable at e
    dsimp only at e
    split at e
    · exact next e h
    · exact guarded e (conclude_mirrorLaw (leaveTable_mirrorLaw q h))
  | deferredCreation =>
    unfold exec execDeferredCreation at e
    dsimp only at e
    split at e
    · exact next e h
    · rename_i made
      exact next e (conclude_mirrorLaw (creationStep_mirrorLaw made h))
  | frameSent =>
    unfold exec execFrameSent at e
    dsimp only at e
    split at e
    · exact next e h
    · exact next e (conclude_mirrorLaw (frameSent_mirrorLaw _ h))
  | lineRequest =>
    unfold exec execLineRequest at e
    dsimp only at e
    split at e
    · exact next e h
    · exact next e (conclude_mirrorLaw (answerLine_mirrorLaw _ h))
  | bandAccept =>
    unfold exec execBandAccept at e
    dsimp only at e
    split at e
    · exact next e h
    · split at e
      · exact next e h
      · split at e
        · exact next e (conclude_mirrorLaw (acceptBand_mirrorLaw _ _ h))
        · exact next e h
  | bandRepeat =>
    unfold exec execBandRepeat at e
    dsimp only at e
    split at e
    · exact next e h
    · split at e
      · exact next e h
      · split at e
        · refine next e (conclude_mirrorLaw ?_)
          split
          · exact h
          · exact lowTest_mirrorLaw (s := s.withStream _) h
        · exact next e h
  | mediumSectorChange b track place change => exact guarded e (show mirrorLaw (changeMedium b _ change s) from h)
  | _ => exact nomatch request

theorem exec_mirrorLaw {i : Instr} (h : mirrorLaw s) (e : exec i s = .next t) : mirrorLaw t := by
  cases request : requestRow i with
  | true =>
    rw [exec_request request] at e
    cases e
    unfold onLink
    split
    · exact h
    · exact handOn_mirrorLaw i h
  | false => exact event_mirrorLaw request e h

end Sys2Proof.Machine

namespace Sys2Proof.Table
open Machine

/-- Settles O49, by the walk over the store for the numbers, and for the WRITEs through each operation. -/
theorem recordLawsKept : Obligations.RecordLawsKept := by
  refine ⟨fun s t h low e => ?_, fun s t => step_keeps (fun _ _ h => h) fun _ _ _ => exec_mirrorLaw⟩
  have far : s.nextSeq + 16 + 301 < 2 ^ 48 := by
    change s.counter.toNat + 16 + 301 < 2 ^ 48
    omega
  exact ((numberedLaw_stepwise h).step_keeps rfl e far).holders.1

end Sys2Proof.Table
end

section
/-! What a SETUP makes of the settings, of a bay's modes and of its timer (R88, R182). -/

namespace Sys2Proof.Machine

variable {s t u : State}

theorem mapSched_congr {b : Bay} {f g : Sched → Sched} (h : f (s.schedOf b) = g (s.schedOf b)) :
    s.mapSched b f = s.mapSched b g := by
  cases b
  · exact congrArg (fun c => { s with sched := ⟨c, s.sched.b⟩ }) h
  · exact congrArg (fun c => { s with sched := ⟨s.sched.a, c⟩ }) h

theorem mapSched_self {b : Bay} {f : Sched → Sched} (h : f (s.schedOf b) = s.schedOf b) : s.mapSched b f = s :=
  (mapSched_congr (g := id) h).trans (by cases b <;> rfl)

theorem mapSched_mapSched (b : Bay) (f g : Sched → Sched) (s : State) :
    (s.mapSched b f).mapSched b g = s.mapSched b fun c => g (f c) := by cases b <;> rfl

/-! ### What it leaves alone -/

/-- What a SETUP can change: the settings, and of each bay the timer, the modes and the trigger mark. -/
structure SetupChanges (s t : State) : Prop where
  rest : t = { s with settings := t.settings, mech := t.mech, sched := t.sched }
  mech : ∀ b, t.mechOf b = { s.mechOf b with timer := (t.mechOf b).timer }
  sched : ∀ b, t.schedOf b =
    { s.schedOf b with
      modeSet := (t.schedOf b).modeSet
      mode := (t.schedOf b).mode
      triggered := (t.schedOf b).triggered }

theorem SetupChanges.of_settings (s : State) (x : Settings) : SetupChanges s (s.withSettings x) :=
  ⟨rfl, fun _ => rfl, fun _ => rfl⟩

theorem SetupChanges.refl (s : State) : SetupChanges s s := of_settings s s.settings

theorem SetupChanges.trans (h : SetupChanges s t) (h' : SetupChanges t u) : SetupChanges s u where
  rest := by rw [h'.rest, h.rest]
  mech b := by rw [h'.mech b, h.mech b]
  sched b := by rw [h'.sched b, h.sched b]

theorem SetupChanges.of_mapSched (b : Bay) {f : Sched → Sched} (s : State)
    (h : ∀ c, f c = { c with modeSet := (f c).modeSet, mode := (f c).mode, triggered := (f c).triggered }) :
    SetupChanges s (s.mapSched b f) where
  rest := rfl
  mech _ := rfl
  sched c := by
    rw [schedOf_mapSched]
    split
    · subst c
      exact h _
    · rfl

theorem SetupChanges.trigger (b : Bay) (s : State) : SetupChanges s (trigger b s) := of_mapSched b s fun _ => rfl

theorem SetupChanges.retime (b : Bay) (o : Settings) (s : State) : SetupChanges s (retime b o s) := by
  unfold Machine.retime
  split
  · exact refl s
  · refine ⟨rfl, fun c => ?_, fun _ => rfl⟩
    rw [mechOf_mapMech]
    split
    · subst c
      rfl
    · rfl

theorem SetupChanges.capTriggers (o : Settings) (s : State) : SetupChanges s (capTriggers o s) := by
  unfold Machine.capTriggers
  split
  · exact (trigger .A s).trans (trigger .B _)
  · exact refl s

theorem SetupChanges.marginTriggers (o : Settings) (s : State) : SetupChanges s (marginTriggers o s) := by
  unfold Machine.marginTriggers
  split
  · split
    · exact refl s
    · exact trigger _ s
  · exact refl s

/-! ### The modes -/

/-- A bay's scheduler once a mode is set for it (R88). -/
def modeTaken (x : Option (Option PreemptionMode)) (c : Sched) : Sched :=
  if setOr c.modeSet x = c.modeSet then c
  else
    { c with
      modeSet := setOr c.modeSet x
      mode := if setOr c.modeSet x = .nested ∨ c.stack = [] then setOr c.modeSet x else c.mode
      triggered := true }

theorem modeTaken_modeSet (x : Option (Option PreemptionMode)) (c : Sched) :
    (modeTaken x c).modeSet = setOr c.modeSet x := by
  unfold modeTaken
  split
  · rename_i h
    exact h.symm
  · rfl

theorem modeTaken_mode {x : PreemptionMode} {c : Sched} (h : x ≠ c.modeSet) :
    (modeTaken (some (some x)) c).mode = if x = .nested ∨ c.stack = [] then x else c.mode := by
  rw [modeTaken, if_neg (show setOr c.modeSet (some (some x)) ≠ c.modeSet from h)]
  rfl

theorem setMode_eq (b : Bay) (x : Option (Option PreemptionMode)) (s : State) :
    setMode b x s = s.mapSched b (modeTaken x) := by
  unfold setMode
  dsimp only
  split
  · rename_i h
    exact (mapSched_self (f := modeTaken x) (if_pos h)).symm
  · rename_i h
    refine Eq.trans ?_ (mapSched_congr (f := modeTaken x) (g := fun _ => _) (if_neg h)).symm
    cases b <;> rfl

theorem SetupChanges.setMode (b : Bay) (x : Option (Option PreemptionMode)) (s : State) : SetupChanges s (setMode b x s) := by
  rw [setMode_eq]
  refine of_mapSched b s fun c => ?_
  unfold modeTaken
  split <;> rfl

/-! ### The whole SETUP -/

theorem acceptSetup_changes (f : SetupFields) (s : State) : SetupChanges s (acceptSetup f s) :=
  (((((SetupChanges.of_settings s _).trans (.setMode .A _ _)).trans (.setMode .B _ _)).trans (.retime .A _ _)).trans
    (.retime .B _ _)).trans ((SetupChanges.capTriggers _ _).trans (.marginTriggers _ _))

/-- The settings are those of the request over those before (R182). -/
theorem acceptSetup_settings (f : SetupFields) (s : State) : (acceptSetup f s).settings = newSettings f s.settings :=
  congrArg Store.settings (store_acceptSetup f)

/-- After the modes are set a SETUP only triggers. -/
theorem acceptSetup_triggers (f : SetupFields) (s : State) :
    OnlyTriggers (setMode .B f.mode.b (setMode .A f.mode.a (s.withSettings (newSettings f s.settings)))) (acceptSetup f s) := by
  have timer : ∀ (b : Bay) (o : Settings) (t : State), OnlyTriggers t (retime b o t) := fun b o t => .of_sched (by
    unfold retime
    split <;> rfl)
  have cap : ∀ (o : Settings) (t : State), OnlyTriggers t (capTriggers o t) := fun o t => by
    unfold capTriggers
    split
    · exact .triggerBoth t
    · exact .of_sched rfl
  have margin : ∀ (o : Settings) (t : State), OnlyTriggers t (marginTriggers o t) := fun o t => by
    unfold marginTriggers
    split
    · split
      · exact .of_sched rfl
      · exact .trigger _ t
    · exact .of_sched rfl
  exact (((timer .A _ _).trans (timer .B _ _)).trans (cap _ _)).trans (margin _ _)

/-- Each bay's modes are those that its own field sets (R88). -/
theorem acceptSetup_modes (f : SetupFields) (s : State) (b : Bay) :
    ((acceptSetup f s).schedOf b).modeSet = (modeTaken (f.mode.get b) (s.schedOf b)).modeSet ∧
      ((acceptSetup f s).schedOf b).mode = (modeTaken (f.mode.get b) (s.schedOf b)).mode := by
  have taken (t : State) :
      (setMode .B f.mode.b (setMode .A f.mode.a t)).schedOf b = modeTaken (f.mode.get b) (t.schedOf b) := by
    rw [setMode_eq, setMode_eq]
    cases b <;> rfl
  rw [(acceptSetup_triggers f s).sched b, taken]
  exact ⟨rfl, rfl⟩

/-- A pattern of which every slice has a name is the pattern set. -/
theorem map_some_named {p : List (Option Slice)} (h : p.any Option.isNone = false) :
    (p.map fun x => x.getD .reply).map some = p := by
  rw [List.map_map]
  refine (List.map_congr_left fun x hx => ?_).trans (List.map_id p)
  have named := List.any_eq_false.mp h x hx
  cases x with
  | none => exact absurd rfl named
  | some y => rfl

theorem execSetup_taken {f : SetupFields} {s : State} (ch : Fin 4) (tag : Fin 256) (hl : s.link.resetLine = false)
    (hp : patternSuits f.pattern = true) (hb : badSetup f = false) :
    exec (.setup ch tag f) s = .next (conclude
      (reply ch tag (.status (.setup (settingsStatus (acceptSetup f s)))) none (acceptSetup f s))) := by
  calc exec (.setup ch tag f) s = .next (onLink s (takeSetup ch tag f s)) := rfl
    _ = _ := by
      rw [onLink_released hl, takeSetup, if_neg (by simp [hp]), if_neg (by simp [hb])]

theorem execSetup_badField {f : SetupFields} {s : State} (ch : Fin 4) (tag : Fin 256) (hl : s.link.resetLine = false)
    (hp : patternSuits f.pattern = true) (hb : badSetup f = true) :
    exec (.setup ch tag f) s = .next (selectNext (reply ch tag (.refuse .badField) none s)) := by
  calc exec (.setup ch tag f) s = .next (onLink s (takeSetup ch tag f s)) := rfl
    _ = _ := by
      rw [onLink_released hl, takeSetup, if_neg (by simp [hp]), if_pos hb]
      rfl

theorem execSetup_frameError {f : SetupFields} {s : State} (ch : Fin 4) (tag : Fin 256) (hl : s.link.resetLine = false)
    (hp : patternSuits f.pattern = false) :
    exec (.setup ch tag f) s = .next (selectNext (reply ch tag (.refuse .frameError) none s)) := by
  calc exec (.setup ch tag f) s = .next (onLink s (takeSetup ch tag f s)) := rfl
    _ = _ := by
      rw [onLink_released hl, takeSetup, if_pos hp]
      rfl

end Sys2Proof.Machine

namespace Sys2Proof.Passes
open Machine

/-- Settles O27: the answer, the settings and modes set, and what stays. -/
theorem setupTaken : Obligations.SetupTaken := by
  refine ⟨fun ch tag f s hl => ⟨execSetup_taken ch tag hl, execSetup_badField ch tag hl, execSetup_frameError ch tag hl⟩,
    fun f s hb => ?_, fun f s => ⟨(acceptSetup_changes f s).rest, fun b =>
      ⟨(acceptSetup_changes f s).mech b, (acceptSetup_changes f s).sched b⟩⟩⟩
  rw [acceptSetup_settings]
  refine ⟨fun h => ?_, fun n h => ?_, fun h => ?_, fun n h => ?_, fun h => ?_, fun p h => ?_, fun b => ?_⟩
  · simp [newSettings, h]
  · simp [newSettings, h, clampTo]
  · simp [newSettings, h]
  · simp [newSettings, h, clampTo]
  · simp [newSettings, h]
  · have named : (f.pattern.getD []).any Option.isNone = false := (Bool.or_eq_false_iff.mp hb).2
    rw [h] at named
    simp only [newSettings, h]
    exact map_some_named named
  · obtain ⟨modeSet, mode⟩ := acceptSetup_modes f s b
    rw [modeTaken_modeSet] at modeSet
    refine ⟨fun h => ?_, fun n h => ?_, fun h => ?_, fun x h => ?_, fun h => ?_, fun x h => ⟨?_, fun hx => ?_⟩⟩
    · cases b <;> exact congrArg (fun y => (Option.map (clampTo 0 255) y).getD _) h
    · have := congrArg (fun y => (Option.map (clampTo 0 255) y).getD (s.settings.spinDown.get b)) h
      cases b <;> exact this.trans (Nat.zero_max _)
    · cases b <;> exact congrArg (setOr _) h
    · cases b <;> exact congrArg (setOr _) h
    · rw [modeSet, h]
      rfl
    · rw [modeSet, h]
      rfl
    · rw [mode, h, modeTaken_mode hx]

end Sys2Proof.Passes
end

section
/-! What the sectors of a feed pass bring to their band, the ring, the counters and the reports (R131, R135), and the tests of
the stream after them (R137, R143). -/

namespace Sys2Proof.Machine

variable {s : State} {t : Stream} {x : Band}

/-! ### The ring -/

/-- A segment with bytes appended; it is made where there was none (R130). -/
def grown (n : Nat) (d : Data) (g : Option Segment) : Segment where
  band := n
  bytes := (g.map Segment.bytes).getD [] ++ d
  sent := (g.map Segment.sent).getD 0

theorem grown_grown (n : Nat) (d e : Data) (g : Option Segment) : grown n e (some (grown n d g)) = grown n (d ++ e) g := by
  simp [grown]

theorem appendBytes_same (n : Nat) (d : Data) (l : List Segment) :
    (appendBytes n d l).find? (fun g => decide (g.band = n)) = some (grown n d (l.find? fun g => decide (g.band = n))) := by
  induction l with
  | nil => simp [appendBytes, grown]
  | cons g gs ih =>
    by_cases h : g.band = n
    · simp [appendBytes, grown, h]
    · simp [appendBytes, h, ih]

theorem appendBytes_other {n m : Nat} (h : m ≠ n) (d : Data) (l : List Segment) :
    (appendBytes n d l).find? (fun g => decide (g.band = m)) = l.find? fun g => decide (g.band = m) := by
  induction l with
  | nil => simp [appendBytes, h.symm]
  | cons g gs ih =>
    by_cases hg : g.band = n
    · simp [appendBytes, hg, h.symm]
    · rw [appendBytes, if_neg hg, List.find?_cons, List.find?_cons, ih]

/-! ### The band -/

/-- State of a band after sectors of it have been fetched, `full` when all are (R131): EXPOSING and SPOILED stay. -/
def stateBy (full : Bool) : BandState → BandState
  | .exposing => .exposing
  | .spoiled c => .spoiled c
  | _ => if full then .fetched else .fetching

theorem stateBy_stateBy (a b : Bool) (x : BandState) : stateBy b (stateBy a x) = stateBy b x := by
  cases x <;> cases a <;> rfl

/-- A band once `k` sectors more of it are fetched, one of them perhaps without data (R131, R135). -/
def fetchedBy (k : Nat) (damaged : Bool) (y : Band) : Band :=
  { y with
    fetched := y.fetched + k
    damaged := y.damaged || damaged
    state := stateBy (decide (sectorCount y ≤ y.fetched + k)) y.state }

theorem fetchedBy_fetchedBy (k : Nat) (d e : Bool) (y : Band) :
    fetchedBy k e (fetchedBy 1 d y) = fetchedBy (k + 1) (d || e) y := by
  have count : sectorCount (fetchedBy 1 d y) = sectorCount y := rfl
  have fetched : y.fetched + 1 + k = y.fetched + (k + 1) := by omega
  unfold fetchedBy at count ⊢
  rw [count]
  simp only [fetched, Bool.or_assoc, stateBy_stateBy]

theorem fetchedState_eq (y : Band) : fetchedState y = stateBy (decide (sectorCount y ≤ y.fetched + 1)) y.state := by
  unfold fetchedState stateBy
  cases y.state <;> simp

theorem enterSector_bands (n : Nat) (d : Data) (damaged : Bool) (t : Stream) :
    (enterSector n d damaged t).bands = t.bands.map fun y => if y.number = n then fetchedBy 1 damaged y else y := by
  refine List.map_congr_left fun y _ => ?_
  rw [fetchedState_eq]
  rfl

/-! ### Reports -/

/-- A report raised again is the entry that it already made (R185). -/
theorem putReport_putReport {r : Report} (h : r.body.kind ≠ .bandDone) (l : List Report) :
    putReport (putReport l r) r = putReport l r := by
  have same : r.sameKey r = true := by simp [Report.sameKey]
  have merged : ∀ y : Report, mergeReport y r = r := fun y => by
    unfold mergeReport
    split
    · rename_i hr
      exact absurd (congrArg ReportBody.kind hr) h
    · rfl
  induction l with
  | nil => simp [putReport, same, merged]
  | cons y ys ih =>
    by_cases hy : y.sameKey r = true
    · simp [putReport, hy, same, merged]
    · simp [putReport, hy, ih]

/-! ### The sectors of a pass -/

/-- The Link Port after a feed pass on the bay (R135): BAND_DAMAGED is raised where a sector gave no data. -/
def feedReported (b : Bay) (n : Nat) (found : List (Nat × Found)) (l : Link) : Link :=
  if found.any (fun p => feedDamaged p.2) then { l with reports := putReport l.reports ⟨b, .bandDamaged n⟩ } else l

theorem feedReported_sound {p : Nat × Found} (h : feedDamaged p.2 = false) (b : Bay) (n : Nat) (found : List (Nat × Found))
    (l : Link) : feedReported b n (p :: found) l = feedReported b n found l := by
  simp only [feedReported, List.any_cons, h, Bool.false_or]

theorem feedReported_damaged {p : Nat × Found} (h : feedDamaged p.2 = true) (b : Bay) (n : Nat) (found : List (Nat × Found))
    (l : Link) : feedReported b n (p :: found) l =
      feedReported b n found { l with reports := putReport l.reports ⟨b, .bandDamaged n⟩ } := by
  have again := putReport_putReport (r := ⟨b, .bandDamaged n⟩) nofun l.reports
  simp [feedReported, h, again]

/-- The stream's counters after a feed pass (R135): the sectors without data are counted. -/
def fedTally (found : List (Nat × Found)) (y : Tally) : Tally :=
  { y with damaged := y.damaged + found.countP fun p => feedDamaged p.2 }

theorem fedTally_sound {p : Nat × Found} (h : feedDamaged p.2 = false) (found : List (Nat × Found)) (y : Tally) :
    fedTally (p :: found) y = fedTally found y := by
  simp [fedTally, h]

theorem fedTally_damaged {p : Nat × Found} (h : feedDamaged p.2 = true) (found : List (Nat × Found)) (y : Tally) :
    fedTally (p :: found) y = fedTally found { y with damaged := y.damaged + 1 } := by
  simp [fedTally, h, Nat.add_assoc, Nat.add_comm 1]

/-- What sectors found by the feed make of the stream (R135). -/
structure Fed (x : Band) (found : List (Nat × Found)) (t v : Stream) : Prop where
  rest : v = { t with segments := v.segments, bands := v.bands }
  others : ∀ m, m ≠ x.number → segmentOf v m = segmentOf t m
  segment : segmentOf v x.number = if found = [] then segmentOf t x.number
    else some (grown x.number (found.flatMap fun p => feedBytes x p.1 p.2) (segmentOf t x.number))
  bands : v.bands = t.bands.map fun y =>
    if y.number = x.number ∧ found ≠ [] then fetchedBy found.length (found.any fun p => feedDamaged p.2) y else y

theorem Fed.nil (x : Band) (t : Stream) : Fed x [] t t :=
  ⟨rfl, fun _ _ => rfl, rfl, by simp⟩

theorem Fed.cons {p : Nat × Found} {found : List (Nat × Found)} {v : Stream}
    (h : Fed x found (enterSector x.number (feedBytes x p.1 p.2) (feedDamaged p.2) t) v) : Fed x (p :: found) t v where
  rest := by
    rw [h.rest]
    rfl
  others m hm := (h.others m hm).trans (appendBytes_other hm _ _)
  segment := by
    have one : segmentOf (enterSector x.number (feedBytes x p.1 p.2) (feedDamaged p.2) t) x.number =
        some (grown x.number (feedBytes x p.1 p.2) (segmentOf t x.number)) := appendBytes_same _ _ _
    rw [h.segment, one, if_neg (List.cons_ne_nil _ _)]
    cases found with
    | nil => simp
    | cons r rs =>
      rw [if_neg (List.cons_ne_nil _ _), grown_grown]
      rfl
  bands := by
    rw [h.bands, enterSector_bands, List.map_map]
    refine List.map_congr_left fun y _ => ?_
    by_cases hy : y.number = x.number
    · have same : (fetchedBy 1 (feedDamaged p.2) y).number = x.number := hy
      cases found with
      | nil => simp [hy]
      | cons r rs => simp [hy, same, fetchedBy_fetchedBy]
    · simp [hy]

/-- The sectors of a completed feed pass change the stream, the sectors damaged counter and the reports alone (R135). -/
theorem enterFeed_eq (x : Band) (b : Bay) (found : List (Nat × Found)) {s : State} {t : Stream} (ht : s.stream = some t) :
    ∃ v, Fed x found t v ∧ enterFeed x b found s =
      { s with stream := some v, tally := fedTally found s.tally, link := feedReported b x.number found s.link } := by
  induction found generalizing s t with
  | nil => exact ⟨t, .nil x t, by rw [← ht]; rfl⟩
  | cons p found ih =>
    have entered : (s.mapStream (enterSector x.number (feedBytes x p.1 p.2) (feedDamaged p.2))).stream =
        some (enterSector x.number (feedBytes x p.1 p.2) (feedDamaged p.2) t) := by
      rw [State.mapStream, ht]
      rfl
    rw [enterFeed]
    by_cases hd : feedDamaged p.2 = true
    · rw [if_pos hd]
      obtain ⟨v, fed, eq⟩ := ih (s := raise b (.bandDamaged x.number) ((s.mapStream _).mapTally _)) entered
      refine ⟨v, fed.cons, ?_⟩
      rw [eq, fedTally_damaged hd, feedReported_damaged hd]
      rfl
    · rw [if_neg hd]
      obtain ⟨v, fed, eq⟩ := ih entered
      refine ⟨v, fed.cons, ?_⟩
      rw [eq, fedTally_sound (Bool.eq_false_iff.mpr hd), feedReported_sound (Bool.eq_false_iff.mpr hd)]
      rfl

/-! ### The band of a pass -/

theorem isSpoiled_iff : isSpoiled x = true ↔ ∃ c : SpoilCause, x.state = .spoiled c := by
  unfold isSpoiled
  cases x.state <;> simp

/-- Of a list in which no two have one key, a member is told by its key. -/
theorem eq_of_key {α : Type} {f : α → Nat} {l : List α} (h : l.Pairwise fun y z => f y ≠ f z) {y z : α} (hy : y ∈ l)
    (hz : z ∈ l) (e : f y = f z) : y = z :=
  List.inj_on_of_nodup_map (List.pairwise_map.mpr h) hy hz e

theorem feedTarget_none {n : Nat} (h : ∀ x ∈ t.bands, x.serial = n → ∃ c : SpoilCause, x.state = .spoiled c) :
    feedTarget t n = none := by
  refine List.find?_eq_none.mpr fun x hx found => ?_
  obtain ⟨serial, sound⟩ := Bool.and_eq_true_iff.mp found
  have spoiled := isSpoiled_iff.mpr (h x hx (of_decide_eq_true serial))
  rw [spoiled] at sound
  exact Bool.noConfusion sound

theorem feedTarget_some {n : Nat} (hx : x ∈ t.bands) (hn : x.serial = n) (sound : isSpoiled x = false)
    (distinct : t.bands.Pairwise fun y z => y.serial ≠ z.serial) : feedTarget t n = some x := by
  have some : (feedTarget t n).isSome := List.find?_isSome.mpr ⟨x, hx, by simp [hn, sound]⟩
  obtain ⟨y, hy⟩ := Option.isSome_iff_exists.mp some
  have found := List.find?_some hy
  have serial : y.serial = n := of_decide_eq_true (Bool.and_eq_true_iff.mp found).1
  rw [hy, eq_of_key distinct (List.mem_of_find?_eq_some hy) hx (serial.trans hn.symm)]

theorem allFetched_iff : allFetched t = true ↔ ∀ x ∈ t.bands, sectorCount x ≤ x.fetched := by
  simp [allFetched]

section
variable (ht : s.stream = some t)
include ht

theorem completeFeed_discards {n : Nat} (found : List (Nat × Found)) (h : feedTarget t n = none) :
    completeFeed n found s = { s with stream := some { t with reserved := 0 } } := by
  unfold completeFeed
  simp only [ht, h]
  rfl

theorem completeFeed_enters {n : Nat} (found : List (Nat × Found)) (h : feedTarget t n = some x) :
    completeFeed n found s =
      armingTest (primingTest (enterFeed x t.bay found (s.withStream (some { t with reserved := 0 })))) := by
  unfold completeFeed
  simp only [ht, h]

/-! ### The tests of the stream -/

theorem primingTest_starts (hp : t.phase = .priming)
    (h : t.marks.prime * 1024 ≤ unsent t ∨ ∀ x ∈ t.bands, sectorCount x ≤ x.fetched) :
    primingTest s = trigger t.bay
      { s with stream := some { t with phase := .running }, port := { s.port with ready := true } } := by
  unfold primingTest
  simp only [ht]
  rw [if_pos ⟨hp, h.imp_right allFetched_iff.mpr⟩, setPhase]
  simp only [ht]
  rfl

theorem primingTest_waits
    (h : t.phase ≠ .priming ∨ (unsent t < t.marks.prime * 1024 ∧ ∃ x ∈ t.bands, x.fetched < sectorCount x)) :
    primingTest s = s := by
  unfold primingTest
  simp only [ht]
  refine if_neg fun ⟨hp, reached⟩ => ?_
  rcases h with other | ⟨below, x, hx, more⟩
  · exact other hp
  · rcases reached with mark | all
    · omega
    · exact Nat.not_lt.mpr (allFetched_iff.mp all x hx) more

theorem armingTest_eq : armingTest s =
    { s with stream := some { t with lowArmed := t.lowArmed || decide (t.marks.high * 1024 ≤ unsent t) } } := by
  unfold armingTest State.mapStream
  rw [ht, Option.map_some]
  by_cases h : t.marks.high * 1024 ≤ unsent t <;> simp [h, State.withStream]

theorem lowTest_raises (ha : t.lowArmed = true) (hl : unsent t < t.marks.low * 1024) :
    lowTest s = raise t.bay (.streamLow (unsent t)) { s with stream := some { t with lowArmed := false } } := by
  unfold lowTest
  simp only [ht]
  exact if_pos ⟨ha, hl⟩

theorem lowTest_quiet (h : t.lowArmed = false ∨ t.marks.low * 1024 ≤ unsent t) : lowTest s = s := by
  unfold lowTest
  simp only [ht]
  refine if_neg fun ⟨armed, low⟩ => ?_
  rcases h with spent | above
  · exact Bool.noConfusion (spent.symm.trans armed)
  · omega

end

end Sys2Proof.Machine

namespace Sys2Proof.Passes
open Machine

/-- Settles O58: the sectors of the pass one after another, then the tests. -/
theorem feedCompleted : Obligations.FeedCompleted := by
  refine ⟨fun n found s hs => ?_, fun n found t s ht => ⟨fun h => completeFeed_discards ht found (feedTarget_none h),
      fun x hx hn sound distinct => ?_⟩, fun _ _ => ⟨rfl, rfl, rfl⟩,
    fun t s ht => ⟨primingTest_starts ht, primingTest_waits ht, armingTest_eq ht, lowTest_raises ht, lowTest_quiet ht⟩⟩
  · unfold completeFeed
    rw [hs]
  · have target : feedTarget t n = some x := feedTarget_some hx hn
      (Bool.eq_false_iff.mpr fun spoiled => (isSpoiled_iff.mp spoiled).elim sound) (distinct.imp And.left)
    obtain ⟨v, fed, eq⟩ := enterFeed_eq x t.bay found (s := s.withStream (some { t with reserved := 0 })) rfl
    refine ⟨_, v, (completeFeed_enters ht found target).trans (by rw [eq]), rfl, rfl, fed.rest, fed.others,
      fun some => ⟨_, fed.segment.trans (if_neg some), rfl, rfl⟩, ?_, rfl, fun whole => ?_,
      fun lost => if_pos lost⟩
    · refine fed.bands.trans (List.map_congr_left fun y hy => ?_)
      by_cases hn : y.number = x.number ∧ found ≠ []
      · obtain rfl : y = x := eq_of_key (distinct.imp And.right) hy hx hn.1
        rw [if_pos hn, if_pos hn]
        unfold fetchedBy
        cases hs : y.state with
        | spoiled c => exact absurd hs (sound c)
        | exposing => rfl
        | _ =>
          simp only [stateBy, decide_eq_true_eq]
          rfl
      · rw [if_neg hn, if_neg hn]
    · exact if_neg (by simp [whole])

end Sys2Proof.Passes
end

section
/-! How a decision chooses (R79 to R90): the cases of each of its parts, and which waiting candidate of a list starts. -/

namespace Sys2Proof.Machine

variable {b : Bay} {s u v : State} {q c n : Nat} {p : Plan} {refused : Bool}

/-! ### One planned candidate -/

theorem tryPlanned_admitted (h : admission s b p.track p.items.length = some n) :
    tryPlanned b q p refused s = ⟨startPass b q p n s, true, refused⟩ := by
  rw [tryPlanned, h]

theorem tryPlanned_refused (h : admission s b p.track p.items.length = none) :
    tryPlanned b q p refused s = ⟨s, false, true⟩ := by
  rw [tryPlanned, h]

/-! ### The outcome (R90) -/

theorem recordOutcome_started {t : Trial} (h : t.started = true) : recordOutcome b t = t.state := if_pos h

theorem recordOutcome_refused {t : Trial} (hs : t.started = false) (hr : t.refused = true) :
    recordOutcome b t = t.state.mapSched b fun c => { c with last := .notAdmitted } := by
  rw [recordOutcome, hs, hr]
  rfl

theorem recordOutcome_nothing {t : Trial} (hs : t.started = false) (hr : t.refused = false) :
    recordOutcome b t = t.state.mapSched b fun c => { c with last := .nothing } := by
  rw [recordOutcome, hs, hr]
  rfl

theorem recordOutcome_tryPlanned (b : Bay) (q : Nat) (p : Plan) (refused : Bool) (s : State) :
    (∀ n, admission s b p.track p.items.length = some n →
        recordOutcome b (tryPlanned b q p refused s) = startPass b q p n s) ∧
      (admission s b p.track p.items.length = none →
        recordOutcome b (tryPlanned b q p refused s) = s.mapSched b fun c => { c with last := .notAdmitted }) := by
  refine ⟨fun n h => ?_, fun h => ?_⟩
  · rw [tryPlanned_admitted h]
    rfl
  · rw [tryPlanned_refused h]
    rfl

/-! ### The waiting candidates -/

theorem tryWaiting_stalled (cs : List Nat) (h : planRec c s = (v, .stalled)) :
    tryWaiting b (c :: cs) refused s = tryWaiting b cs refused (markStalled c v) := by
  rw [tryWaiting, h]

theorem tryWaiting_finished (cs : List Nat) (h : planRec c s = (v, .finished)) :
    tryWaiting b (c :: cs) refused s = tryWaiting b cs refused (finishRecord c v) := by
  rw [tryWaiting, h]

theorem tryWaiting_refused (cs : List Nat) (h : planRec c s = (v, .pass p))
    (ha : admission v b p.track p.items.length = none) :
    tryWaiting b (c :: cs) refused s = tryWaiting b cs true v := by
  rw [tryWaiting, h]
  simp only [tryPlanned_refused ha]
  rfl

theorem tryWaiting_admitted (cs : List Nat) (h : planRec c s = (v, .pass p))
    (ha : admission v b p.track p.items.length = some n) :
    tryWaiting b (c :: cs) refused s = ⟨startPass b c p n v, true, refused⟩ := by
  rw [tryWaiting, h]
  simp only [tryPlanned_admitted ha]
  rfl

/-- What trying one candidate can do, and what is then done with the rest of the list. -/
inductive Tried (b : Bay) (c : Nat) (refused : Bool) (s : State) : Trial → Prop where
  | started (v : State) (p : Plan) (n : Nat) (plan : planRec c s = (v, .pass p))
    (admitted : admission v b p.track p.items.length = some n) : Tried b c refused s ⟨startPass b c p n v, true, refused⟩
  | refused (v : State) (p : Plan) (plan : planRec c s = (v, .pass p))
    (out : admission v b p.track p.items.length = none) : Tried b c refused s ⟨v, false, true⟩
  | unplanned (v : State) (plan : ∀ w p, planRec c s ≠ (w, .pass p)) : Tried b c refused s ⟨v, false, refused⟩

theorem tryWaiting_cons (b : Bay) (c : Nat) (refused : Bool) (s : State) : ∃ t, Tried b c refused s t ∧
    ∀ cs, tryWaiting b (c :: cs) refused s = if t.started then t else tryWaiting b cs t.refused t.state := by
  obtain ⟨v, plan, e⟩ : ∃ v plan, planRec c s = (v, plan) := ⟨_, _, rfl⟩
  cases plan with
  | stalled =>
    exact ⟨_, .unplanned (markStalled c v) (fun _ _ h => nomatch e.symm.trans h), fun cs => tryWaiting_stalled cs e⟩
  | finished =>
    exact ⟨_, .unplanned (finishRecord c v) (fun _ _ h => nomatch e.symm.trans h), fun cs => tryWaiting_finished cs e⟩
  | pass p =>
    cases ha : admission v b p.track p.items.length with
    | none => exact ⟨_, .refused v p e ha, fun cs => tryWaiting_refused cs e ha⟩
    | some n => exact ⟨_, .started v p n e ha, fun cs => tryWaiting_admitted cs e ha⟩

/-- Where the front of a list starts nothing, the rest of it is tried from there. -/
theorem tryWaiting_append {front : List Nat} (back : List Nat) (h : (tryWaiting b front refused s).started = false) :
    tryWaiting b (front ++ back) refused s =
      tryWaiting b back (tryWaiting b front refused s).refused (tryWaiting b front refused s).state := by
  induction front generalizing refused s with
  | nil => rfl
  | cons c front ih =>
    obtain ⟨t, -, cons⟩ := tryWaiting_cons b c refused s
    rw [cons] at h
    rw [List.cons_append, cons, cons]
    by_cases ht : t.started = true
    · rw [if_pos ht, ht] at h
      exact Bool.noConfusion h
    · rw [if_neg ht] at h
      rw [if_neg ht, if_neg ht, ih h]

/-- Where the front of a list starts a candidate, the rest is not tried. -/
theorem tryWaiting_append_started {front : List Nat} (back : List Nat) (h : (tryWaiting b front refused s).started = true) :
    tryWaiting b (front ++ back) refused s = tryWaiting b front refused s := by
  induction front generalizing refused s with
  | nil => exact nomatch h
  | cons c front ih =>
    obtain ⟨t, -, cons⟩ := tryWaiting_cons b c refused s
    rw [cons] at h
    rw [List.cons_append, cons, cons]
    by_cases ht : t.started = true
    · rw [if_pos ht, if_pos ht]
    · rw [if_neg ht] at h
      rw [if_neg ht, if_neg ht, ih h]

/-- That a candidate was refused is not forgotten. -/
theorem tryWaiting_stays_refused (b : Bay) (cs : List Nat) (s : State) : (tryWaiting b cs true s).refused = true := by
  induction cs generalizing s with
  | nil => rfl
  | cons c cs ih =>
    obtain ⟨t, tried, cons⟩ := tryWaiting_cons b c true s
    have refused : t.refused = true := by cases tried <;> rfl
    rw [cons, refused]
    split
    · exact refused
    · exact ih t.state

/-- The candidate started is planned and admitted, those before it having started nothing (R84). -/
theorem tryWaiting_started {cs : List Nat} (h : (tryWaiting b cs refused s).started = true) :
    ∃ (front back : List Nat) (c n : Nat) (p : Plan) (v : State), cs = front ++ c :: back ∧
      (tryWaiting b front refused s).started = false ∧
      planRec c (tryWaiting b front refused s).state = (v, .pass p) ∧
      admission v b p.track p.items.length = some n ∧ (tryWaiting b cs refused s).state = startPass b c p n v := by
  induction cs generalizing refused s with
  | nil => exact nomatch h
  | cons c cs ih =>
    obtain ⟨t, tried, cons⟩ := tryWaiting_cons b c refused s
    rw [cons] at h ⊢
    by_cases ht : t.started = true
    · rw [if_pos ht]
      cases tried with
      | started v p n plan admitted => exact ⟨[], cs, c, n, p, v, rfl, rfl, plan, admitted, rfl⟩
      | refused => exact nomatch ht
      | unplanned => exact nomatch ht
    · rw [if_neg ht] at h ⊢
      obtain ⟨front, back, d, n, p, v, split, before, plan, admitted, start⟩ := ih h
      refine ⟨c :: front, back, d, n, p, v, congrArg (c :: ·) split, ?_⟩
      rw [cons, if_neg ht]
      exact ⟨before, plan, admitted, start⟩

/-- Where no candidate starts, each one planned was refused (R89). -/
theorem tryWaiting_all_refused {front back : List Nat} (h : (tryWaiting b (front ++ c :: back) refused s).started = false)
    (plan : planRec c (tryWaiting b front refused s).state = (v, .pass p)) :
    admission v b p.track p.items.length = none ∧ (tryWaiting b (front ++ c :: back) refused s).refused = true := by
  have before : (tryWaiting b front refused s).started = false := by
    refine Bool.eq_false_iff.mpr fun started => ?_
    rw [tryWaiting_append_started _ started, started] at h
    exact Bool.noConfusion h
  rw [tryWaiting_append _ before] at h ⊢
  cases ha : admission v b p.track p.items.length with
  | none =>
    rw [tryWaiting_refused back plan ha]
    exact ⟨rfl, tryWaiting_stays_refused b back v⟩
  | some n =>
    rw [tryWaiting_admitted back plan ha] at h
    exact Bool.noConfusion h

/-- Where some candidate was refused, one of the list was planned and not admitted (R89). -/
theorem tryWaiting_some_refused {cs : List Nat} (h : (tryWaiting b cs false s).refused = true) :
    ∃ (front back : List Nat) (c : Nat) (p : Plan) (v : State), cs = front ++ c :: back ∧
      planRec c (tryWaiting b front false s).state = (v, .pass p) ∧ admission v b p.track p.items.length = none := by
  induction cs generalizing s with
  | nil => exact nomatch h
  | cons c cs ih =>
    obtain ⟨t, tried, cons⟩ := tryWaiting_cons b c false s
    rw [cons] at h
    cases tried with
    | started => exact nomatch h
    | refused v p plan out => exact ⟨[], cs, c, p, v, rfl, plan, out⟩
    | unplanned v plan =>
      obtain ⟨front, back, d, p, w, split, planned, out⟩ := ih h
      refine ⟨c :: front, back, d, p, w, congrArg (c :: ·) split, ?_⟩
      rw [cons]
      exact ⟨planned, out⟩

/-! ### The stack (R85) -/

theorem tryStack_empty (h : (s.schedOf b).stack = []) :
    tryStack b (n + 1) refused s = tryWaiting b (candidates s b 8) refused s := by
  rw [tryStack, h]

theorem tryIdle_empty (h : (s.schedOf b).stack = []) :
    tryIdle b refused s = tryWaiting b (candidates s b 8) refused s := tryStack_empty h

section
variable {qs : List Nat} {t : Trial} (hs : (s.schedOf b).stack = q :: qs)
  (ht : t = tryWaiting b (candidates s b (levelOf s (some q))) refused s)
include hs ht

theorem tryIdle_waiting (h : t.started = true) : tryIdle b refused s = t := by
  rw [tryIdle, hs, tryStack, hs]
  dsimp only
  rw [← ht, if_pos h]

theorem tryIdle_pass (h : t.started = false) (plan : planRec q t.state = (v, .pass p)) :
    tryIdle b refused s = tryPlanned b q p t.refused v := by
  rw [tryIdle, hs, tryStack, hs]
  dsimp only
  rw [← ht, h, if_neg Bool.false_ne_true, plan]

/-- A top that stalls is followed by as many tops as there were others. -/
theorem tryIdle_stalled (h : t.started = false) (plan : planRec q t.state = (v, .stalled)) :
    tryIdle b refused s = tryStack b (qs.length + 1) t.refused (stall b q v) := by
  rw [tryIdle, hs, tryStack, hs]
  dsimp only
  rw [← ht, h, if_neg Bool.false_ne_true, plan]
  rfl

theorem tryIdle_finished (h : t.started = false) (plan : planRec q t.state = (v, .finished)) :
    tryIdle b refused s = tryStack b (qs.length + 1) t.refused (finishRecord q v) := by
  rw [tryIdle, hs, tryStack, hs]
  dsimp only
  rw [← ht, h, if_neg Bool.false_ne_true, plan]
  rfl

end

/-! ### The active record (R84, R87) -/

theorem tryActive_pass (h : planRec q s = (v, .pass p)) : tryActive b q refused s = tryPlanned b q p refused v := by
  rw [tryActive, h]

theorem tryActive_stalled (h : planRec q s = (v, .stalled)) :
    tryActive b q refused s = tryIdle b refused (stall b q v) := by
  rw [tryActive, h]

theorem tryActive_finished (h : planRec q s = (v, .finished)) :
    tryActive b q refused s = tryIdle b refused (finishRecord q v) := by
  rw [tryActive, h]

theorem tryRecords_idle (h : (s.schedOf b).active = none) : tryRecords b s = tryIdle b false s := by
  rw [tryRecords, h]

section
variable (ha : (s.schedOf b).active = some q)
include ha

theorem tryRecords_stalled (h : planRec q s = (v, .stalled)) : tryRecords b s = tryIdle b false (stall b q v) := by
  rw [tryRecords, ha]
  dsimp only
  rw [h]

theorem tryRecords_finished (h : planRec q s = (v, .finished)) : tryRecords b s = tryIdle b false (finishRecord q v) := by
  rw [tryRecords, ha]
  dsimp only
  rw [h]

theorem tryRecords_nested {t : Trial} (h : planRec q s = (v, .pass p)) (hm : (v.schedOf b).mode = .nested)
    (ht : t = tryWaiting b (candidates v b (levelOf v (some q))) false v) :
    tryRecords b s = if t.started then t else tryActive b q t.refused t.state := by
  rw [tryRecords, ha]
  dsimp only
  rw [h]
  dsimp only
  rw [if_pos hm, ← ht]

theorem tryRecords_goesOn (h : planRec q s = (v, .pass p))
    (hm : (v.schedOf b).mode = .runToEnd ∨ candidates v b (levelOf v (some q)) = []) :
    tryRecords b s = tryActive b q false v := by
  by_cases nested : (v.schedOf b).mode = .nested
  · rcases hm with hm | none
    · exact nomatch nested.symm.trans hm
    · rw [tryRecords_nested ha h nested rfl, none]
      rfl
  · rw [tryRecords, ha]
    dsimp only
    rw [h]
    dsimp only
    rw [if_neg nested]

end

/-! ### The decision -/

section
variable (hp : passInFlight s b = false) (hc : canStart s b = true) (hu : u = considered b s)
include hp hc hu

theorem makeDecision_feed (hon : streamOn u b = true) (he : feedEligible u = true) : makeDecision b s = startFeed u := by
  unfold makeDecision
  rw [hp, if_neg Bool.false_ne_true, if_neg (by simp [hc]), ← hu]
  simp [hon, he]

theorem makeDecision_records (h : streamOn u b = false ∨ feedEligible u = false) :
    makeDecision b s = recordOutcome b (tryRecords b u) := by
  unfold makeDecision
  rw [hp, if_neg Bool.false_ne_true, if_neg (by simp [hc]), ← hu]
  exact if_neg (by rcases h with h | h <;> simp [h])

end

/-- No read-through of the feed goes before a decision on a bay without the stream (R80). -/
theorem feedFirst_off (h : streamOn s b = false) : feedFirst b s = s := by
  unfold streamOn at h
  unfold feedFirst
  split
  · rename_i t ht
    rw [ht] at h
    exact if_neg (of_decide_eq_false h)
  · rfl

/-- The stalled marks and the trigger that a decision on a bay without the stream clears (R82). -/
theorem considered_off (h : streamOn s b = false) : considered b s = State.mapSched
    { s with recs := s.recs.map fun r => if schedBay r = b then { r with stalled := false } else r }
    b fun c => { c with triggered := false } :=
  feedFirst_off (s := clearStalled b (answerTrigger b s)) h

end Sys2Proof.Machine
end

section
/-! The places of a bay's records: what a stall, a start and the end of a build step's read phase change of them (R82, R84 to
R86, R88, R91). -/

namespace Sys2Proof.Machine

variable {b : Bay} {s : State} {q : Nat}

/-! ### The mode, stalls and starts -/

/-- A scheduler in which a waiting RUN_TO_END has taken effect if the stack is empty (R88). -/
def modeChecked (c : Sched) : Sched :=
  { c with
    mode := if c.stack = [] then c.modeSet else c.mode
    triggered := c.triggered || (decide (c.stack = []) && decide (c.mode ≠ c.modeSet)) }

theorem checkMode_eq (b : Bay) (s : State) : checkMode b s = s.mapSched b modeChecked := by
  unfold checkMode
  dsimp only
  split
  · rename_i h
    obtain ⟨empty, waits⟩ := h
    have due : modeChecked (s.schedOf b) = { s.schedOf b with mode := (s.schedOf b).modeSet, triggered := true } := by
      simp [modeChecked, empty, waits]
    rw [mapSched_congr (g := fun c => { c with mode := c.modeSet, triggered := true }) due]
    exact mapSched_mapSched b _ _ s
  · rename_i h
    have same : (s.schedOf b).stack = [] → (s.schedOf b).mode = (s.schedOf b).modeSet := fun empty =>
      not_not.mp fun waits => h ⟨empty, waits⟩
    have mode := ite_eq_right_iff.mpr fun empty => (same empty).symm
    have mark : (decide ((s.schedOf b).stack = []) && decide ((s.schedOf b).mode ≠ (s.schedOf b).modeSet)) = false := by
      simpa using same
    refine (mapSched_self ?_).symm
    rw [modeChecked, mode, mark, Bool.or_false]

/-- A scheduler that a stalled record has left (R82). -/
def placeStalled (q : Nat) (c : Sched) : Sched :=
  modeChecked
    { c with
      active := if c.active = some q then none else c.active
      stack := c.stack.filter fun x => decide (x ≠ q) }

theorem placeStalled_left (q : Nat) (c : Sched) : (placeStalled q c).active ≠ some q ∧ q ∉ (placeStalled q c).stack := by
  refine ⟨fun here => ?_, fun here => ?_⟩
  · change (if c.active = some q then none else c.active) = some q at here
    split at here
    · exact nomatch here
    · contradiction
  · exact of_decide_eq_true (List.mem_filter.mp here).2 rfl

theorem stall_eq (b : Bay) (q : Nat) (s : State) : stall b q s =
    (s.mapRec q fun x => { x with state := .waiting, stalled := true }).mapSched b (placeStalled q) := by
  unfold stall
  rw [checkMode_eq]
  exact mapSched_mapSched b _ _ _

/-- A record that becomes active (R77). -/
def activated (r : Rec) : Rec := { r with state := .active, started := true, stalled := false }

/-- The active record is pushed on the stack (R84). -/
theorem makeActive_over {a : Nat} (h : (s.schedOf b).active = some a) (hq : a ≠ q) :
    makeActive b q s = State.mapSched
      { s with recs := s.recs.map fun r =>
          if r.seq = q then activated r else if r.seq = a then { r with state := .suspended } else r }
      b fun c => { c with active := some q, stack := a :: (s.schedOf b).stack } := by
  have recs : ((s.mapRec a fun x => { x with state := .suspended }).mapRec q activated).recs =
      s.recs.map fun r => if r.seq = q then activated r else if r.seq = a then { r with state := .suspended } else r := by
    refine (List.map_map).trans (List.map_congr_left fun r _ => ?_)
    by_cases ha : r.seq = a
    · simp [ha, hq]
    · simp [ha]
  unfold makeActive
  dsimp only
  rw [h]
  dsimp only
  rw [if_neg hq, ← recs]
  cases b <;> rfl

/-- Nothing else changes place where the record is active already, or is taken from neither an active one nor the stack. -/
theorem makeActive_beside
    (h : (s.schedOf b).active = some q ∨ ((s.schedOf b).active = none ∧ (s.schedOf b).stack.head? ≠ some q)) :
    makeActive b q s = State.mapSched
      { s with recs := s.recs.map fun r => if r.seq = q then activated r else r } b fun c => { c with active := some q } := by
  unfold makeActive
  dsimp only
  rcases h with own | ⟨idle, other⟩
  · rw [own]
    dsimp only
    rw [if_pos rfl]
    rfl
  · rw [idle]
    dsimp only
    rw [if_neg other]
    rfl

/-- The stack top is popped (R85). -/
theorem makeActive_top {qs : List Nat} (h : (s.schedOf b).active = none) (hs : (s.schedOf b).stack = q :: qs) :
    makeActive b q s = State.mapSched
      { s with recs := s.recs.map fun r => if r.seq = q then activated r else r } b fun c =>
        { c with
          active := some q
          stack := qs
          mode := if qs = [] then c.modeSet else c.mode
          triggered := c.triggered || (decide (qs = []) && decide (c.mode ≠ c.modeSet)) } := by
  unfold makeActive
  dsimp only
  rw [h]
  dsimp only
  rw [if_pos (by rw [hs]; rfl), checkMode_eq, mapSched_mapSched]
  refine (mapSched_mapSched b (fun c => modeChecked { c with stack := c.stack.tail }) (fun c => { c with active := some q })
    (s.mapRec q activated)).trans (mapSched_congr (s := s.mapRec q activated) ?_)
  rw [mapRec_schedOf]
  simp only [modeChecked, hs, List.tail_cons]

/-! ### A record with no pass left (R78, R91) -/

theorem finishRecord_ends {r : Rec} (hr : s.rec? q = some r) (h : r.kind ≠ .buildStep ∨ r.writePhase = true) :
    finishRecord q s = enterEnding q s := by
  unfold finishRecord
  rw [hr]
  refine if_neg fun reads => ?_
  obtain ⟨step, phase⟩ := Bool.and_eq_true_iff.mp reads
  rcases h with other | writes
  · exact other (isStep_iff.mp step)
  · rw [writes] at phase
    exact Bool.noConfusion phase

/-- A BUILD_STEP that has read its sectors leaves its place with the primary and waits for its own bay's scheduler. -/
theorem finishRecord_step {r : Rec} (hr : s.rec? q = some r) (hk : r.kind = .buildStep) (hw : r.writePhase = false) :
    finishRecord q s = trigger r.bay ((s.mapSched r.bay.other (placeStalled q)).mapRec q fun x =>
      { x with
        state := .waiting
        writePhase := true
        sectors := x.sectors.map fun y => { y with progress := .pending, attempts := 0 } }) := by
  have reads : (isStep r && !r.writePhase) = true := by rw [isStep_iff.mpr hk, hw]; rfl
  have bay : schedBay r = r.bay.other := if_pos reads
  have read : finishRecord q s = toWritePhase q s := by
    unfold finishRecord
    rw [hr]
    exact if_pos reads
  rw [read]
  unfold toWritePhase
  rw [hr]
  dsimp only
  rw [bay, checkMode_eq, mapSched_mapSched]
  rfl

end Sys2Proof.Machine

namespace Sys2Proof.Passes
open Machine

/-- Settles O51: the decision by its cases, the list of waiting candidates, and what stalls, starts and ends change. -/
theorem decisionTaken : Obligations.DecisionTaken := by
  refine ⟨fun b s u hp hc hu => ⟨makeDecision_feed hp hc hu, fun hf => ?_⟩,
    fun b s u hp hc hu hf => ?_,
    fun b t => ⟨recordOutcome_started, recordOutcome_refused, recordOutcome_nothing⟩,
    fun b refused s => ⟨tryIdle_empty, fun q qs t v hs ht =>
      ⟨tryIdle_waiting hs ht, fun h => ⟨fun p plan => ?_, fun plan => ?_, fun plan rest => ?_⟩⟩⟩,
    fun b cs refused s t ht => ?_,
    fun b c cs refused s v => ⟨rfl, tryWaiting_stalled cs, tryWaiting_finished cs, fun p plan =>
      ⟨tryWaiting_refused cs plan, fun n => tryWaiting_admitted cs plan⟩⟩,
    fun b s => considered_off, fun q s => rfl, fun b q s => ?_,
    fun b q s => ⟨fun a => makeActive_over, makeActive_beside, fun qs => makeActive_top⟩,
    fun q r s hr => ⟨finishRecord_ends hr, fun hk hw => ?_⟩⟩
  · rw [makeDecision_records hp hc hu hf]
    refine ⟨fun q v ha plan => ?_, fun q v ha plan => ?_, fun q c n cs p p0 v w ha plan hm hcs first admitted => ?_,
      fun q p p0 v w ha plan hm own => ?_, fun q c n qs cs p v ha hs hcs first admitted => ?_,
      fun q qs p v ha hs hcs plan => ?_, fun ha hs => ?_⟩
    · rw [tryRecords_stalled ha plan]
    · rw [tryRecords_finished ha plan]
    · rw [tryRecords_nested ha plan hm rfl, hcs, tryWaiting_admitted cs first admitted]
      rfl
    · rw [tryRecords_goesOn ha plan hm, tryActive_pass own]
      exact recordOutcome_tryPlanned b q p false w
    · rw [tryRecords_idle ha, tryIdle_waiting hs rfl] <;> rw [hcs, tryWaiting_admitted cs first admitted]
      rfl
    · have none : tryWaiting b (candidates u b (levelOf u (some q))) false u = ⟨u, false, false⟩ := by rw [hcs]; rfl
      rw [tryRecords_idle ha, tryIdle_pass hs none.symm rfl plan]
      exact recordOutcome_tryPlanned b q p false v
    · rw [tryRecords_idle ha, tryIdle_empty hs]
      refine ⟨fun hcs => ?_, fun c cs v hcs =>
        ⟨fun n p first admitted => ?_, fun p last first out => ?_, fun last first => ?_⟩⟩
      · rw [hcs]
        rfl
      · rw [hcs, tryWaiting_admitted cs first admitted]
        rfl
      · rw [hcs, last, tryWaiting_refused [] first out]
        rfl
      · rw [hcs, last, tryWaiting_stalled [] first]
        rfl
  · rw [makeDecision_records hp hc hu hf]
    refine ⟨fun ha => by rw [tryRecords_idle ha], fun q p0 v w t ha plan hm ht => ?_⟩
    rw [tryRecords_nested ha plan hm ht]
    refine ⟨fun started => ?_, fun none => ?_⟩
    · rw [if_pos started, recordOutcome_started started]
    · rw [none, if_neg Bool.false_ne_true]
      refine ⟨fun p own => ?_, fun own => ?_, fun own => ?_⟩
      · rw [tryActive_pass own]
        exact recordOutcome_tryPlanned b q p t.refused w
      · rw [tryActive_stalled own]
      · rw [tryActive_finished own]
  · rw [tryIdle_pass hs ht h plan]
    exact ⟨fun n => tryPlanned_admitted, tryPlanned_refused⟩
  · rw [tryIdle_stalled hs ht h plan]
    exact ⟨tryStack_empty, fun rest => by rw [tryIdle, rest]⟩
  · rw [tryIdle_finished hs ht h plan, tryIdle, rest]
  · subst ht
    refine ⟨tryWaiting_started, ?_, ?_⟩
    · rintro h front back c p v rfl plan
      exact tryWaiting_all_refused h plan
    · rintro h rfl
      exact tryWaiting_some_refused h
  · refine ⟨_, rfl, ?_⟩
    rw [stall_eq, State.mapSched_schedOf, mapRec_schedOf]
    exact ⟨rfl, rfl, rfl, s.sched.get_upd_other b _, rfl⟩
  · rw [finishRecord_step hr hk hw, trigger_schedOf, trigger_schedOf_other, mapRec_schedOf, mapRec_schedOf,
      State.mapSched_schedOf]
    exact ⟨rfl, rfl, placeStalled_left q _⟩

end Sys2Proof.Passes
end

section
/-! The ring's bytes under the changes of a stream (R130): what a change of one band's segment does to the unsent and the
retained bytes, and with it a rewind and a data line (R136, R139, R142). -/

namespace Sys2Proof.Machine

variable {t u : Stream} {x : Band} {xs : List Band} {n : Nat} {g : Segment} {f : Segment → Segment}

/-! ### One band's segment -/

/-- A total over segments of distinct bands differs by what the one changed counts. -/
theorem sum_changeSegment {l : List Segment} (distinct : (l.map Segment.band).Nodup)
    (hg : l.find? (fun y => decide (y.band = n)) = some g) (count : Segment → Nat) :
    ((l.map fun y => if y.band = n then f y else y).map count).sum + count g = (l.map count).sum + count (f g) := by
  induction l with
  | nil => exact nomatch hg
  | cons y l ih =>
    obtain ⟨fresh, others⟩ := List.nodup_cons.mp distinct
    by_cases h : y.band = n
    · have rest : (l.map fun z => if z.band = n then f z else z) = l :=
        (List.map_congr_left fun z hz => if_neg fun e : z.band = n => fresh (List.mem_map.mpr ⟨z, hz, e.trans h.symm⟩)).trans
          (List.map_id _)
      obtain rfl : y = g := by simpa [h] using hg
      simp only [List.map_cons, List.sum_cons, h, if_true, rest]
      omega
    · have found := ih others (by simpa [h] using hg)
      simp only [List.map_cons, List.sum_cons, h, if_false]
      omega

theorem segmentOf_mapSegment (hf : ∀ y, (f y).band = y.band) : segmentOf (mapSegment n f t) n = (segmentOf t n).map f := by
  have same : ((fun y : Segment => decide (y.band = n)) ∘ fun y => if y.band = n then f y else y) =
      fun y => decide (y.band = n) := by
    funext y
    by_cases h : y.band = n <;> simp [hf, h]
  unfold segmentOf mapSegment
  rw [List.find?_map, same]
  refine Option.map_congr fun y hy => if_pos ?_
  have band := List.find?_some hy
  exact of_decide_eq_true band

theorem unsent_mapSegment (distinct : (t.segments.map Segment.band).Nodup) (hg : segmentOf t n = some g) :
    unsent (mapSegment n f t) + g.unsent = unsent t + (f g).unsent :=
  sum_changeSegment distinct hg Segment.unsent

theorem retained_of_oldest (hb : t.bands = x :: xs) (hg : segmentOf t x.number = some g) : retained t = g.sent := by
  simp only [retained, hb, hg]

/-! ### The oldest band changed -/

theorem mapOldest_of_cons (h : Band → Band) (hb : t.bands = x :: xs) : mapOldest h t = { t with bands := h x :: xs } := by
  simp only [mapOldest, hb]

/-- The oldest band's segment changed, and the band with it. -/
theorem mapOldest_mapSegment (h : Band → Band) (hb : t.bands = x :: xs) :
    mapOldest h (mapSegment n f t) =
      { t with bands := h x :: xs, segments := t.segments.map fun y => if y.band = n then f y else y } :=
  mapOldest_of_cons h hb

theorem rewindOldest_of_cons (hb : t.bands = x :: xs) :
    rewindOldest t =
      { t with
        bands := { x with sent := 0 } :: xs
        segments := t.segments.map fun y => if y.band = x.number then { y with sent := 0 } else y } := by
  simp only [rewindOldest, hb]
  exact mapOldest_mapSegment _ hb

theorem lineLeaves_of_cons (hb : t.bands = x :: xs) :
    lineLeaves x t =
      { t with
        bands := { x with sent := x.sent + 1, state := .exposing } :: xs
        segments := t.segments.map fun y => if y.band = x.number then { y with sent := y.sent + t.line } else y } :=
  mapOldest_mapSegment _ hb

theorem treatOldest_exposing (hb : t.bands = x :: xs) (hs : x.state = .exposing) : treatOldest t = rewindOldest t := by
  simp only [treatOldest, hb, hs]

theorem treatOldest_spoiled (hb : t.bands = x :: xs) {c : SpoilCause} (hs : x.state = .spoiled c) :
    treatOldest t = { t with bands := { x with sent := 0 } :: xs } := by
  simp only [treatOldest, hb, hs, mapOldest]

theorem treatOldest_unsent (hb : t.bands = x :: xs) (hs : x.state ∈ [.queued, .fetching, .fetched]) : treatOldest t = t := by
  simp only [List.mem_cons, List.not_mem_nil, or_false] at hs
  rcases hs with hs | hs | hs <;> simp only [treatOldest, hb, hs]

/-- Bytes that pass between unsent and retained leave the free space as it was (R130). -/
theorem freeSpace_of_held (ring : u.ring = t.ring) (reserved : u.reserved = t.reserved)
    (held : retained u + unsent u = retained t + unsent t) : freeSpace u = freeSpace t := by
  simp only [freeSpace, ring, reserved, held]

section
variable (hb : t.bands = x :: xs) (distinct : (t.segments.map Segment.band).Nodup) (hg : segmentOf t x.number = some g)
include hb distinct hg

/-- The unsent and retained bytes once the oldest band's segment has `k` bytes sent. -/
theorem oldest_resent (h : Band → Band) (hn : (h x).number = x.number) (hf : ∀ y, (f y).band = y.band) :
    unsent (mapOldest h (mapSegment x.number f t)) + g.unsent = unsent t + (f g).unsent ∧
      retained (mapOldest h (mapSegment x.number f t)) = (f g).sent := by
  have changed : segmentOf (mapSegment x.number f t) x.number = some (f g) := by rw [segmentOf_mapSegment hf, hg, Option.map_some]
  have oldest : mapOldest h (mapSegment x.number f t) = { mapSegment x.number f t with bands := h x :: xs } :=
    mapOldest_of_cons h hb
  rw [oldest]
  refine ⟨unsent_mapSegment distinct hg, retained_of_oldest (x := h x) rfl ?_⟩
  rw [hn]
  exact changed

/-- A rewind makes the retained bytes unsent (R136, R142). -/
theorem rewindOldest_bytes (sent : g.sent ≤ g.bytes.length) :
    unsent (rewindOldest t) = unsent t + retained t ∧ retained (rewindOldest t) = 0 ∧
      freeSpace (rewindOldest t) = freeSpace t := by
  have rewound : rewindOldest t =
      mapOldest (fun y => { y with sent := 0 }) (mapSegment x.number (fun y => { y with sent := 0 }) t) := by
    simp only [rewindOldest, hb]
  obtain ⟨bytes, none⟩ := oldest_resent (f := fun y => { y with sent := 0 }) hb distinct hg (fun y => { y with sent := 0 }) rfl
    fun _ => rfl
  have before := retained_of_oldest hb hg
  rw [← rewound] at bytes none
  simp only [Segment.unsent] at bytes none
  have risen : unsent (rewindOldest t) = unsent t + retained t := by omega
  refine ⟨risen, none, freeSpace_of_held ?_ ?_ (by omega)⟩ <;> rw [rewindOldest_of_cons hb]

/-- A data line moves L bytes from unsent to retained (R139). -/
theorem lineLeaves_bytes (line : t.line ≤ g.bytes.length - g.sent) :
    unsent (lineLeaves x t) + t.line = unsent t ∧ retained (lineLeaves x t) = retained t + t.line ∧
      freeSpace (lineLeaves x t) = freeSpace t := by
  obtain ⟨bytes, more⟩ := oldest_resent (f := fun y => { y with sent := y.sent + t.line }) hb distinct hg
    (fun y => { y with sent := y.sent + 1, state := .exposing }) rfl fun _ => rfl
  have before := retained_of_oldest hb hg
  have fallen : unsent (lineLeaves x t) + t.line = unsent t := by
    simp only [Segment.unsent] at bytes
    unfold lineLeaves
    omega
  have risen : retained (lineLeaves x t) = retained t + t.line := before ▸ more
  refine ⟨fallen, risen, freeSpace_of_held ?_ ?_ (by omega)⟩ <;> rw [lineLeaves_of_cons hb]

end

end Sys2Proof.Machine

namespace Sys2Proof.Exposing
open Machine

/-- Settles O33. -/
theorem rewindsAndLines : Obligations.RewindsAndLines := by
  refine ⟨⟨fun x xs t hb hs => ?_, fun x xs c t hb => treatOldest_spoiled hb, fun x xs t hb => treatOldest_unsent hb,
    fun x xs g t hb hs distinct hg sent => ?_⟩, fun x xs g t hb distinct hg line => lineLeaves_bytes hb distinct hg line⟩
  · rw [treatOldest_exposing hb hs, rewindOldest_of_cons hb]
  · rw [treatOldest_exposing hb hs]
    exact rewindOldest_bytes hb distinct hg sent

end Sys2Proof.Exposing
end

section
/-! APPEND_BAND by its checks (R132). -/

namespace Sys2Proof.Machine

variable {s : State} {t : Stream} {ch tag first length : Nat}

theorem takeAppendBand_closed (h : s.stream = none) :
    takeAppendBand ch tag first length s = selectNext (reply ch tag (.refuse .streamState) none s) := by
  unfold takeAppendBand
  rw [h]
  rfl

theorem takeAppendBand_refused {c : Code} (h : s.stream = some t) (hc : firstCode (bandChecks s t ch first length) = some c) :
    takeAppendBand ch tag first length s = selectNext (reply ch tag (.refuse c) none s) := by
  unfold takeAppendBand
  simp only [h, hc]
  rfl

theorem takeAppendBand_accepted (h : s.stream = some t) (hc : firstCode (bandChecks s t ch first length) = none) :
    takeAppendBand ch tag first length s =
      conclude (reply ch tag (.done (plainDone t.nextBand)) none { s with stream := some (appendBand first length t) }) := by
  unfold takeAppendBand
  simp only [h, hc]
  rfl

/-- The checks of R132 as conditions on the request, the bay and the table, in their order. -/
theorem bandChecks_code : firstCode (bandChecks s t ch first length) =
    if length = 0 ∨ length % t.line ≠ 0 ∨ (t.ring - 1) * 1024 < length then some Code.bandShape
    else if 277422 < first ∨ 277423 < first + (length + 1023) / 1024 then some .badField
    else if (s.mechOf t.bay).mode ≠ .ready ∧ (s.mechOf t.bay).mode ≠ .waking then some .bayNotReady
    else if ∃ z ∈ (s.mechOf t.bay).zones.getD [],
        z.first < first + (length + 1023) / 1024 ∧ first ≤ z.last ∧ z.readMask.getLsbD ch = false then some .denied
    else if ∃ r ∈ s.recs, (r.kind = .write ∨ r.kind = .mirrorCopy) ∧ r.state ≠ .ending ∧ r.bay = t.bay ∧
        r.first < first + (length + 1023) / 1024 ∧ first < r.first + r.count then some .overlapWrite
    else if 32 ≤ t.bands.length then some .bandListFull
    else none := by
  have count : sectorCount (newBand 0 0 first length) = (length + 1023) / 1024 := rfl
  have last : Config.lastLogical = 277422 := rfl
  unfold bandChecks
  simp only [count, last]
  refine firstCode_cons (by simp [or_assoc]) (firstCode_cons ?_ (firstCode_cons ?_ (firstCode_cons ?_
    (firstCode_cons ?_ (firstCode_cons decide_eq_true_iff rfl)))))
  · rw [Bool.or_eq_true, decide_eq_true_iff, decide_eq_true_iff]
    omega
  · simp [bayServes]
  · simp [zoneRefuses, touched, maskLets, maskFor, and_assoc]
  · simp [isWrite, isCopy, unfinished, overlapsExtent, and_assoc]

end Sys2Proof.Machine

namespace Sys2Proof.Exposing
open Machine

/-- Settles O31: the checks of R132 as a chain of conditions, of which an accepted band reaches the end. -/
theorem appendTaken : Obligations.AppendTaken := by
  have handed : ∀ (ch : Fin 4) (tag : Fin 256) (first length : Nat) (s : State), s.link.resetLine = false →
      exec (.appendBand ch tag first length) s = .next (takeAppendBand ch tag first length s) :=
    fun _ _ _ _ _ hl => exec_handedOn hl rfl
  refine ⟨fun ch tag first length s hl hs => ?_, fun ch tag first length t c s hl hs hc => ?_,
    fun ch tag first length t s hl hs c hc => ?_, fun ch tag first length t s hl hs pos lines fits area mode zones writers room => ?_⟩ <;>
    rw [handed _ _ _ _ _ hl]
  · rw [takeAppendBand_closed hs]
  · rw [takeAppendBand_refused hs hc]
  · rw [takeAppendBand_refused hs (bandChecks_code.trans hc)]
  · have passed : firstCode (bandChecks s t ch first length) = none := by
      rw [bandChecks_code, if_neg, if_neg, if_neg, if_neg, if_neg, if_neg (Nat.not_le.mpr room)]
      · rintro ⟨r, hr, kind, state, bay, shared⟩
        exact writers r hr (by simpa [isWrite, isCopy] using kind) state bay shared
      · rintro ⟨z, hz, below, above, barred⟩
        exact Bool.false_ne_true (barred.symm.trans (zones z hz below above))
      · rintro ⟨ready, waking⟩
        exact mode.elim ready waking
      · omega
      · rintro (none | part | long)
        · omega
        · exact part (Nat.mod_eq_zero_of_dvd lines)
        · omega
    rw [takeAppendBand_accepted hs passed]
    rfl

end Sys2Proof.Exposing
end

section
/-! The imagesetter's events while the stream is RUNNING, by the oldest band (R139 to R142). -/

namespace Sys2Proof.Machine

variable {s : State} {t : Stream} {x : Band} {xs : List Band}

theorem runningStream_none (h : ∀ t : Stream, s.stream = some t → t.phase ≠ .running) : runningStream s = none := by
  unfold runningStream
  rw [Option.filter_eq_none_iff]
  exact fun t ht => by simpa using h t ht

theorem runningStream_some (ht : s.stream = some t) (hp : t.phase = .running) : runningStream s = some t := by
  simp [runningStream, ht, hp]

theorem isSpoiled_eq_false : isSpoiled x = false ↔ ∀ c : SpoilCause, x.state ≠ .spoiled c := by
  rw [Bool.eq_false_iff, Ne, isSpoiled_iff, not_exists]

theorem allSent_iff : allSent t x = true ↔ x.length / t.line ≤ x.sent := decide_eq_true_iff

theorem allSent_eq_false : allSent t x = false ↔ x.sent < x.length / t.line := by
  rw [← Nat.not_le, ← allSent_iff, Bool.not_eq_true]

/-! ### A line -/

theorem answerLine_idle (h : t.bands = [] ∨ ∃ x xs, t.bands = x :: xs ∧ x.length / t.line ≤ x.sent) :
    answerLine t s = sendFill .idle t.line s := by
  unfold answerLine
  rcases h with h | ⟨x, xs, h, sent⟩
  · simp only [h]
  · simp only [h, allSent_iff.mpr sent, if_true]

section
variable (hb : t.bands = x :: xs) (left : x.sent < x.length / t.line)
include hb left

theorem answerLine_spoiled (spoiled : isSpoiled x = true) :
    answerLine t s = sendFill .spoiled t.line { s with stream := some { t with bands := { x with sent := x.sent + 1 } :: xs } } := by
  simp only [answerLine, hb, allSent_eq_false.mpr left, spoiled, if_true, Bool.false_eq_true, if_false, spoiledFill, mapOldest]
  rfl

theorem answerLine_data {g : Segment} (sound : isSpoiled x = false) (hg : segmentOf t x.number = some g)
    (bytes : t.line ≤ g.bytes.length - g.sent) : answerLine t s = dataLine t x ((g.bytes.drop g.sent).take t.line) s := by
  have line : nextLine t x = some ((g.bytes.drop g.sent).take t.line) := by
    simp only [nextLine, hg]
    exact if_pos bytes
  simp only [answerLine, hb, allSent_eq_false.mpr left, sound, line, Bool.false_eq_true, if_false]

theorem answerLine_underrun (sound : isSpoiled x = false)
    (short : segmentOf t x.number = none ∨ ∃ g, segmentOf t x.number = some g ∧ g.bytes.length - g.sent < t.line) :
    answerLine t s = underrun t x s := by
  have line : nextLine t x = none := by
    rcases short with none | ⟨g, hg, few⟩
    · simp only [nextLine, none]
    · simp only [nextLine, hg]
      exact if_neg (Nat.not_le.mpr few)
  simp only [answerLine, hb, allSent_eq_false.mpr left, sound, line, Bool.false_eq_true, if_false]

end

theorem spoilOldest_of_cons (c : SpoilCause) (sent : Nat) (hb : t.bands = x :: xs) :
    spoilOldest c sent x t =
      { t with
        bands := { x with sent := sent, fetched := (x.length + 1023) / 1024, state := .spoiled c } :: xs
        segments := t.segments.filter fun y => decide (y.band ≠ x.number) } :=
  mapOldest_of_cons (t := dropSegment x.number t) _ hb

/-! ### An accept -/

theorem withoutOldest_of_cons (hb : t.bands = x :: xs) :
    withoutOldest x t = { t with bands := xs, segments := t.segments.filter fun y => decide (y.band ≠ x.number) } := by
  simp only [withoutOldest, hb]
  rfl

theorem afterAccept_spoiled {c : SpoilCause} (h : x.state = .spoiled c) :
    afterAccept t x s = raise t.bay (.streamHalted c.halt x.number) (setPhase (.halted c.halt) s) := by
  simp only [afterAccept, h]

theorem afterAccept_sound (sound : ∀ c : SpoilCause, x.state ≠ .spoiled c) :
    afterAccept t x s = if t.bands.tail = [] then raise t.bay (.streamEnd x.number) (setPhase .opened s) else s := by
  unfold afterAccept
  split
  · rename_i c h
    exact absurd h (sound c)
  · rfl

/-! ### The events -/

section
variable (ht : s.stream = some t) (hp : t.phase = .running)
include ht hp

theorem exec_lineRequest_running : exec .lineRequest s = .next (conclude (answerLine t s)) := by
  simp only [exec, execLineRequest, runningStream_some ht hp]

theorem exec_bandAccept_ignored (h : t.bands = [] ∨ ∃ x xs, t.bands = x :: xs ∧ x.sent < x.length / t.line) :
    exec .bandAccept s = .next (ignoreAccept s) := by
  rcases h with h | ⟨x, xs, h, left⟩
  · simp only [exec, execBandAccept, runningStream_some ht hp, h]
  · simp only [exec, execBandAccept, runningStream_some ht hp, h, allSent_eq_false.mpr left, Bool.false_eq_true, if_false]

theorem exec_bandRepeat_ignored (h : t.bands = [] ∨ ∃ x xs, t.bands = x :: xs ∧ x.state ≠ .exposing) :
    exec .bandRepeat s = .next (ignoreRepeat s) := by
  rcases h with h | ⟨x, xs, h, state⟩
  · simp only [exec, execBandRepeat, runningStream_some ht hp, h]
  · simp only [exec, execBandRepeat, runningStream_some ht hp, h, state, if_false]

variable (hb : t.bands = x :: xs)
include hb

theorem exec_bandAccept_taken (sent : x.length / t.line ≤ x.sent) :
    exec .bandAccept s = .next (conclude (acceptBand t x s)) := by
  simp only [exec, execBandAccept, runningStream_some ht hp, hb, allSent_iff.mpr sent, if_true]

theorem exec_bandRepeat_exposing (state : x.state = .exposing) :
    exec .bandRepeat s = .next (conclude (if x.repeats < 2 then takeRepeat t s else limitRepeat t x s)) := by
  simp only [exec, execBandRepeat, runningStream_some ht hp, hb, state, if_true]

end

/-- A repeat taken rewinds the oldest band and counts on it and on the stream (R142). -/
theorem takeRepeat_of_cons (hb : t.bands = x :: xs) :
    takeRepeat t s = trigger t.bay (armingTest
      { s with
        stream := some
          { t with
            bands := { x with sent := 0, repeats := x.repeats + 1 } :: xs
            segments := t.segments.map fun y => if y.band = x.number then { y with sent := 0 } else y }
        tally := { s.tally with repeats := s.tally.repeats + 1 } }) := by
  unfold takeRepeat
  rw [rewindOldest_of_cons hb]
  rfl

end Sys2Proof.Machine

namespace Sys2Proof.Exposing
open Machine

/-- Settles O34. -/
theorem imagesetterAnswered : Obligations.ImagesetterAnswered := by
  refine ⟨fun s => ⟨fun idle => ?_, fun t ht hp => ?_⟩, fun s => ⟨fun idle => ?_, fun t ht hp => ?_⟩⟩
  · simp only [exec, execLineRequest, runningStream_none idle]
    rfl
  · rw [exec_lineRequest_running ht hp]
    refine ⟨fun h => by rw [answerLine_idle h]; rfl, fun x xs hb left => ⟨fun c spoiled => ?_, fun g sound hg bytes => ?_,
      fun sound short => ?_⟩⟩
    · rw [answerLine_spoiled hb left (isSpoiled_iff.mpr ⟨c, spoiled⟩)]
      rfl
    · rw [answerLine_data hb left (isSpoiled_eq_false.mpr sound) hg bytes, dataLine, lineLeaves_of_cons hb]
      rfl
    · rw [answerLine_underrun hb left (isSpoiled_eq_false.mpr sound) short, underrun, spoilOldest_of_cons _ _ hb]
      rfl
  · simp only [exec, execBandAccept, execBandRepeat, runningStream_none idle]
    exact ⟨rfl, rfl⟩
  · refine ⟨exec_bandAccept_ignored ht hp, exec_bandRepeat_ignored ht hp, fun x xs hb => ⟨fun sent => ⟨_, rfl, ?_⟩,
      fun state few => ?_, fun state many => ?_⟩⟩
    · rw [exec_bandAccept_taken ht hp hb sent, acceptBand, withoutOldest_of_cons hb]
      refine ⟨fun c spoiled => ?_, fun sound last => ?_, fun sound more => ?_⟩
      · rw [afterAccept_spoiled spoiled]
        cases c <;> rfl
      · rw [afterAccept_sound sound, if_pos (by rw [hb]; exact last)]
        rfl
      · rw [afterAccept_sound sound, if_neg (by rw [hb]; exact more)]
        rfl
    · rw [exec_bandRepeat_exposing ht hp hb state, if_pos few, takeRepeat_of_cons hb]
    · rw [exec_bandRepeat_exposing ht hp hb state, if_neg (Nat.not_lt.mpr many), limitRepeat, spoilOldest_of_cons _ _ hb]
      rfl

end Sys2Proof.Exposing
end

section
/-! The laws of the list and of the ring under the changes of one stream (R130, R131): what each change of its bands and of its
segments keeps. -/

namespace Sys2Proof.Machine

variable {t u v : Stream} {x y : Band} {xs : List Band} {n : Nat} {d : Data} {g : Segment} {l : List Segment}
  {C : Prop}

/-! ### The ring's law by the numbers of the list -/

/-- A segment stands in a list of bands of these numbers: its band is one, and has bytes sent only as the oldest (R130). -/
structure Stands (numbers : List Nat) (g : Segment) : Prop where
  sent : g.sent ≤ g.bytes.length
  oldest : 0 < g.sent → numbers.head? = some g.band
  band : g.band ∈ numbers

theorem ringKept_iff : ringKept t ↔ (t.segments.map Segment.band).Nodup ∧
    (∀ g ∈ t.segments, Stands (t.bands.map Band.number) g) ∧ segmentBytes t + t.reserved ≤ t.ring * 1024 ∧
      (t.bands.map Band.serial).Pairwise (· < ·) ∧ ∀ n ∈ t.bands.map Band.serial, n < t.appended := by
  have stands : ∀ g, Stands (t.bands.map Band.number) g ↔ g.sent ≤ g.bytes.length ∧
      (0 < g.sent → (t.bands.head?.map Band.number) = some g.band) ∧ ∃ x ∈ t.bands, x.number = g.band := fun g => by
    rw [← List.head?_map, ← List.mem_map]
    exact ⟨fun h => ⟨h.sent, h.oldest, h.band⟩, fun ⟨sent, oldest, band⟩ => ⟨sent, oldest, band⟩⟩
  simp only [ringKept, stands, List.forall_mem_map]

theorem ringKept.total (h : ringKept t) : segmentBytes t + t.reserved ≤ t.ring * 1024 := (ringKept_iff.mp h).2.2.1

theorem ringKept.before (h : ringKept t) (hx : x ∈ t.bands) : x.serial < t.appended :=
  (ringKept_iff.mp h).2.2.2.2 _ (List.mem_map_of_mem hx)

/-- The ring's law reads the numbers and the serials of the list, not the rest of its bands. -/
theorem ringKept.of_numbers (h : ringKept t) (segments : u.segments = t.segments) (ring : u.ring = t.ring)
    (reserved : u.reserved ≤ t.reserved) (appended : u.appended = t.appended)
    (numbers : u.bands.map Band.number = t.bands.map Band.number)
    (serials : u.bands.map Band.serial = t.bands.map Band.serial) : ringKept u := by
  obtain ⟨distinct, stands, room, ordered, before⟩ := ringKept_iff.mp h
  rw [ringKept_iff, segmentBytes, segments, ring, appended, numbers, serials]
  exact ⟨distinct, stands, Nat.le_trans (Nat.add_le_add_left reserved _) room, ordered, before⟩

/-- A total over segments of distinct bands of which one band's alone counts is that one's. -/
theorem sum_of_one {l : List Segment} (distinct : (l.map Segment.band).Nodup) (count : Segment → Nat)
    (others : ∀ g ∈ l, g.band ≠ n → count g = 0) :
    (l.map count).sum = ((l.find? fun g => decide (g.band = n)).map count).getD 0 := by
  induction l with
  | nil => rfl
  | cons g l ih =>
    obtain ⟨fresh, distinct⟩ := List.nodup_cons.mp distinct
    obtain ⟨first, others⟩ := List.forall_mem_cons.mp others
    by_cases h : g.band = n
    · have rest : l.map count = l.map fun _ => 0 := List.map_congr_left fun y hy =>
        others y hy fun e : y.band = n => fresh (List.mem_map.mpr ⟨y, hy, e.trans h.symm⟩)
      simp [h, rest]
    · simp [h, first h, ih distinct others]

/-- In a ring within its law the bytes are those retained and those unsent (R130). -/
theorem ringKept.bytes (h : ringKept t) : retained t + unsent t = segmentBytes t := by
  obtain ⟨distinct, stands, -⟩ := ringKept_iff.mp h
  have split : (t.segments.map Segment.sent).sum + unsent t = segmentBytes t := by
    rw [unsent, segmentBytes, ← List.sum_map_add]
    refine congrArg List.sum (List.map_congr_left fun g hg => ?_)
    exact Nat.add_sub_cancel' (stands g hg).sent
  have sent : retained t = (t.segments.map Segment.sent).sum := by
    unfold retained
    split
    · rename_i none
      have empty : t.segments = [] := List.eq_nil_iff_forall_not_mem.mpr fun g hg => by
        have band := (stands g hg).band
        simp [none] at band
      simp [empty]
    · rename_i x xs hb
      rw [sum_of_one (n := x.number) distinct]
      · unfold segmentOf
        cases t.segments.find? fun g => decide (g.band = x.number) <;> rfl
      · intro g hg other
        by_contra some
        have oldest := (stands g hg).oldest (Nat.pos_of_ne_zero some)
        simp only [hb, List.map_cons, List.head?_cons, Option.some.injEq] at oldest
        exact other oldest.symm
  rw [sent, split]

/-- What is free in a ring within its law (R130). -/
theorem ringKept.room (h : ringKept t) (fits : n ≤ freeSpace t) : segmentBytes t + n + t.reserved ≤ t.ring * 1024 := by
  have total := h.total
  rw [freeSpace, h.bytes] at fits
  omega

/-! ### Segments changed -/

theorem ringKept.withSegments (h : ringKept t) (distinct : (l.map Segment.band).Nodup)
    (stands : ∀ g ∈ l, Stands (t.bands.map Band.number) g)
    (room : (l.map fun g => g.bytes.length).sum + t.reserved ≤ t.ring * 1024) : ringKept { t with segments := l } := by
  obtain ⟨-, -, -, ordered, before⟩ := ringKept_iff.mp h
  exact ringKept_iff.mpr ⟨distinct, stands, room, ordered, before⟩

/-- Segments released (R130). -/
theorem ringKept.fewer (h : ringKept t) (few : l.Sublist t.segments) : ringKept { t with segments := l } := by
  obtain ⟨distinct, stands, room, -⟩ := ringKept_iff.mp h
  refine h.withSegments (distinct.sublist (few.map _)) (fun g hg => stands g (few.subset hg)) ?_
  have bytes : (l.map fun g => g.bytes.length).sum ≤ segmentBytes t := (few.map _).sum_le_sum fun _ _ => Nat.zero_le _
  omega

/-- The oldest band's segment with other bytes of its own sent (R130). -/
theorem ringKept.resent (h : ringKept t) (hb : t.bands = x :: xs) (sent : Segment → Nat)
    (within : ∀ g ∈ t.segments, g.band = x.number → sent g ≤ g.bytes.length) :
    ringKept { t with segments := t.segments.map fun g => if g.band = x.number then { g with sent := sent g } else g } := by
  obtain ⟨distinct, stands, room, -⟩ := ringKept_iff.mp h
  have bands : (t.segments.map fun g => if g.band = x.number then { g with sent := sent g } else g).map Segment.band =
      t.segments.map Segment.band := by
    rw [List.map_map]
    refine List.map_congr_left fun g _ => ?_
    by_cases e : g.band = x.number <;> simp [e]
  have bytes : (t.segments.map fun g => if g.band = x.number then { g with sent := sent g } else g).map
      (fun g => g.bytes.length) = t.segments.map fun g => g.bytes.length := by
    rw [List.map_map]
    refine List.map_congr_left fun g _ => ?_
    by_cases e : g.band = x.number <;> simp [e]
  refine h.withSegments (bands ▸ distinct) (List.forall_mem_map.mpr fun g hg => ?_) (bytes ▸ room)
  split
  · rename_i e
    exact ⟨within g hg e, fun _ => by simp [hb, e], (stands g hg).band⟩
  · exact stands g hg

theorem appendBytes_bands (n : Nat) (d : Data) (l : List Segment) : (appendBytes n d l).map Segment.band =
    if n ∈ l.map Segment.band then l.map Segment.band else l.map Segment.band ++ [n] := by
  induction l with
  | nil => rfl
  | cons g l ih =>
    by_cases h : g.band = n
    · simp [appendBytes, h]
    · have other : n ≠ g.band := fun e => h e.symm
      simp only [appendBytes, h, if_false, List.map_cons, ih, List.mem_cons, other, false_or]
      split <;> rfl

theorem appendBytes_total (n : Nat) (d : Data) (l : List Segment) :
    ((appendBytes n d l).map fun g => g.bytes.length).sum = (l.map fun g => g.bytes.length).sum + d.length := by
  induction l with
  | nil => simp [appendBytes]
  | cons g l ih =>
    by_cases h : g.band = n
    · simp only [appendBytes, h, if_true, List.map_cons, List.sum_cons, List.length_append]
      omega
    · simp only [appendBytes, h, if_false, List.map_cons, List.sum_cons, ih]
      omega

/-- A segment after an append is the new one of the band, or one of before with as many bytes or more. -/
theorem mem_appendBytes (h : g ∈ appendBytes n d l) :
    (g.band = n ∧ g.sent = 0) ∨ ∃ y ∈ l, g.band = y.band ∧ g.sent = y.sent ∧ y.bytes.length ≤ g.bytes.length := by
  induction l with
  | nil =>
    obtain rfl := List.mem_singleton.mp h
    exact .inl ⟨rfl, rfl⟩
  | cons y l ih =>
    unfold appendBytes at h
    split at h
    · rcases List.mem_cons.mp h with rfl | h
      · exact .inr ⟨y, List.mem_cons_self, rfl, rfl, by simp⟩
      · exact .inr ⟨g, List.mem_cons_of_mem y h, rfl, rfl, Nat.le_refl _⟩
    · rcases List.mem_cons.mp h with rfl | h
      · exact .inr ⟨g, List.mem_cons_self, rfl, rfl, Nat.le_refl _⟩
      · exact (ih h).imp_right fun ⟨z, hz, same⟩ => ⟨z, List.mem_cons_of_mem y hz, same⟩

/-- Bytes of a band of the list enter the ring where there is room for them (R130, R134). -/
theorem ringKept.appendBytes (h : ringKept t) (hn : n ∈ t.bands.map Band.number)
    (room : segmentBytes t + d.length + t.reserved ≤ t.ring * 1024) :
    ringKept { t with segments := Machine.appendBytes n d t.segments } := by
  obtain ⟨distinct, stands, -⟩ := ringKept_iff.mp h
  refine h.withSegments ?_ (fun g hg => ?_) ((appendBytes_total n d t.segments).symm ▸ room)
  · rw [appendBytes_bands]
    split
    · exact distinct
    · rename_i fresh
      exact List.nodup_append_comm.mp (List.nodup_cons.mpr ⟨fresh, distinct⟩)
  · rcases mem_appendBytes hg with ⟨band, sent⟩ | ⟨y, hy, band, sent, bytes⟩
    · exact ⟨by omega, fun pos => by omega, band ▸ hn⟩
    · obtain ⟨within, oldest, listed⟩ := stands y hy
      exact ⟨by omega, fun pos => by rw [band]; exact oldest (by omega), band ▸ listed⟩

/-! ### The list changed -/

/-- The oldest band leaves the list, once its segment is released (R141). -/
theorem ringKept.tail (h : ringKept t) (hb : t.bands = x :: xs) (released : ∀ g ∈ t.segments, g.band ≠ x.number) :
    ringKept { t with bands := xs } := by
  obtain ⟨distinct, stands, room, ordered, before⟩ := ringKept_iff.mp h
  rw [hb] at stands ordered before
  refine ringKept_iff.mpr ⟨distinct, fun g hg => ?_, room, (List.pairwise_cons.mp ordered).2,
    (List.forall_mem_cons.mp before).2⟩
  obtain ⟨sent, oldest, band⟩ := stands g hg
  refine ⟨sent, fun pos => absurd ?_ (released g hg), (List.mem_cons.mp band).resolve_left (released g hg)⟩
  exact (Option.some.inj (oldest pos)).symm

/-- A band is appended (R132). -/
theorem ringKept.append (h : ringKept t) (first length : Nat) : ringKept (appendBand first length t) := by
  obtain ⟨distinct, stands, room, ordered, before⟩ := ringKept_iff.mp h
  have numbers : (appendBand first length t).bands.map Band.number = t.bands.map Band.number ++ [t.nextBand] := List.map_append
  have serials : (appendBand first length t).bands.map Band.serial = t.bands.map Band.serial ++ [t.appended] := List.map_append
  rw [ringKept_iff, numbers, serials]
  refine ⟨distinct, fun g hg => ?_, room, List.pairwise_append.mpr ⟨ordered, List.pairwise_singleton _ _, ?_⟩, ?_⟩
  · obtain ⟨sent, oldest, band⟩ := stands g hg
    refine ⟨sent, fun pos => ?_, List.mem_append_left _ band⟩
    rw [List.head?_append, oldest pos]
    rfl
  · intro a ha b hb
    rw [List.mem_singleton.mp hb]
    exact before a ha
  · intro a ha
    rcases List.mem_append.mp ha with ha | ha
    · exact Nat.lt_succ_of_lt (before a ha)
    · rw [List.mem_singleton.mp ha]
      exact Nat.lt_succ_self _

/-! ### Changes that keep the laws -/

/-- The list of one stream is within its law (R130). -/
def listKept (t : Stream) : Prop := t.bands.length ≤ 32 ∧ ∀ x ∈ t.bands, x.repeats ≤ 2

/-- A change of the stream that leaves its state, its bay and the reserved bytes, keeps the laws of list and, where `C` holds, of
ring, and makes no new band that a feed pass in flight could be of. -/
structure StreamKept (C : Prop) (t u : Stream) : Prop where
  phase : u.phase = t.phase
  bay : u.bay = t.bay
  reserved : u.reserved = t.reserved
  appended : t.appended ≤ u.appended
  list : listKept t → listKept u
  ring : C → ringKept t → ringKept u
  bands : ∀ y ∈ u.bands, y.serial < t.appended → isSpoiled y = false →
    ∃ x ∈ t.bands, x.serial = y.serial ∧ x.length = y.length ∧ isSpoiled x = false

theorem StreamKept.trans (h : StreamKept C t u) (h' : StreamKept C u v) : StreamKept C t v where
  phase := h'.phase.trans h.phase
  bay := h'.bay.trans h.bay
  reserved := h'.reserved.trans h.reserved
  appended := Nat.le_trans h.appended h'.appended
  list k := h'.list (h.list k)
  ring c k := h'.ring c (h.ring c k)
  bands z hz old sound := by
    obtain ⟨y, hy, serial, length, sound⟩ := h'.bands z hz (Nat.lt_of_lt_of_le old h.appended) sound
    obtain ⟨x, hx, serial', length', sound⟩ := h.bands y hy (serial ▸ old) sound
    exact ⟨x, hx, serial'.trans serial, length'.trans length, sound⟩

/-- The marks and the low report's arming are no matter of the laws. -/
theorem StreamKept.aside (t : Stream) (m : Marks) (a : Bool) : StreamKept C t { t with marks := m, lowArmed := a } :=
  ⟨rfl, rfl, rfl, Nat.le_refl _, id, fun _ => id, fun y hy _ sound => ⟨y, hy, rfl, rfl, sound⟩⟩

theorem StreamKept.refl (t : Stream) : StreamKept C t t := .aside t t.marks t.lowArmed

theorem StreamKept.segments (ring : ringKept t → ringKept { t with segments := l }) :
    StreamKept C t { t with segments := l } :=
  ⟨rfl, rfl, rfl, Nat.le_refl _, id, fun _ => ring, fun y hy _ sound => ⟨y, hy, rfl, rfl, sound⟩⟩

/-- The oldest band changed but for what tells it, and none that was spoiled made sound. -/
theorem StreamKept.oldest (hb : t.bands = x :: xs) (y : Band) (number : y.number = x.number) (serial : y.serial = x.serial)
    (length : y.length = x.length) (repeats : x.repeats ≤ 2 → y.repeats ≤ 2)
    (sound : isSpoiled y = false → isSpoiled x = false) : StreamKept C t { t with bands := y :: xs } where
  phase := rfl
  bay := rfl
  reserved := rfl
  appended := Nat.le_refl _
  list := by
    rintro ⟨few, counts⟩
    rw [hb] at few counts
    obtain ⟨first, others⟩ := List.forall_mem_cons.mp counts
    exact ⟨few, List.forall_mem_cons.mpr ⟨repeats first, others⟩⟩
  ring _ h := h.of_numbers rfl rfl (Nat.le_refl _) rfl (by simp [hb, number]) (by simp [hb, serial])
  bands z hz _ hs := by
    rw [hb]
    rcases List.mem_cons.mp hz with rfl | hz
    · exact ⟨x, List.mem_cons_self, serial.symm, length.symm, sound hs⟩
    · exact ⟨z, List.mem_cons_of_mem x hz, rfl, rfl, hs⟩

/-- List and ring emptied (R145, R147). -/
theorem StreamKept.emptied (t : Stream) (a : Bool) : StreamKept C t { t with bands := [], segments := [], lowArmed := a } where
  phase := rfl
  bay := rfl
  reserved := rfl
  appended := Nat.le_refl _
  list _ := ⟨Nat.zero_le _, fun _ h => nomatch h⟩
  ring _ h := by
    obtain ⟨-, -, room, -⟩ := ringKept_iff.mp h
    exact ringKept_iff.mpr ⟨.nil, (fun _ h => nomatch h), by simp only [segmentBytes, List.map_nil, List.sum_nil]; omega, .nil,
      fun _ h => nomatch h⟩
  bands _ h := nomatch h

theorem StreamKept.rewindOldest (t : Stream) : StreamKept C t (rewindOldest t) := by
  cases hb : t.bands with
  | nil =>
    simp only [Machine.rewindOldest, hb]
    exact .refl t
  | cons x xs =>
    rw [rewindOldest_of_cons hb]
    exact StreamKept.trans (.segments fun h => h.resent hb (fun _ => 0) fun _ _ _ => Nat.zero_le _)
      (.oldest (t := { t with segments := t.segments.map fun g => if g.band = x.number then { g with sent := 0 } else g }) hb
        { x with sent := 0 } rfl rfl rfl id id)

theorem StreamKept.treatOldest (t : Stream) : StreamKept C t (treatOldest t) := by
  unfold Machine.treatOldest
  split
  · exact .refl t
  · rename_i x xs hb
    split
    · exact .rewindOldest t
    · rw [mapOldest_of_cons _ hb]
      exact .oldest hb _ rfl rfl rfl id id
    · exact .refl t

/-- A data line leaves what the oldest band's segment has (R139). -/
theorem StreamKept.lineLeaves (hb : t.bands = x :: xs) (hd : nextLine t x = some d) (sound : isSpoiled x = false) :
    StreamKept C t (lineLeaves x t) := by
  have within : ringKept t → ∀ g ∈ t.segments, g.band = x.number → g.sent + t.line ≤ g.bytes.length := by
    intro h g hg band
    obtain ⟨distinct, stands, -⟩ := ringKept_iff.mp h
    unfold nextLine at hd
    split at hd
    · rename_i y hy
      have same : y = g := List.inj_on_of_nodup_map distinct (List.mem_of_find?_eq_some hy) hg
        ((of_decide_eq_true (List.find?_some (p := fun g : Segment => decide (g.band = x.number)) hy)).trans band.symm)
      subst same
      split at hd
      · rename_i line
        have sent := (stands y hg).sent
        unfold Segment.unsent at line
        omega
      · exact nomatch hd
    · exact nomatch hd
  rw [lineLeaves_of_cons hb]
  exact StreamKept.trans (.segments fun h => h.resent hb (fun g => g.sent + t.line) (within h))
    (.oldest (t := { t with
      segments := t.segments.map fun g => if g.band = x.number then { g with sent := g.sent + t.line } else g }) hb
      { x with sent := x.sent + 1, state := .exposing } rfl rfl rfl id fun _ => sound)

theorem StreamKept.spoilOldest (hb : t.bands = x :: xs) (c : SpoilCause) (sent : Nat) :
    StreamKept C t (spoilOldest c sent x t) := by
  rw [spoilOldest_of_cons c sent hb]
  exact StreamKept.trans (.segments fun h => h.fewer List.filter_sublist)
    (.oldest (t := { t with segments := t.segments.filter fun y => decide (y.band ≠ x.number) }) hb
      { x with sent := sent, fetched := (x.length + 1023) / 1024, state := .spoiled c } rfl rfl rfl id fun h => nomatch h)

theorem StreamKept.withoutOldest (hb : t.bands = x :: xs) : StreamKept C t (withoutOldest x t) := by
  rw [withoutOldest_of_cons hb]
  refine ⟨rfl, rfl, rfl, Nat.le_refl _, fun h => ?_, fun _ h => ?_, fun y hy _ sound => ⟨y, ?_, rfl, rfl, sound⟩⟩
  · obtain ⟨few, counts⟩ := h
    rw [hb] at few counts
    exact ⟨Nat.le_of_succ_le few, (List.forall_mem_cons.mp counts).2⟩
  · exact (h.fewer (l := t.segments.filter fun y => decide (y.band ≠ x.number)) List.filter_sublist).tail hb
      fun g hg => of_decide_eq_true (List.of_mem_filter (p := fun y : Segment => decide (y.band ≠ x.number)) hg)
  · rw [hb]
    exact List.mem_cons_of_mem x hy

theorem StreamKept.appendBand (few : t.bands.length < 32) (first length : Nat) : StreamKept C t (appendBand first length t) where
  phase := rfl
  bay := rfl
  reserved := rfl
  appended := Nat.le_succ _
  list := by
    rintro ⟨_, counts⟩
    refine ⟨(List.length_append).trans_le few, fun y hy => ?_⟩
    rcases List.mem_append.mp hy with old | new
    · exact counts y old
    · rw [List.mem_singleton.mp new]
      exact Nat.zero_le 2
  ring _ h := h.append first length
  bands y hy old sound := by
    rcases List.mem_append.mp hy with hy | new
    · exact ⟨y, hy, rfl, rfl, sound⟩
    · rw [List.mem_singleton.mp new] at old
      exact absurd old (Nat.lt_irrefl _)

/-! ### Sectors fetched -/

theorem bandBytes_of_length (h : y.length = x.length) : bandBytes y = bandBytes x := by
  have count : sectorCount y = sectorCount x := by simp only [sectorCount, h]
  funext k
  simp [bandBytes, count, h]

theorem isSpoiled_fetchedBy (k : Nat) (damaged : Bool) (y : Band) : isSpoiled (fetchedBy k damaged y) = isSpoiled y := by
  unfold isSpoiled fetchedBy stateBy
  cases y.state
  case exposing | spoiled => rfl
  all_goals
    dsimp only
    by_cases all : sectorCount y ≤ y.fetched + k <;> simp [all]

/-- A sector of a band of the list enters the ring where there is room for its bytes (R134, R135). -/
theorem StreamKept.enterSector (hn : n ∈ t.bands.map Band.number)
    (room : C → ringKept t → segmentBytes t + d.length + t.reserved ≤ t.ring * 1024) (damaged : Bool) :
    StreamKept C t (enterSector n d damaged t) := by
  have bands := enterSector_bands n d damaged t
  have same : ∀ y : Band, (if y.number = n then fetchedBy 1 damaged y else y).number = y.number ∧
      (if y.number = n then fetchedBy 1 damaged y else y).serial = y.serial ∧
      (if y.number = n then fetchedBy 1 damaged y else y).length = y.length ∧
      (if y.number = n then fetchedBy 1 damaged y else y).repeats = y.repeats ∧
      isSpoiled (if y.number = n then fetchedBy 1 damaged y else y) = isSpoiled y := fun y => by
    split
    · exact ⟨rfl, rfl, rfl, rfl, isSpoiled_fetchedBy 1 damaged y⟩
    · exact ⟨rfl, rfl, rfl, rfl, rfl⟩
  refine ⟨rfl, rfl, rfl, Nat.le_refl _, fun h => ?_, fun c h => ?_, ?_⟩
  · obtain ⟨few, counts⟩ := h
    unfold listKept
    rw [bands, List.length_map]
    refine ⟨few, List.forall_mem_map.mpr fun y hy => ?_⟩
    obtain ⟨-, -, -, repeats, -⟩ := same y
    exact repeats.symm ▸ counts y hy
  · refine (h.appendBytes hn (room c h)).of_numbers rfl rfl (Nat.le_refl _) rfl ?_ ?_
    · rw [bands, List.map_map]
      exact List.map_congr_left fun y _ => (same y).1
    · rw [bands, List.map_map]
      exact List.map_congr_left fun y _ => (same y).2.1
  · rw [bands]
    refine List.forall_mem_map.mpr fun y hy _ sound => ?_
    obtain ⟨-, serial, length, -, spoiled⟩ := same y
    exact ⟨y, hy, serial.symm, length.symm, spoiled.symm.trans sound⟩

end Sys2Proof.Machine
end

section
/-! What leaves the stream, the ready line and the passes in flight alone, one equation per operation. -/

namespace Sys2Proof.Machine

/-- What the laws of the stream read of a state. -/
structure Reel where
  stream : Option Stream
  ready : Bool
  pass : Bay → Option Pass

def reel (s : State) : Reel := ⟨s.stream, s.port.ready, fun b => (s.schedOf b).pass⟩

variable {b : Bay} {q i n : Nat} {r : Rec} {s t : State}

theorem reel_eq_iff : reel t = reel s ↔
    t.stream = s.stream ∧ t.port.ready = s.port.ready ∧ ∀ b, (t.schedOf b).pass = (s.schedOf b).pass := by
  simp [reel, funext_iff]

/-! ### The basic changes -/

@[simp] theorem reel_mapMech (f : Mech → Mech) : reel (s.mapMech b f) = reel s := rfl
@[simp] theorem reel_mapMap (f : DefectMap → DefectMap) : reel (s.mapMap b f) = reel s := rfl
@[simp] theorem reel_withRecs (x : List Rec) : reel (s.withRecs x) = reel s := rfl
@[simp] theorem reel_withCounter (n : BitVec 48) : reel (s.withCounter n) = reel s := rfl
@[simp] theorem reel_withMirror (m : Mirror) : reel (s.withMirror m) = reel s := rfl
@[simp] theorem reel_mapTally (f : Tally → Tally) : reel (s.mapTally f) = reel s := rfl
@[simp] theorem reel_mapLink (f : Link → Link) : reel (s.mapLink f) = reel s := rfl
@[simp] theorem reel_withSettings (x : Settings) : reel (s.withSettings x) = reel s := rfl
@[simp] theorem reel_mapRec (f : Rec → Rec) : reel (s.mapRec q f) = reel s := rfl
@[simp] theorem reel_reply (ch tag : Nat) (body : ReplyBody) (owner : Option Nat) :
    reel (reply ch tag body owner s) = reel s := rfl
@[simp] theorem reel_raise (body : ReportBody) : reel (raise b body s) = reel s := rfl
@[simp] theorem reel_wake : reel (wake b s) = reel s := rfl
@[simp] theorem reel_selectNext : reel (selectNext s) = reel s := rfl
@[simp] theorem reel_fillSlot (d : Option Data) : reel (fillSlot i d s) = reel s := rfl
@[simp] theorem reel_claim (x : Holder) : reel (claim x n s).1 = reel s := rfl

@[simp] theorem reel_mapSched {f : Sched → Sched} (h : ∀ c, (f c).pass = c.pass) : reel (s.mapSched b f) = reel s := by
  refine reel_eq_iff.mpr ⟨rfl, rfl, fun c => ?_⟩
  rw [schedOf_mapSched]
  split
  · rename_i e
    rw [h, e]
  · rfl

@[simp] theorem reel_trigger : reel (trigger b s) = reel s := reel_mapSched fun _ => rfl

@[simp] theorem reel_triggerBoth : reel (triggerBoth s) = reel s := by simp [triggerBoth]

/-- The port changes but for its ready line. -/
theorem reel_mapPort {f : Port → Port} (h : (f s.port).ready = s.port.ready) : reel (s.mapPort f) = reel s :=
  reel_eq_iff.mpr ⟨rfl, h, fun _ => rfl⟩

@[simp] theorem reel_setTimer : reel (setTimer b s) = reel s := by
  unfold setTimer
  split <;> rfl

theorem reel_foldl {α : Type} {f : State → α → State} (h : ∀ t x, reel (f t x) = reel t) (l : List α) (s : State) :
    reel (l.foldl f s) = reel s :=
  foldl_keeps (P := fun t => reel t = reel s) (fun t x ht => (h t x).trans ht) l s rfl

/-! ### Slots and flags -/

@[simp] theorem reel_signalRelease (before : State) : reel (signalRelease before s) = reel s := by
  unfold signalRelease
  split
  · exact reel_triggerBoth
  · rfl

@[simp] theorem reel_dropAll (x : Holder) : reel (dropAll x s) = reel s := reel_signalRelease s

@[simp] theorem reel_dropOne (x : Holder) : reel (dropOne x i s) = reel s := reel_signalRelease s

@[simp] theorem reel_flagRecord (f : Flags → Flags) : reel (flagRecord q f s) = reel s := by
  unfold flagRecord
  split
  · rfl
  · split
    · exact reel_foldl (fun _ _ => reel_mapRec _) _ _
    · rfl

@[simp] theorem reel_degradeWriteOf : reel (degradeWriteOf r s) = reel s := by
  unfold degradeWriteOf
  split
  · exact reel_foldl (fun _ _ => reel_mapRec _) _ _
  · rfl

/-! ### Ending -/

@[simp] theorem reel_signalHoldEnds (before : State) : reel (signalHoldEnds before s) = reel s :=
  reel_foldl (fun _ _ => by split <;> simp) _ _

@[simp] theorem reel_checkMode : reel (checkMode b s) = reel s := by
  unfold checkMode
  dsimp only
  split <;> simp

@[simp] theorem reel_leaveScheduler : reel (leaveScheduler r s) = reel s := by
  unfold leaveScheduler
  dsimp only
  split
  · simp
  · split <;> simp

@[simp] theorem reel_dropUnqueued : reel (dropUnqueued r s i) = reel s := by
  unfold dropUnqueued
  split <;> simp

@[simp] theorem reel_giveUp : reel (giveUp r s) = reel s := by
  unfold giveUp
  split
  · split
    · exact reel_foldl (fun _ _ => reel_dropUnqueued) _ _
    · rfl
  · exact reel_dropAll _

@[simp] theorem reel_endEffect : reel (endEffect r s) = reel s := by
  unfold endEffect
  split
  · rfl
  · split <;> rfl

@[simp] theorem reel_enterEndingAlone : reel (enterEndingAlone q s) = reel s := by
  unfold enterEndingAlone
  split
  · rfl
  · split <;> simp

@[simp] theorem reel_endByAlone (c : EndCause) : reel (endByAlone c q s) = reel s := by
  unfold endByAlone
  split
  · rfl
  · split
    · rfl
    · dsimp only
      split <;> split <;> simp

@[simp] theorem reel_cancelFallbacks : reel (cancelFallbacks q s) = reel s := reel_foldl (fun _ _ => reel_endByAlone _) _ _

@[simp] theorem reel_enterEnding : reel (enterEnding q s) = reel s := by
  unfold enterEnding
  split
  · rfl
  · split <;> simp

@[simp] theorem reel_endBy (c : EndCause) : reel (endBy c q s) = reel s := by
  unfold endBy
  split
  · rfl
  · split <;> simp

@[simp] theorem reel_abandonAll (p : Rec → Bool) : reel (abandonAll b p s) = reel s := reel_foldl (fun _ _ => reel_endBy _) _ _

/-! ### The mirror -/

@[simp] theorem reel_cancelWaitingCopies : reel (cancelWaitingCopies s) = reel s := reel_foldl (fun _ _ => by simp) _ _

@[simp] theorem reel_cancelSteps : reel (cancelSteps s) = reel s := reel_foldl (fun _ _ => reel_endByAlone _) _ _

@[simp] theorem reel_unbindMirror (report : Bool) : reel (unbindMirror report s) = reel s := by
  unfold unbindMirror
  split
  · rfl
  · dsimp only
    split <;> simp

@[simp] theorem reel_degrade (c : DegradeCause) : reel (degrade c s) = reel s := by
  unfold degrade
  split <;> simp

@[simp] theorem reel_stepOutcome : reel (stepOutcome r s) = reel s := by
  unfold stepOutcome
  split
  · split
    · rfl
    · split
      · exact reel_degrade _
      · split <;> rfl
  · rfl

/-! ### Creations -/

@[simp] theorem reel_createRec : reel (createRec r s) = reel s := by
  unfold createRec
  dsimp only
  split
  · rfl
  · split <;> simp

@[simp] theorem reel_createInternal : reel (createInternal r s) = reel s := by
  unfold createInternal
  dsimp only
  split <;> simp

@[simp] theorem reel_createFlush : reel (createFlush b s) = reel s := reel_createInternal

@[simp] theorem reel_askFlush : reel (askFlush b s) = reel s := by
  unfold askFlush
  split
  · rfl
  · exact reel_createFlush

@[simp] theorem reel_createStep : reel (createStep s) = reel s := by
  unfold createStep
  split <;> simp

@[simp] theorem reel_createCopy (a : Ask) (w : Nat) (ids : List Nat) : reel (createCopy a b w ids s) = reel s :=
  reel_createInternal

@[simp] theorem reel_deferredCreations : reel (deferredCreations s) = reel s :=
  deferredCreations_keeps (P := fun t => reel t = reel s) s (fun _ _ h => reel_createFlush.trans h)
    (fun _ h => reel_createStep.trans h) rfl

theorem reel_creationStep (e : creationStep s = some t) : reel t = reel s := by
  unfold creationStep at e
  split at e
  · cases e
    exact reel_askFlush
  · split at e
    · cases e
      exact reel_askFlush
    · split at e
      · cases e
        exact reel_createFlush
      · split at e
        · cases e
          exact reel_createFlush
        · split at e
          · cases e
            exact reel_createStep
          · exact nomatch e

/-! ### Relocations -/

@[simp] theorem reel_spareLowTest : reel (spareLowTest b s) = reel s := by
  unfold spareLowTest
  split
  · rfl
  · split <;> rfl

@[simp] theorem reel_noSpare : reel (noSpare q i s) = reel s := by
  unfold noSpare
  split
  · rfl
  · dsimp only
    split <;> simp

@[simp] theorem reel_assignSpare : reel (assignSpare q i s) = reel s := by
  unfold assignSpare
  split
  · rfl
  · split
    · rfl
    · split
      · rfl
      · split
        · simp
        · split <;> simp

@[simp] theorem reel_recordMove (x : Nat) : reel (recordMove q i x s) = reel s := by
  unfold recordMove
  split
  · rfl
  · split
    · simp
    · split <;> simp

@[simp] theorem reel_requestRelocate (v : Variety) (d : Data) (source : Nat) :
    reel (requestRelocate v b n d source s) = reel s := by
  unfold requestRelocate
  exact iteInduction (motive := fun u => reel u = reel s) (fun _ => rfl) fun _ => by simp

/-! ### Frames and outcomes -/

theorem reel_queueFrom (xs : List Sector) : reel (queueFrom r i xs s) = reel s := by
  induction xs generalizing i s with
  | nil => rfl
  | cons x xs ih =>
    have one : reel (queueOne r i x s) = reel s := by
      unfold queueOne
      dsimp only
      split <;> rfl
    unfold queueFrom
    split
    · rw [ih, one]
    · rfl

@[simp] theorem reel_queueFrames : reel (queueFrames q s) = reel s := by
  unfold queueFrames
  split
  · rfl
  · split
    · exact reel_queueFrom _
    · rfl

@[simp] theorem reel_fallbackOutcome : reel (fallbackOutcome r s) = reel s := by
  unfold fallbackOutcome
  split
  · rfl
  · dsimp only
    split
    · rfl
    · split
      · rfl
      · split
        · split <;> simp
        · simp

@[simp] theorem reel_leaveTable : reel (leaveTable q s) = reel s := by
  have removed : reel (removeRec q s) = reel s := rfl
  unfold leaveTable
  split
  · rfl
  · dsimp only
    split
    · simp [removed]
    · split
      · simp [removed]
      · split <;> simp [removed]

/-! ### Planning and stalls -/

@[simp] theorem reel_takeThrough (slot : Option Nat) (d : Data) : reel (takeThrough q i slot d s) = reel s := by
  unfold takeThrough
  cases slot <;> simp

@[simp] theorem reel_claimThrough (d : Data) : reel (claimThrough q i d s) = reel s := by simp [claimThrough]

@[simp] theorem reel_planRead : reel (planRead q n s).1 = reel s := by
  induction n generalizing s with
  | zero => rfl
  | succ n ih =>
    unfold planRead
    split
    · rfl
    · split
      · rfl
      · split
        · rfl
        · split
          · split
            · simp [ih]
            · split <;> simp [ih]
          · split <;> simp [ih]

@[simp] theorem reel_planRec : reel (planRec q s).1 = reel s := by
  unfold planRec
  split
  · rfl
  · split <;> simp

@[simp] theorem reel_stall : reel (stall b q s) = reel s := by simp [stall]

@[simp] theorem reel_finishRecord : reel (finishRecord q s) = reel s := by
  unfold finishRecord
  split
  · rfl
  · split
    · unfold toWritePhase
      split <;> simp
    · exact reel_enterEnding

/-! ### Pass start, but for the pass -/

@[simp] theorem reel_assignSlots (is js : List Nat) : reel (assignSlots q is js s) = reel s := by
  induction is generalizing js s with
  | nil => rfl
  | cons i is ih =>
    cases js with
    | nil => rfl
    | cons j js => exact ih js

@[simp] theorem reel_firstStart : reel (firstStart r s) = reel s := by
  unfold firstStart
  split
  · rfl
  · rfl
  · unfold takeFlushImage
    split <;> rfl
  · simp
  · rfl

@[simp] theorem reel_makeActive : reel (makeActive b q s) = reel s := by
  unfold makeActive
  dsimp only
  split
  · split <;> simp
  · split <;> simp

/-! ### The outcomes of a pass -/

theorem reel_noteTries (n : Nat) : reel (noteTries q n s) = reel s := by
  unfold noteTries
  split
  · exact reel_flagRecord _
  · rfl

theorem reel_mapSectorOf (f : Sector → Sector) : reel (mapSectorOf q i f s) = reel s := rfl

theorem reel_readGivesUp : reel (readGivesUp r i s) = reel s := by
  unfold readGivesUp
  split
  · exact reel_createInternal
  · rfl

theorem reel_readDelivers (d : Data) : reel (readDelivers r i n d s) = reel s := by
  unfold readDelivers
  cases readSlot s r i <;> dsimp only <;> split <;> simp [reel_mapSectorOf]

theorem reel_settleRead (found : Found) : reel (settleRead q i found s) = reel s := by
  unfold settleRead
  split
  · rfl
  · dsimp only
    split
    · simp [reel_readDelivers, reel_noteTries]
    · simp [reel_mapSectorOf, reel_noteTries]
    · exact iteInduction (motive := fun u => reel u = reel s) (fun _ => reel_readGivesUp.trans (reel_noteTries _))
        fun _ => reel_noteTries _

theorem reel_verifyGivesUp (c : Cause) : reel (verifyGivesUp r i c s) = reel s := by
  unfold verifyGivesUp
  split
  · rfl
  · split
    · rfl
    · exact reel_assignSpare

theorem reel_settleVerify (found : Found) (d : Data) : reel (settleVerify q i found d s) = reel s := by
  unfold settleVerify
  split
  · rfl
  · dsimp only
    split
    · simp [reel_mapSectorOf, reel_noteTries]
    · simp [reel_verifyGivesUp, reel_noteTries]
    · simp [reel_verifyGivesUp, reel_noteTries]
    · exact iteInduction (motive := fun u => reel u = reel s) (fun _ => (reel_verifyGivesUp _).trans (reel_noteTries _))
        fun _ => reel_noteTries _

theorem reel_settleTryVerify (found : Found) (d : Data) : reel (settleTryVerify q i found d s) = reel s := by
  unfold settleTryVerify
  split
  · rfl
  · split
    · rfl
    · dsimp only
      split
      · simp [reel_noteTries]
      · simp [reel_noteTries]
      · simp [reel_noteTries]
      · split <;> simp [reel_noteTries]

theorem reel_settleSector (p : Pass) (rs : List SectorResponse) (m : Medium) (j : Nat) :
    reel (settleSector q p rs m j i s) = reel s := by
  have advanced : ∀ pr, reel (advance q i p.relocation pr s) = reel s := fun pr => by
    unfold advance
    split <;> rfl
  unfold settleSector
  split
  · exact advanced _
  · exact advanced _
  · exact reel_settleRead _
  · split
    · exact reel_settleTryVerify _ _
    · exact reel_settleVerify _ _

theorem reel_settleSectors (p : Pass) (rs : List SectorResponse) (m : Medium) (is : List Nat) (j : Nat) :
    reel (settleSectors q p rs m j is s) = reel s := by
  induction is generalizing j s with
  | nil => rfl
  | cons i is ih => exact (ih (j + 1)).trans (reel_settleSector p rs m j)

theorem reel_ownerEnds : reel (ownerEnds q s) = reel s := by
  unfold ownerEnds
  split
  · rfl
  · split
    · simp
    · split <;> simp

theorem reel_setInhibit : reel (setInhibit b s) = reel s := by
  have cancelled : ∀ (l : List Nat) (u : State), reel (l.foldl (fun v q => endByAlone .cancelled q v) u) = reel u :=
    reel_foldl fun _ _ => reel_endByAlone _
  unfold setInhibit
  dsimp only
  split <;> simp [cancelled]

theorem reel_labelRoundEnd : reel (labelRoundEnd q s) = reel s := by
  have succeeds : ∀ r, reel (labelSucceeds r s) = reel s := fun r => by
    unfold labelSucceeds
    split <;> rfl
  have fails : ∀ base r, reel (labelFails base r s) = reel s := fun base r => by
    unfold labelFails
    dsimp only
    split
    · rfl
    · simp [reel_setInhibit]
    · simp [reel_setInhibit]
  unfold labelRoundEnd
  split
  · rfl
  · dsimp only
    split
    · rfl
    · split
      · exact succeeds _
      · split
        · rfl
        · exact fails _ _

theorem reel_releasePass : reel (releasePass b s) = reel s := reel_signalRelease s

/-! ### The mechanisms and the requests -/

theorem reel_beginStop : reel (beginStop b s) = reel s := rfl

theorem reel_acceptSetup (f : SetupFields) : reel (acceptSetup f s) = reel s := by
  have mode : ∀ b x u, reel (setMode b x u) = reel u := fun b x u => by
    unfold setMode
    dsimp only
    split <;> simp
  have timer : ∀ b o u, reel (retime b o u) = reel u := fun b o u => by
    unfold retime
    split <;> rfl
  have cap : ∀ o u, reel (capTriggers o u) = reel u := fun o u => by
    unfold capTriggers
    split <;> simp
  have margin : ∀ o u, reel (marginTriggers o u) = reel u := fun o u => by
    unfold marginTriggers
    split
    · split <;> simp
    · rfl
  simp [acceptSetup, mode, timer, cap, margin]

theorem reel_acceptSector (d : Data) : reel (acceptSector r i d s) = reel s := by
  have copies : ∀ u, reel (triggerCopies r u) = reel u := fun u =>
    reel_foldl (f := fun t (o : Rec) => trigger o.bay t) (fun _ _ => reel_trigger) _ _
  unfold acceptSector
  cases r.sectors[i]?.bind Sector.slot <;> simp [copies]

theorem reel_cancelRec : reel (cancelRec r s) = reel s := by
  unfold cancelRec
  split
  · rfl
  · split
    · unfold cancelEject
      split <;> simp
    · split
      · rfl
      · split
        · exact (reel_foldl (fun _ _ => reel_endBy _) _ _).trans (reel_endBy _)
        · exact reel_endBy _

theorem reel_acceptWrite (a : Ask) : reel (acceptWrite a b s) = reel s := by
  unfold acceptWrite
  dsimp only
  split <;> simp

theorem reel_frameSent (f : Outbound) : reel (frameSent f s) = reel s := by
  unfold frameSent
  dsimp only
  split
  · rfl
  · split
    · unfold giveUpSent
      split <;> simp
    · rfl

end Sys2Proof.Machine
end

section
/-! The three laws of the stream together: what a change of a state keeps of them (R130, R138), and the stream's own
operations. -/

namespace Sys2Proof.Machine

variable {z s v : State} {t u : Stream} {x : Band} {xs : List Band} {n : Nat} {b : Bay}

/-- The laws of the ready line, of the list and of the ring, where they held of the one state, hold of the other. -/
structure Abides (z s : State) : Prop where
  ready : readyLaw z → readyLaw s
  bands : bandLaw z → bandLaw s
  ring : ringLaw z → ringLaw s

theorem Abides.refl (s : State) : Abides s s := ⟨id, id, id⟩

theorem Abides.trans (h : Abides z s) (h' : Abides s v) : Abides z v :=
  ⟨h'.ready ∘ h.ready, h'.bands ∘ h.bands, h'.ring ∘ h.ring⟩

/-- Stream and ready line stay, and no feed pass is new. -/
theorem Abides.of_calm (h : Abides z s) (stream : v.stream = s.stream) (ready : v.port.ready = s.port.ready)
    (passes : ∀ b p n, (v.schedOf b).pass = some p → p.owner = .feed n → (s.schedOf b).pass = some p) : Abides z v where
  ready k := by
    have running : isRunning v = isRunning s := by simp only [isRunning, stream]
    rw [readyLaw, ready, running]
    exact h.ready k
  bands k := by
    rw [bandLaw, stream]
    exact h.bands k
  ring k := by
    obtain ⟨ring, feed⟩ := h.ring k
    refine ⟨by rwa [stream], fun b p n hp ho => ?_⟩
    rw [stream]
    exact feed b p n (passes b p n hp ho) ho

theorem Abides.of_reel (h : Abides z s) (e : reel v = reel s) : Abides z v := by
  obtain ⟨stream, ready, pass⟩ := reel_eq_iff.mp e
  exact h.of_calm stream ready fun b p n hp _ => pass b ▸ hp

theorem Abides.withStream (h : Abides z s) (ht : s.stream = some t) (k : StreamKept (ringLaw z) t u) :
    Abides z (s.withStream (some u)) where
  ready hz := by
    have same : isRunning (s.withStream (some u)) = isRunning s := by simp [isRunning, ht, k.phase]
    rw [readyLaw, same]
    exact h.ready hz
  bands hz v hv := by
    cases hv
    exact k.list (h.bands hz t ht)
  ring hz := by
    obtain ⟨ring, feed⟩ := h.ring hz
    refine ⟨fun v hv => ?_, fun b p n hp ho => ?_⟩
    · cases hv
      exact k.ring hz (ring t ht)
    · obtain ⟨t', ht', bay, old, brings⟩ := feed b p n hp ho
      obtain rfl : t' = t := Option.some.inj (ht'.symm.trans ht)
      refine ⟨u, rfl, k.bay.trans bay, Nat.lt_of_lt_of_le old k.appended, fun y hy serial sound => ?_⟩
      obtain ⟨x, hx, same, length, sound⟩ := k.bands y hy (serial ▸ old) sound
      rw [k.reserved, bandBytes_of_length length.symm]
      exact brings x hx (same.trans serial) sound

theorem Abides.mapStream (h : Abides z s) {f : Stream → Stream}
    (k : ∀ t, s.stream = some t → StreamKept (ringLaw z) t (f t)) : Abides z (s.mapStream f) := by
  cases ht : s.stream with
  | none =>
    refine h.of_reel (reel_eq_iff.mpr ⟨?_, rfl, fun _ => rfl⟩)
    simp [State.mapStream, ht]
  | some t =>
    rw [State.mapStream, ht]
    exact h.withStream ht (k t ht)

/-! ### The stream's state and its tests -/

/-- Of the laws only that of the ready line reads the stream's state, and the line follows it (R138). -/
theorem Abides.setPhase (h : Abides z s) (ph : StreamPhase) : Abides z (setPhase ph s) := by
  cases ht : s.stream with
  | none =>
    unfold Machine.setPhase
    simpa only [ht] using h
  | some t =>
    have changed : Abides z ((s.withStream (some { t with phase := ph })).mapPort fun p =>
        { p with ready := decide (ph = .running) }) := by
      refine ⟨fun _ => rfl, fun hz v hv => ?_, fun hz => ⟨fun v hv => ?_, fun b p n hp ho => ?_⟩⟩
      · cases hv
        exact h.bands hz t ht
      · cases hv
        exact (h.ring hz).1 t ht
      · obtain ⟨t', ht', bay, brings⟩ := (h.ring hz).2 b p n hp ho
        obtain rfl : t' = t := Option.some.inj (ht'.symm.trans ht)
        exact ⟨_, rfl, bay, brings⟩
    unfold Machine.setPhase
    simp only [ht]
    exact changed.of_reel reel_trigger

theorem Abides.primingTest (h : Abides z s) : Abides z (primingTest s) := by
  unfold Machine.primingTest
  split
  · exact h
  · split
    · exact h.setPhase .running
    · exact h

theorem Abides.armingTest (h : Abides z s) : Abides z (armingTest s) :=
  h.mapStream fun t _ => by
    split
    · exact .aside t t.marks true
    · exact .refl t

theorem Abides.lowTest (h : Abides z s) : Abides z (lowTest s) := by
  unfold Machine.lowTest
  split
  · exact h
  · rename_i t ht
    split
    · exact (h.withStream ht (.aside t t.marks false)).of_reel (reel_raise _)
    · exact h

theorem Abides.haltByEject (h : Abides z s) (b : Bay) : Abides z (haltByEject b s) := by
  unfold Machine.haltByEject
  split
  · exact h
  · split
    · exact (h.setPhase (.halted .eject)).of_reel (reel_raise _)
    · exact h

theorem Abides.release (h : Abides z s) (b : Bay) : Abides z (release b s) := by
  refine Abides.of_reel ?_ (reel_foldl (fun _ _ => reel_enterEnding) _ _)
  refine Abides.of_reel (s := State.mapStream _ _) ?_ (reel_raise _)
  refine Abides.mapStream (h.of_reel ?placed) fun t _ => ?_
  case placed => exact reel_mapSched fun _ => rfl
  split
  · exact .emptied t t.lowArmed
  · exact .refl t

/-! ### The feed -/

theorem feedBand_mem (h : feedBand t = some x) : x ∈ t.bands := List.mem_of_find?_eq_some h

theorem feedBytes_length (x : Band) (k : Nat) (found : Found) : (feedBytes x k found).length ≤ bandBytes x k := by
  unfold feedBytes
  split
  · exact List.length_take_le _ _
  · exact Nat.le_of_eq List.length_replicate

/-- Read-through takes a sector only where there is room for it (R133, R134). -/
theorem Abides.feedThrough (h : Abides z s) (n : Nat) : Abides z (feedThrough n s) := by
  induction n generalizing s with
  | zero => exact h
  | succ n ih =>
    unfold Machine.feedThrough
    split
    · rename_i eligible
      split
      · exact h
      · rename_i t ht
        split
        · exact h
        · rename_i x hx
          split
          · rename_i d hd
            obtain ⟨_, y, hy, _, fits, _⟩ := (feedEligible_iff ht).mp eligible
            obtain rfl : y = x := Option.some.inj (hy.symm.trans hx)
            refine ih (Abides.armingTest (Abides.primingTest (h.mapStream fun t' ht' => ?_)))
            obtain rfl : t = t' := Option.some.inj (ht.symm.trans ht')
            refine .enterSector (List.mem_map_of_mem (feedBand_mem hx)) (fun _ hk => ?_) false
            have room := hk.room fits
            have taken : (d.take (bandBytes y y.fetched)).length ≤ bandBytes y y.fetched := List.length_take_le _ _
            omega
          · exact h
    · exact h

theorem feedRun_room (s : State) (t : Stream) (x : Band) (track fuel k position room : Nat) :
    ((feedRun s t x track fuel k position room).map (bandBytes x)).sum ≤ room := by
  induction fuel generalizing k position room with
  | zero => exact Nat.zero_le _
  | succ fuel ih =>
    unfold feedRun
    dsimp only
    split
    · rename_i fit
      obtain ⟨_, _, _, fits, _⟩ := fit
      have rest := ih (k + 1) (position + 1) (room - bandBytes x k)
      simp only [List.map_cons, List.sum_cons]
      omega
    · exact Nat.zero_le _

/-- In a ring within its law the serial tells the band (R131). -/
theorem ringKept.eq_of_serial (h : ringKept t) {y : Band} (hx : x ∈ t.bands) (hy : y ∈ t.bands) (e : y.serial = x.serial) :
    y = x := by
  obtain ⟨-, -, -, ordered, -⟩ := h
  exact eq_of_key ((List.pairwise_map.mp ordered).imp Nat.ne_of_lt) hy hx e

/-- A feed pass reserves what it brings (R134). -/
theorem Abides.startFeed (h : Abides z s) : Abides z (startFeed s) := by
  unfold Machine.startFeed
  split
  · exact h
  · rename_i t ht
    split
    · exact h
    · rename_i x hx
      dsimp only
      generalize hrun : feedRun s t x (translate s t.bay (x.first + x.fetched)).track 17 x.fetched
        (translate s t.bay (x.first + x.fetched)).sector (freeSpace t) = items
      have fits : (items.map (bandBytes x)).sum ≤ freeSpace t := hrun ▸ feedRun_room s t x _ _ _ _ _
      refine ⟨fun hz => ?_, fun hz v hv => ?_, fun hz => ⟨fun v hv => ?_, fun c p n hp ho => ?_⟩⟩
      · have ready := h.ready hz
        simp only [readyLaw, isRunning, ht] at ready ⊢
        exact ready
      · cases hv
        exact h.bands hz t ht
      · cases hv
        have kept := (h.ring hz).1 t ht
        have room := kept.room fits
        obtain ⟨distinct, stands, -, ordered, before⟩ := kept
        refine ⟨distinct, stands, ?_, ordered, before⟩
        change segmentBytes t + (items.map (bandBytes x)).sum ≤ t.ring * 1024
        omega
      · obtain ⟨ring, feed⟩ := h.ring hz
        have kept := ring t ht
        refine ⟨_, rfl, ?_⟩
        rw [schedOf_mapSched] at hp
        split at hp
        · rename_i e
          cases hp
          cases ho
          refine ⟨e.symm, kept.before (feedBand_mem hx), fun y hy serial _ => ?_⟩
          rw [kept.eq_of_serial (feedBand_mem hx) hy serial]
        · rename_i other
          obtain ⟨t', ht', bay, -⟩ := feed c p n hp ho
          obtain rfl : t' = t := Option.some.inj (ht'.symm.trans ht)
          exact absurd bay.symm other

/-! ### The completion of a feed pass -/

theorem foundFrom_items (s : State) (p : Pass) (rs : List SectorResponse) (m : Medium) (j : Nat) (items : List Nat) :
    (foundFrom s p rs m j items).map Prod.fst = items := by
  induction items generalizing j with
  | nil => rfl
  | cons k ks ih => exact congrArg (k :: ·) (ih (j + 1))

/-- The sectors of a completed pass enter the ring where there is room for all of them (R135). -/
theorem Abides.enterFeed (h : Abides z s) (ht : s.stream = some t) (found : List (Nat × Found))
    (hx : x.number ∈ t.bands.map Band.number)
    (room : ringLaw z → segmentBytes t + ((found.map Prod.fst).map (bandBytes x)).sum + t.reserved ≤ t.ring * 1024) :
    Abides z (enterFeed x b found s) := by
  induction found generalizing s t with
  | nil => exact h
  | cons p found ih =>
    obtain ⟨k, f⟩ := p
    have bytes := feedBytes_length x k f
    simp only [List.map_cons, List.sum_cons] at room
    have entered : Abides z (s.mapStream (enterSector x.number (feedBytes x k f) (feedDamaged f))) :=
      h.mapStream fun t' ht' => by
        obtain rfl : t = t' := Option.some.inj (ht.symm.trans ht')
        refine .enterSector hx (fun hz _ => ?_) _
        have all := room hz
        omega
    have stream : (s.mapStream (enterSector x.number (feedBytes x k f) (feedDamaged f))).stream =
        some (enterSector x.number (feedBytes x k f) (feedDamaged f) t) := by simp [State.mapStream, ht]
    have numbers : (enterSector x.number (feedBytes x k f) (feedDamaged f) t).bands.map Band.number =
        t.bands.map Band.number := by
      rw [enterSector_bands, List.map_map]
      refine List.map_congr_left fun y _ => ?_
      dsimp only [Function.comp]
      split <;> rfl
    have total : segmentBytes (enterSector x.number (feedBytes x k f) (feedDamaged f) t) =
        segmentBytes t + (feedBytes x k f).length := appendBytes_total _ _ _
    unfold Machine.enterFeed
    dsimp only
    split
    · refine ih (entered.of_reel ((reel_raise _).trans (reel_mapTally _))) stream (numbers ▸ hx) fun hz => ?_
      have all := room hz
      rw [total]
      change _ + t.reserved ≤ t.ring * 1024
      omega
    · refine ih entered stream (numbers ▸ hx) fun hz => ?_
      have all := room hz
      rw [total]
      change _ + t.reserved ≤ t.ring * 1024
      omega

/-- A pass that is done is off its scheduler (R78). -/
theorem Abides.passDone (h : Abides z s) (b : Bay) (p : Pass) (rs : List SectorResponse) : Abides z (passDone b p rs s) :=
  h.of_calm rfl rfl fun c q n hq _ => by
    change ((s.mapSched b _).schedOf c).pass = some q at hq
    rw [schedOf_mapSched] at hq
    split at hq
    · exact nomatch hq
    · exact hq

/-- The pass that is done was the feed's only one, so nothing stays reserved (R134, R135). -/
theorem Abides.unreserved {p : Pass} (hp : (s.schedOf b).pass = some p) (ho : p.owner = .feed n) (rs : List SectorResponse)
    (ht : s.stream = some t) : Abides s ((Machine.passDone b p rs s).withStream (some { t with reserved := 0 })) := by
  refine ⟨fun hz => ?_, fun hz v hv => ?_, fun hz => ⟨fun v hv => ?_, fun c q m hq hm => ?_⟩⟩
  · simp only [readyLaw, isRunning, ht] at hz ⊢
    exact hz
  · cases hv
    exact hz t ht
  · cases hv
    exact (hz.1 t ht).of_numbers rfl rfl (Nat.zero_le _) rfl rfl rfl
  · obtain ⟨t', ht', bay, -⟩ := hz.2 b p n hp ho
    change ((s.mapSched b _).schedOf c).pass = some q at hq
    rw [schedOf_mapSched] at hq
    split at hq
    · exact nomatch hq
    · rename_i other
      obtain ⟨t'', ht'', bay', -⟩ := hz.2 c q m hq hm
      obtain rfl : t' = t'' := Option.some.inj (ht'.symm.trans ht'')
      exact absurd (bay'.symm.trans bay) other

theorem completeFeed_abides {p : Pass} (hp : (s.schedOf b).pass = some p) (ho : p.owner = .feed n) (rs : List SectorResponse)
    (found : List (Nat × Found)) (items : found.map Prod.fst = p.items) :
    Abides s (completeFeed n found (Machine.passDone b p rs s)) := by
  unfold completeFeed
  split
  · exact (Abides.refl s).passDone b p rs
  · rename_i t ht
    have unreserved := Abides.unreserved hp ho rs ht
    dsimp only
    split
    · exact unreserved
    · rename_i x hx
      have listed : x ∈ t.bands := List.mem_of_find?_eq_some hx
      have target : decide (x.serial = n) && !isSpoiled x = true := by simpa using List.find?_some hx
      obtain ⟨serial, sound⟩ := Bool.and_eq_true_iff.mp target
      refine Abides.armingTest (Abides.primingTest (unreserved.enterFeed rfl found (List.mem_map_of_mem listed) fun hz => ?_))
      obtain ⟨t', ht', _, _, brings⟩ := hz.2 b p n hp ho
      obtain rfl : t' = t := Option.some.inj (ht'.symm.trans ht)
      have bytes := brings x listed (of_decide_eq_true serial) (by simpa using sound)
      have room := (hz.1 t' ht).total
      rw [items]
      change segmentBytes t' + _ + 0 ≤ t'.ring * 1024
      omega

theorem completePass_abides (b : Bay) (rs : List SectorResponse) : Abides s (completePass b rs s) := by
  cases hp : (s.schedOf b).pass with
  | none =>
    unfold completePass
    simp only [hp]
    exact .refl s
  | some p =>
    have done := (Abides.refl s).passDone b p rs
    rw [completePass_of_pass rs hp]
    refine Abides.of_reel ?_ reel_trigger
    unfold handOutcomes
    split
    · exact done.of_reel (by simp only [reel_ownerEnds, reel_labelRoundEnd, reel_queueFrames, reel_settleSectors])
    · rename_i n ho
      exact completeFeed_abides hp ho rs _ (foundFrom_items _ _ _ _ _ _)
    · exact done.of_reel reel_releasePass

end Sys2Proof.Machine
end

section
/-! The laws of the stream through the decisions and all that follows at once. -/

namespace Sys2Proof.Machine

variable {z s v : State} {b : Bay} {q : Nat}

/-! ### Pass start -/

/-- A record's pass is no feed pass. -/
theorem Abides.startPass (h : Abides z s) (b : Bay) (q : Nat) (p : Plan) (n : Nat) : Abides z (startPass b q p n s) := by
  unfold Machine.startPass
  split
  · exact h
  · rename_i r _
    have begun : ∀ u, reel u = reel s → Abides z (makeActive b q u) := fun u e => h.of_reel (reel_makeActive.trans e)
    have first : reel (if r.started then s else firstStart r s) = reel s := by split <;> simp
    dsimp only
    refine Abides.of_calm (begun _ ?claimed) rfl rfl fun c p n hp ho => ?_
    case claimed =>
      split
      · rw [reel_assignSlots, reel_claim, first]
      · exact first
    rw [schedOf_mapSched] at hp
    split at hp
    · cases hp
      exact nomatch ho
    · exact hp

/-! ### The decision -/

theorem Abides.tryPlanned (h : Abides z s) (b : Bay) (q : Nat) (p : Plan) (refused : Bool) :
    Abides z (tryPlanned b q p refused s).state := by
  unfold Machine.tryPlanned
  split
  · exact h.startPass b q p _
  · exact h

theorem Abides.planned {p : Planned} (h : Abides z s) (hu : planRec q s = (v, p)) : Abides z v := by
  refine h.of_reel ?_
  rw [← reel_planRec (q := q) (s := s), hu]

theorem Abides.tryWaiting (h : Abides z s) (b : Bay) (qs : List Nat) (refused : Bool) :
    Abides z (tryWaiting b qs refused s).state := by
  induction qs generalizing refused s with
  | nil => exact h
  | cons q qs ih =>
    unfold Machine.tryWaiting
    split <;> rename_i hu
    · exact ih ((h.planned hu).of_reel (v := markStalled q _) rfl) _
    · exact ih ((h.planned hu).of_reel reel_finishRecord) _
    · have tried := fun p => (h.planned hu).tryPlanned b q p refused
      dsimp only
      split
      · exact tried _
      · exact ih (tried _) _

theorem Abides.tryStack (h : Abides z s) (b : Bay) (n : Nat) (refused : Bool) : Abides z (tryStack b n refused s).state := by
  induction n generalizing refused s with
  | zero => exact h
  | succ n ih =>
    unfold Machine.tryStack
    split
    · exact h.tryWaiting b _ _
    · rename_i q _ _
      have waited := h.tryWaiting b (candidates s b (levelOf s (some q))) refused
      dsimp only
      split
      · exact waited
      · split <;> rename_i hu
        · exact (waited.planned hu).tryPlanned b q _ _
        · exact ih ((waited.planned hu).of_reel reel_stall) _
        · exact ih ((waited.planned hu).of_reel reel_finishRecord) _

theorem Abides.tryIdle (h : Abides z s) (b : Bay) (refused : Bool) : Abides z (tryIdle b refused s).state := h.tryStack b _ _

theorem Abides.tryActive (h : Abides z s) (b : Bay) (q : Nat) (refused : Bool) : Abides z (tryActive b q refused s).state := by
  unfold Machine.tryActive
  split <;> rename_i hu
  · exact (h.planned hu).tryPlanned b q _ _
  · exact ((h.planned hu).of_reel reel_stall).tryIdle b _
  · exact ((h.planned hu).of_reel reel_finishRecord).tryIdle b _

theorem Abides.tryRecords (h : Abides z s) (b : Bay) : Abides z (tryRecords b s).state := by
  unfold Machine.tryRecords
  split
  · exact h.tryIdle b _
  · rename_i q _
    split <;> rename_i u _ hu
    · exact ((h.planned hu).of_reel reel_stall).tryIdle b _
    · exact ((h.planned hu).of_reel reel_finishRecord).tryIdle b _
    · have planned := h.planned hu
      split
      · have waited := planned.tryWaiting b (candidates u b (levelOf u (some q))) false
        dsimp only
        split
        · exact waited
        · exact waited.tryActive b q _
      · exact planned.tryActive b q _

theorem reel_answerTrigger : reel (answerTrigger b s) = reel s := reel_mapSched fun _ => rfl

theorem Abides.considered (h : Abides z s) (b : Bay) : Abides z (considered b s) := by
  have cleared : Abides z (clearStalled b (answerTrigger b s)) := (h.of_reel reel_answerTrigger).of_reel rfl
  unfold Machine.considered feedFirst
  split
  · split
    · exact cleared.feedThrough _
    · exact cleared
  · exact cleared

theorem Abides.makeDecision (h : Abides z s) (b : Bay) : Abides z (makeDecision b s) := by
  unfold Machine.makeDecision
  split
  · exact h.of_reel reel_answerTrigger
  · split
    · exact (h.of_reel reel_answerTrigger).of_reel (reel_mapSched fun _ => rfl)
    · have looked := h.considered b
      dsimp only
      split
      · exact looked.startFeed
      · have tried := looked.tryRecords b
        unfold recordOutcome
        split
        · exact tried
        · exact tried.of_reel (reel_mapSched fun _ => rfl)

/-! ### All that follows at once -/

theorem Abides.ejectStep (h : Abides z s) (e : ejectStep b s = some v) : Abides z v := by
  unfold Machine.ejectStep at e
  split at e
  · split at e
    · cases e
      exact h.of_reel reel_beginStop
    · cases e
      exact h.release b
    · exact nomatch e
  · exact nomatch e

theorem Abides.nextStep (h : Abides z s) (e : nextStep s = some v) : Abides z v := by
  rcases nextStep_cases e with e | e | ⟨b, e⟩ | e
  · exact h.of_reel (reel_creationStep e)
  · obtain ⟨q, rfl | rfl⟩ := leaveStep_cases e
    · exact h.of_reel reel_leaveTable
    · exact h.of_reel (reel_leaveTable (s := s.choose))
  · exact h.ejectStep e
  · obtain ⟨b, rfl | rfl⟩ := decisionStep_cases e
    · exact h.makeDecision b
    · exact (h.of_reel (v := s.choose) rfl).makeDecision b

theorem Abides.conclude (h : Abides z s) : Abides z (conclude s) :=
  conclude_keeps (P := Abides z) (fun _ _ e hu => hu.nextStep e) (fun _ _ hu => hu.of_reel reel_setTimer)
    (fun _ hu => hu.of_reel reel_selectNext) s h

/-- What a change that leaves stream, ready line and passes alone is followed by. -/
theorem Abides.concluded (h : Abides z s) (e : reel v = reel s) : Abides z (Machine.conclude v) := (h.of_reel e).conclude

end Sys2Proof.Machine
end

section
/-! The laws of the stream through the commands. -/

namespace Sys2Proof.Machine

variable {z s v : State} {t : Stream} {x : Band} {b : Bay}

/-- A state without a stream, or with one as it is opened: no line high, nothing in list and ring, no feed pass. -/
theorem Abides.of_idle (ready : readyLaw z → v.port.ready = false) (still : isRunning v = false)
    (empty : ∀ t, v.stream = some t → t.bands = [] ∧ t.segments = [] ∧ t.reserved = 0)
    (passes : ringLaw z → ∀ b p n, (v.schedOf b).pass = some p → p.owner ≠ .feed n) : Abides z v where
  ready hz := (ready hz).trans still.symm
  bands _ t ht := by
    obtain ⟨bands, -⟩ := empty t ht
    rw [bands]
    exact ⟨Nat.zero_le _, fun _ h => nomatch h⟩
  ring hz := by
    refine ⟨fun t ht => ?_, fun b p n hp ho => absurd ho (passes hz b p n hp)⟩
    obtain ⟨bands, segments, reserved⟩ := empty t ht
    rw [ringKept_iff, segmentBytes, bands, segments, reserved]
    exact ⟨.nil, (fun _ h => nomatch h), Nat.zero_le _, .nil, fun _ h => nomatch h⟩

/-! ### The resets -/

theorem keepPass_not_feed (s : State) (p : Pass) (n : Nat) : (keepPass s p).owner ≠ .feed n := by
  unfold keepPass
  split
  · rename_i q ho
    split
    · split
      · rw [ho]
        exact nofun
      · exact nofun
    · exact nofun
  · exact nofun

theorem controllerReset_abides : Abides z (controllerReset s) :=
  .of_idle (fun _ => rfl) rfl (fun _ h => nomatch h) fun _ b p n hp => by
    have sched : (controllerReset s).schedOf b = resetSched s (s.schedOf b) := by cases b <;> rfl
    rw [sched] at hp
    obtain ⟨p', _, rfl⟩ := Option.map_eq_some_iff.mp hp
    exact keepPass_not_feed s p' n

theorem powerOn_abides (cut : Two Cut) : Abides z (powerOn cut s) :=
  .of_idle (fun _ => rfl) rfl (fun _ h => nomatch h) fun _ b p _ hp => absurd hp (reset_no_pass b p)

/-! ### Requests that create records -/

theorem Abides.takeAsk (h : Abides z s) {a : Ask} {accept : Bay → State → State} (ha : ∀ b, Abides z (accept b s)) :
    Abides z (takeAsk a accept s) := by
  cases hc : requestCode s a with
  | some c =>
    rw [takeAsk_refused hc]
    exact h.of_reel rfl
  | none =>
    obtain ⟨b, hb, -⟩ := requestCode_eq_none.mp hc
    rw [takeAsk_accepted hc hb]
    exact (ha b).conclude

theorem Abides.beginEject (h : Abides z s) (a : Ask) (kind : EjectKind) (b : Bay) : Abides z (beginEject a kind b s) := by
  have created : ∀ r, Abides z (createRec r s) := fun r => h.of_reel reel_createRec
  unfold Machine.beginEject
  dsimp only
  split
  · exact (created _).release b
  · exact (created _).of_reel rfl

theorem Abides.takePrepare (h : Abides z s) (ch tag : Nat) (bay : Option Bay) (serial : BitVec 32) (name : Data) :
    Abides z (takePrepare ch tag bay serial name s) := by
  unfold Machine.takePrepare
  split
  · exact h.takeAsk fun _ => h.of_reel reel_createRec
  · exact h.of_reel rfl

/-! ### The other requests -/

theorem Abides.takeSector (h : Abides z s) (ch tag index : Nat) (status : Option SectorStatus) (data : Data) :
    Abides z (takeSector ch tag index status data s) := by
  unfold Machine.takeSector
  split
  · split
    · exact h.concluded (reel_acceptSector data)
    · exact h.of_reel rfl
    · exact h
  · exact h.of_reel rfl

theorem Abides.takeCancel (h : Abides z s) (ch tag target : Nat) : Abides z (takeCancel ch tag target s) := by
  unfold Machine.takeCancel
  split
  · exact h.of_reel rfl
  · exact h.concluded (reel_cancelRec (s := doneNow ch tag 0 s))

theorem Abides.takeSetup (h : Abides z s) (ch tag : Nat) (f : SetupFields) : Abides z (takeSetup ch tag f s) := by
  unfold Machine.takeSetup
  split
  · exact h.of_reel rfl
  · split
    · exact h.of_reel rfl
    · exact (h.of_reel (reel_acceptSetup f)).concluded rfl

theorem Abides.takeReset (h : Abides z s) (ch tag : Nat) : Abides z (takeReset ch tag s) := by
  unfold Machine.takeReset
  split
  · exact (controllerReset_abides (s := s)).concluded rfl
  · exact h.of_reel rfl

theorem Abides.takeBind (h : Abides z s) (ch tag : Nat) (primary : Option Bay) : Abides z (takeBind ch tag primary s) := by
  unfold Machine.takeBind
  split
  · exact h.of_reel rfl
  · split
    · exact h.of_reel rfl
    · exact h.concluded rfl

/-! ### The stream's requests -/

/-- Where no stream is open, no feed pass is in flight (R130). -/
theorem no_feed_of_closed (h : ringLaw s) (ht : s.stream = none) (b : Bay) (p : Pass) (n : Nat)
    (hp : (s.schedOf b).pass = some p) : p.owner ≠ .feed n := fun ho => by
  obtain ⟨t, some, -⟩ := h.2 b p n hp ho
  exact nomatch ht.symm.trans some

/-- Every feed pass in flight is one of the stream's bay (R130). -/
theorem no_feed_of_landed (h : ringLaw s) (ht : s.stream = some t) (landed : feedInFlight s t.bay = false) (b : Bay) (p : Pass)
    (n : Nat) (hp : (s.schedOf b).pass = some p) : p.owner ≠ .feed n := fun ho => by
  obtain ⟨t', ht', bay, -⟩ := h.2 b p n hp ho
  obtain rfl : t = t' := Option.some.inj (ht.symm.trans ht')
  unfold feedInFlight at landed
  rw [bay, hp] at landed
  simp only [ho] at landed
  exact nomatch landed

theorem takeOpenStream_abides (ch tag : Nat) (bay : Option Bay) (ring line pace : Nat) (marks : Option Marks) :
    Abides s (takeOpenStream ch tag bay ring line pace marks s) := by
  unfold takeOpenStream
  split
  · rename_i b passed
    have closed : s.stream = none := by
      have checks := firstCode_eq_none.mp passed
      simpa using checks (s.stream.isSome, .streamState) (by simp)
    have opened : Abides s ((((claimRing ring s).withStream (some (newStream b ring line pace marks))).mapTally
        fun _ => Tally.reset).mapPort (openPort line)) := by
      refine .of_idle (fun _ => rfl) rfl (fun t ht => ?_) fun hz c p n hp => no_feed_of_closed hz closed c p n hp
      cases ht
      exact ⟨rfl, rfl, rfl⟩
    exact (opened.of_reel (reel_trigger.trans reel_wake)).concluded rfl
  · exact (Abides.refl s).of_reel rfl
  · exact .refl s

theorem Abides.takeSetMarks (h : Abides z s) (ch tag : Nat) (marks : Marks) : Abides z (takeSetMarks ch tag marks s) := by
  unfold Machine.takeSetMarks
  split
  · exact h.of_reel rfl
  · rename_i t ht
    have marked := h.withStream ht (.aside t (clampMarks t.ring marks) t.lowArmed)
    exact (marked.primingTest.armingTest.of_reel reel_trigger).concluded rfl

theorem Abides.takeAppendBand (h : Abides z s) (ch tag first length : Nat) :
    Abides z (takeAppendBand ch tag first length s) := by
  unfold Machine.takeAppendBand
  split
  · exact h.of_reel rfl
  · rename_i t ht
    split
    · exact h.of_reel rfl
    · rename_i passed
      have few : t.bands.length < 32 := by
        have checks := firstCode_eq_none.mp passed
        simpa using checks (decide (32 ≤ t.bands.length), .bandListFull) (by simp [bandChecks])
      exact (h.withStream ht (.appendBand few first length)).concluded rfl

theorem Abides.takeStartStream (h : Abides z s) (ch tag : Nat) : Abides z (takeStartStream ch tag s) := by
  unfold Machine.takeStartStream
  split
  · exact h.of_reel rfl
  · rename_i t ht
    split
    · exact h.of_reel rfl
    · have treated : Abides z (s.withStream (some (if isHalted t.phase then treatOldest t else t))) := by
        split
        · exact h.withStream ht (.treatOldest t)
        · exact h.withStream ht (.refl t)
      have primed := (treated.setPhase .priming).primingTest
      refine Abides.concluded ?_ (reel_reply ch tag _ _)
      unfold acceptStart
      dsimp only
      split
      · exact primed.armingTest
      · exact primed

theorem Abides.takeStopStream (h : Abides z s) (ch tag : Nat) : Abides z (takeStopStream ch tag s) := by
  unfold Machine.takeStopStream
  split
  · exact h.of_reel rfl
  · split
    · exact h.of_reel rfl
    · exact (h.setPhase (.halted .stop)).concluded rfl

theorem Abides.takeFlushStream (h : Abides z s) (ch tag : Nat) : Abides z (takeFlushStream ch tag s) := by
  unfold Machine.takeFlushStream
  split
  · exact h.of_reel rfl
  · rename_i t ht
    have emptied : Abides z (s.withStream (some (flushed t))) := h.withStream ht (.emptied t true)
    split
    · refine Abides.concluded ?_ (reel_reply ch tag _ _)
      unfold acceptFlush
      split
      · split
        · exact h
        · exact emptied
      · exact emptied.setPhase .opened
    · exact h.of_reel rfl

/-- A stream that closes is at rest, with no pass in flight (R145). -/
theorem takeCloseStream_abides (ch tag : Nat) : Abides s (takeCloseStream ch tag s) := by
  unfold takeCloseStream
  split
  · exact (Abides.refl s).of_reel rfl
  · rename_i t ht
    split
    · rename_i may
      obtain ⟨atRest, landed⟩ := Bool.and_eq_true_iff.mp may
      have still : isRunning s = false := by
        unfold isRunning
        rw [ht]
        rcases (isAtRest_iff _).mp atRest with e | ⟨c, e⟩ <;> simp [e]
      have closed : Abides s (s.withStream none) :=
        .of_idle (fun hz => Eq.trans hz still) rfl (fun _ h => nomatch h) fun hz c p n hp =>
          no_feed_of_landed hz ht (by simpa using landed) c p n hp
      refine Abides.concluded (closed.of_reel (v := acceptClose t s) ?_) (reel_reply ch tag _ _)
      exact reel_trigger.trans (reel_signalRelease (s.withStream none))
    · exact (Abides.refl s).of_reel rfl

/-- Every request that the Link Port hands on. -/
theorem handOn_abides (i : Instr) : Abides s (handOn i s) := by
  have h := Abides.refl s
  cases i with
  | reset ch tag => exact h.takeReset ch tag
  | read ch tag bay first count level => exact h.takeAsk fun _ => h.of_reel reel_createRec
  | write ch tag bay first count level => exact h.takeAsk fun _ => h.of_reel (reel_acceptWrite _)
  | sector ch tag index status data => exact h.takeSector ch tag index status data
  | cancel ch tag target => exact h.takeCancel ch tag target
  | queryBay ch tag bay =>
    unfold handOn takeQueryBay
    dsimp only
    split <;> exact h.of_reel rfl
  | queryOperation ch tag target =>
    unfold handOn takeQueryOperation
    dsimp only
    split <;> exact h.of_reel rfl
  | setup ch tag f => exact h.takeSetup ch tag f
  | prepare ch tag bay serial name => exact h.takePrepare ch tag bay serial name
  | ejectNormal ch tag bay level => exact h.takeAsk fun b => (h.of_reel (reel_unbindMirror true)).beginEject _ _ b
  | ejectForced ch tag bay level =>
    exact h.takeAsk fun b =>
      (((h.haltByEject b).of_reel (reel_unbindMirror true)).of_reel (reel_abandonAll _)).beginEject _ _ b
  | setZones ch tag bay level zones => exact h.takeAsk fun _ => h.of_reel reel_createRec
  | bind ch tag primary => exact h.takeBind ch tag primary
  | unbind ch tag => exact (h.of_reel (reel_unbindMirror false)).concluded rfl
  | openStream ch tag bay ring line pace marks => exact takeOpenStream_abides ch tag bay ring line pace marks
  | setMarks ch tag marks => exact h.takeSetMarks ch tag marks
  | appendBand ch tag first length => exact h.takeAppendBand ch tag first length
  | startStream ch tag => exact h.takeStartStream ch tag
  | stopStream ch tag => exact h.takeStopStream ch tag
  | flushStream ch tag => exact h.takeFlushStream ch tag
  | closeStream ch tag => exact takeCloseStream_abides ch tag
  | _ => exact h.of_reel rfl

end Sys2Proof.Machine
end

section
/-! The laws of the stream through the link, the mechanisms and the imagesetter (R138 to R143). -/

namespace Sys2Proof.Machine

variable {z s v : State} {t : Stream} {x : Band} {xs : List Band} {b : Bay}

/-! ### The link -/

theorem takeByte_abides (x : Byte) : Abides s (takeByte x s) := by
  have refused : ∀ ch tag c u, reel u = reel s → Abides s (selectNext (refuse ch tag c u)) := fun _ _ _ _ e =>
    (Abides.refl s).of_reel e
  have taken : ∀ bytes, Abides s (takeBytes bytes s) := fun bytes => by
    unfold takeBytes checkFrame
    dsimp only
    split
    · exact refused _ _ _ _ rfl
    · split
      · split
        · exact refused _ _ _ _ rfl
        · split
          · exact ((Abides.refl s).of_reel (v := setAssembly .idle s) rfl).trans (handOn_abides _)
          · exact refused _ _ _ _ rfl
      · exact (Abides.refl s).of_reel rfl
  unfold takeByte
  split
  · exact .refl s
  · exact taken _
  · exact taken _

/-! ### The mechanisms -/

theorem Abides.spinUpFails (h : Abides z s) (b : Bay) : Abides z (spinUpFails b s) := by
  unfold Machine.spinUpFails
  split
  · have faulted : Abides z (faultBay b s) := h.of_reel rfl
    exact (((faulted.haltByEject b).of_reel (reel_unbindMirror true)).of_reel (reel_abandonAll _)).of_reel (reel_raise _)
  · exact h.of_reel rfl

/-! ### The imagesetter -/

theorem reel_sendFill (c : FillCause) (n : Nat) : reel (sendFill c n s) = reel s :=
  reel_mapPort (by cases c <;> rfl)

theorem Abides.answerLine (h : Abides z s) (ht : s.stream = some t) : Abides z (answerLine t s) := by
  have filled : ∀ c n, Abides z (sendFill c n s) := fun c n => h.of_reel (reel_sendFill c n)
  unfold Machine.answerLine
  split
  · exact filled _ _
  · rename_i x xs hb
    split
    · exact filled _ _
    · split
      · have sent : Abides z (s.withStream (some (mapOldest (fun y => { y with sent := y.sent + 1 }) t))) := by
          rw [mapOldest_of_cons _ hb]
          exact h.withStream ht (.oldest hb _ rfl rfl rfl id id)
        exact sent.of_reel (reel_sendFill _ _)
      · rename_i sound
        split
        · rename_i d hd
          have left := h.withStream ht (.lineLeaves hb hd (Bool.eq_false_iff.mpr sound))
          exact ((left.of_reel (reel_mapTally _)).of_reel (reel_mapPort rfl)).lowTest
        · have spoiled := h.withStream ht (.spoilOldest hb .underrun (x.sent + 1))
          exact ((spoiled.of_reel (reel_mapTally _)).of_reel (reel_sendFill _ _)).lowTest

theorem Abides.acceptBand (h : Abides z s) (ht : s.stream = some t) (hb : t.bands = x :: xs) : Abides z (acceptBand t x s) := by
  have taken : Abides z (raise t.bay (.bandDone x.number 1)
      ((s.withStream (some (withoutOldest x t))).mapTally fun y => { y with bandsAccepted := y.bandsAccepted + 1 })) :=
    (h.withStream ht (.withoutOldest hb)).of_reel rfl
  unfold Machine.acceptBand afterAccept
  split
  · exact (taken.setPhase _).of_reel (reel_raise _)
  · split
    · exact (taken.setPhase _).of_reel (reel_raise _)
    · exact taken

/-- A repeat that is taken is the first or the second of its band (R142). -/
theorem Abides.takeRepeat (h : Abides z s) (ht : s.stream = some t) (hb : t.bands = x :: xs) (few : x.repeats < 2) :
    Abides z (takeRepeat t s) := by
  have rewound : (rewindOldest t).bands = { x with sent := 0 } :: xs := by rw [rewindOldest_of_cons hb]
  have repeated : StreamKept (ringLaw z) (rewindOldest t)
      (mapOldest (fun y => { y with repeats := y.repeats + 1 }) (rewindOldest t)) := by
    rw [mapOldest_of_cons _ rewound]
    exact .oldest rewound _ rfl rfl rfl (fun _ => few) id
  exact (((h.withStream ht ((StreamKept.rewindOldest t).trans repeated)).of_reel (reel_mapTally _)).armingTest).of_reel
    reel_trigger

theorem Abides.limitRepeat (h : Abides z s) (ht : s.stream = some t) (hb : t.bands = x :: xs) :
    Abides z (limitRepeat t x s) :=
  (h.withStream ht (.spoilOldest hb .repeatLimit 0)).lowTest

theorem stream_of_running (h : runningStream s = some t) : s.stream = some t := (Option.filter_eq_some_iff.mp h).1

/-! ### Every command -/

/-- A row that is no request. -/
theorem event_abides {i : Instr} (request : requestRow i = false) (e : exec i s = .next v) : Abides s v := by
  have h := Abides.refl s
  have next : ∀ {u : State}, (Host.Outcome.next u : Host.Outcome State Fault Refusal) = .next v → Abides s u →
      Abides s v := fun e hu => by
    cases e
    exact hu
  have guarded : ∀ {c : Prop} [Decidable c] {u : State}, (if c then Host.Outcome.next u else .next s) = .next v →
      Abides s u → Abides s v := fun e hu => by
    split at e
    · exact next e hu
    · exact next e h
  cases i with
  | powerOnReset cut => exact next e (powerOn_abides cut)
  | linkResetLineAsserted =>
    unfold exec execLinkResetLineAsserted at e
    dsimp only at e
    split at e
    · exact next e h
    · exact next e ((controllerReset_abides (s := s)).concluded rfl)
  | linkResetLineReleased => exact next e (h.of_reel rfl)
  | byteArrival x =>
    unfold exec execByteArrival at e
    dsimp only at e
    split at e
    · exact next e h
    · split at e
      · exact next e (h.of_reel rfl)
      · exact next e (takeByte_abides x)
  | firstByteTaken =>
    unfold exec execFirstByteTaken at e
    dsimp only at e
    split at e
    · exact next e h
    · split at e
      · exact next e h
      · exact next e ((h.of_reel (reel_mapLink _)).trans (takeByte_abides _))
  | incompleteFrameTimeout =>
    unfold exec execIncompleteFrameTimeout at e
    dsimp only at e
    split at e <;> exact next e (h.of_reel rfl)
  | discardQuietTimeout =>
    unfold exec execDiscardQuietTimeout at e
    dsimp only at e
    split at e <;> exact next e (h.of_reel rfl)
  | cartridgeInsertion b m => exact guarded e (h.concluded (reel_mapSched fun _ => rfl))
  | spinUpCompletion b =>
    have home : ∀ u : State, reel (headHome b u) = reel u := fun _ => reel_mapSched fun _ => rfl
    refine guarded e (h.concluded ?_)
    unfold spinUpDone
    dsimp only
    split <;> simp [home]
  | spinUpFailure b => exact guarded e (h.spinUpFails b).conclude
  | mountReadCompletion b fails =>
    refine guarded e (h.concluded ?_)
    unfold mountDone
    dsimp only
    split <;> simp
  | spinDownTimerExpiry b => exact guarded e (h.concluded rfl)
  | spindleStop b => exact guarded e (h.concluded reel_beginStop)
  | stopCompletion b => exact guarded e (h.concluded rfl)
  | passCompletion b rs => exact guarded e (completePass_abides b rs).conclude
  | recordLeavesTable q =>
    unfold exec execRecordLeavesTable at e
    dsimp only at e
    split at e
    · exact next e h
    · exact guarded e (h.concluded reel_leaveTable)
  | deferredCreation =>
    unfold exec execDeferredCreation at e
    dsimp only at e
    split at e
    · exact next e h
    · rename_i made
      exact next e (h.concluded (reel_creationStep made))
  | frameSent =>
    unfold exec execFrameSent at e
    dsimp only at e
    split at e
    · exact next e h
    · exact next e (h.concluded (reel_frameSent _))
  | lineRequest =>
    unfold exec execLineRequest at e
    dsimp only at e
    split at e
    · exact next e (h.of_reel (reel_sendFill _ _))
    · rename_i t running
      exact next e (h.answerLine (stream_of_running running)).conclude
  | bandAccept =>
    have ignored : Abides s (ignoreAccept s) := h.of_reel (reel_mapPort rfl)
    unfold exec execBandAccept at e
    dsimp only at e
    split at e
    · exact next e ignored
    · rename_i t running
      split at e
      · exact next e ignored
      · rename_i x xs hb
        split at e
        · exact next e (h.acceptBand (stream_of_running running) hb).conclude
        · exact next e ignored
  | bandRepeat =>
    have ignored : Abides s (ignoreRepeat s) := h.of_reel (reel_mapPort rfl)
    unfold exec execBandRepeat at e
    dsimp only at e
    split at e
    · exact next e ignored
    · rename_i t running
      have ht := stream_of_running running
      split at e
      · exact next e ignored
      · rename_i x xs hb
        split at e
        · refine next e (Abides.conclude ?_)
          split
          · rename_i few
            exact h.takeRepeat ht hb few
          · exact h.limitRepeat ht hb
        · exact next e ignored
  | mediumSectorChange b track place change => exact guarded e (h.of_reel rfl)
  | _ => exact nomatch request

theorem exec_abides {i : Instr} (e : exec i s = .next v) : Abides s v := by
  cases request : requestRow i with
  | true =>
    rw [exec_request request] at e
    cases e
    unfold onLink
    split
    · exact .refl s
    · exact handOn_abides i
  | false => exact event_abides request e

theorem step_abides (e : step s = .next v) : Abides s v :=
  step_keeps (P := Abides s) (fun _ _ h => h.of_reel rfl) (fun _ _ _ h e => h.trans (exec_abides e)) (.refl s) e

end Sys2Proof.Machine

namespace Sys2Proof.Exposing
open Machine

/-- Settles O46, by what each operation of the model keeps of the three laws together. -/
theorem streamLawsKept : Obligations.StreamLawsKept := by
  refine ⟨fun s t h e => (step_abides e).ready h, fun s t h e => (step_abides e).bands h,
    fun s t h e => (step_abides e).ring h, fun t h => ⟨?_, h.1⟩⟩
  rw [h.bytes]
  exact h.total

end Sys2Proof.Exposing
end

section
/-! The arithmetic of Stream Admission: the budget of stage 2 (R152) and the guard of stage 3 (R153). -/

namespace Sys2Proof.Machine

/-! ### The budget -/

theorem budget_eq_min {u line pace q : Nat} (low : q * (line * pace) ≤ u * 256) (high : u * 256 < (q + 1) * (line * pace)) :
    budget u line pace = min 65535 q := by
  rw [budget, Nat.div_eq_of_lt_le low high]

theorem budget_zero (line pace : Nat) : budget 0 line pace = 0 := by simp [budget]

theorem budget_le (u line pace : Nat) : budget u line pace ≤ 65535 := Nat.min_le_left _ _

/-- Only a consumption L × P of at most 768 lets the ring's bytes pass the budget's cap. -/
theorem consumption_le_of_quotient_above_cap {u d q : Nat} (ring : u ≤ 196608) (low : q * d ≤ u * 256) (above : 65535 < q) :
    d ≤ 768 := by
  have : 65536 * d ≤ q * d := Nat.mul_le_mul_right d above
  omega

/-! ### The guard -/

theorem trackDistance_self (t : Nat) : trackDistance t t = 0 := by simp [trackDistance_eq]

theorem trackDistance_le {t u n : Nat} (ht : t ≤ n) (hu : u ≤ n) : trackDistance t u ≤ n := by
  rw [trackDistance_eq]
  omega

theorem seekCost_le {t u : Nat} (ht : t ≤ 16383) (hu : u ≤ 16383) : seekCost (trackDistance t u) ≤ 134 := by
  obtain ⟨_, _, most, _⟩ := Cartridge.seekCost.2 _ (trackDistance_le ht hu)
  exact most

theorem seekCost_self (t : Nat) : seekCost (trackDistance t t) = 0 := by rw [trackDistance_self]; rfl

theorem returnCost_le {t : Nat} {f : Option Nat} (ht : t ≤ 16383) (hf : ∀ u ∈ f, u ≤ 16383) : returnCost t f ≤ 152 := by
  cases f with
  | none => exact Nat.zero_le _
  | some u => exact Nat.add_le_add_right (seekCost_le ht (hf u rfl)) 18

theorem le_guardOf (h t : Nat) (f : Option Nat) (m : Nat) : 17 ≤ guardOf h t f m := by
  unfold guardOf
  omega

/-- The greatest guard is two longest seeks, the pass's 17, the return's 18 and the greatest margin. -/
theorem guardOf_le {h t m : Nat} {f : Option Nat} (hh : h ≤ 16383) (ht : t ≤ 16383) (hf : ∀ u ∈ f, u ≤ 16383) (hm : m ≤ 255) :
    guardOf h t f m ≤ 558 := by
  have seek := seekCost_le ht hh
  have back := returnCost_le ht hf
  unfold guardOf
  omega

theorem guardOf_on_feed_track (h t m : Nat) : guardOf h t (some t) m = seekCost (trackDistance t h) + 17 + 18 + m := by
  simp only [guardOf, returnCost, seekCost_self, Nat.zero_add]

theorem guardOf_on_head_track (h m : Nat) : guardOf h h none m = 17 + m := by
  simp only [guardOf, returnCost, seekCost_self, Nat.zero_add, Nat.add_zero]

end Sys2Proof.Machine

namespace Sys2Proof.Exposing
open Machine

/-- Settles O36: the budget is a quotient capped, and the guard a sum of two bounded seeks and constants. -/
theorem budgetAndGuard : Obligations.BudgetAndGuard := by
  refine ⟨fun u line pace ring _ _ => ⟨fun q low high => ?_, ?_, budget_le u line pace, Nat.mul_le_mul_right 256 ring, ?_, ?_⟩,
    fun h t f m hh ht hf hm => ?_, fun h => guardOf_on_head_track h 0, by decide⟩
  · rw [budget_eq_min low high]
    exact ⟨fun within => Nat.min_eq_right within,
      fun above => ⟨Nat.min_eq_left (Nat.le_of_lt above), consumption_le_of_quotient_above_cap ring low above⟩⟩
  · rintro rfl
    exact budget_zero line pace
  · rintro rfl consumption
    simp [budget, consumption]
  · rintro rfl consumption
    simp [budget, consumption]
  · have feed : ∀ u ∈ some f, u ≤ 16383 := fun u hu => Option.mem_some.mp hu ▸ hf
    have noFeed : ∀ u ∈ (none : Option Nat), u ≤ 16383 := nofun
    refine ⟨rfl, rfl, seekCost_le ht hh, seekCost_le ht hf, le_guardOf .., guardOf_le hh ht feed hm, le_guardOf ..,
      guardOf_le hh ht noFeed hm, ?_⟩
    rintro rfl
    exact guardOf_on_feed_track h t m

end Sys2Proof.Exposing
end

section
/-! BIND by its checks, and what an UNBIND and the loss of a bay leave of the mirror. -/

namespace Sys2Proof.Machine

variable {s : State} {p : Bay} {ch tag : Nat}

/-! ### BIND -/

theorem unusual_iff (s : State) (b : Bay) :
    (!isUsual (s.mechOf b).mode) = true ↔ (s.mechOf b).mode ≠ .ready ∧ (s.mechOf b).mode ≠ .resting := by
  simp [isUsual]

/-- Between them a bay and the other hold every PREPARE. -/
theorem prepareOn_either (s : State) (p : Bay) :
    (prepareOn s p || prepareOn s p.other) = true ↔ ∃ r ∈ s.recs, isPrepare r = true := by
  have named : ∀ b : Bay, b = p ∨ b = p.other := by cases p <;> rintro (_ | _) <;> simp [Bay.other]
  simp only [prepareOn, Bool.or_eq_true, List.any_eq_true, Bool.and_eq_true, decide_eq_true_eq]
  constructor
  · rintro (⟨r, hr, hk, _⟩ | ⟨r, hr, hk, _⟩) <;> exact ⟨r, hr, hk⟩
  · rintro ⟨r, hr, hk⟩
    exact (named r.bay).imp (fun h => ⟨r, hr, hk, h⟩) fun h => ⟨r, hr, hk, h⟩

/-- A link WRITE on the bay bars a BIND even in ENDING, a copy only while unfinished (check 7 of R159). -/
theorem bindWriter_iff (s : State) (b : Bay) :
    (s.recs.any fun r => decide (r.bay = b) && (isWrite r || (isCopy r && unfinished r))) = true ↔
      ∃ r ∈ s.recs, r.bay = b ∧ (r.kind = .write ∨ (r.kind = .mirrorCopy ∧ r.state ≠ .ending)) := by
  simp [isWrite, isCopy, unfinished]

/-- The checks of R159 as the chain of their conditions. -/
theorem bindChecks_code (s : State) (p : Bay) : firstCode (bindChecks s p) =
    (if mirrorPrimary s ≠ none then some Code.mirrorState
     else if ((s.mechOf p).mode ≠ .ready ∧ (s.mechOf p).mode ≠ .resting) ∨
        ((s.mechOf p.other).mode ≠ .ready ∧ (s.mechOf p.other).mode ≠ .resting) then some .mirrorState
     else if ∃ r ∈ s.recs, isPrepare r = true then some .bayNotReady
     else if (s.mechOf p).inhibit = true ∨ (s.mechOf p.other).inhibit = true then some .writeInhibited
     else if streamOn s p.other = true then some .mirrorState
     else if ∃ r ∈ s.recs, r.bay = p.other ∧ (r.kind = .write ∨ (r.kind = .mirrorCopy ∧ r.state ≠ .ending))
        then some .mirrorState
     else none) := by
  refine firstCode_cons (by simp [mirrorLive, Option.isSome_iff_ne_none]) (firstCode_cons ?_ (firstCode_cons (prepareOn_either s p)
    (firstCode_cons Bool.or_eq_true_iff (firstCode_cons Iff.rfl (firstCode_cons (bindWriter_iff s p.other) rfl)))))
  rw [Bool.or_eq_true_iff, unusual_iff, unusual_iff]

theorem takeBind_refused {c : Code} (h : firstCode (bindChecks s p) = some c) :
    takeBind ch tag (some p) s = selectNext (refuse ch tag c s) := by
  unfold takeBind
  simp only [h]

theorem takeBind_accepted (h : firstCode (bindChecks s p) = none) :
    takeBind ch tag (some p) s = conclude (doneNow ch tag 0 (acceptBind p s)) := by
  unfold takeBind
  simp only [h]

theorem exec_bind_refused {c : Code} (ch : Fin 4) (tag : Fin 256) (hl : s.link.resetLine = false)
    (h : firstCode (bindChecks s p) = some c) :
    exec (.bind ch tag (some p)) s = .next (selectNext (reply ch tag (.refuse c) none s)) :=
  calc exec (.bind ch tag (some p)) s = .next (onLink s (takeBind ch tag (some p) s)) := rfl
    _ = .next (selectNext (refuse ch tag c s)) := by rw [onLink_released hl, takeBind_refused h]
    _ = _ := rfl

theorem exec_bind_accepted (ch : Fin 4) (tag : Fin 256) (hl : s.link.resetLine = false)
    (h : firstCode (bindChecks s p) = none) :
    exec (.bind ch tag (some p)) s = .next (conclude (reply ch tag (.done (plainDone 0)) none
      (wake p.other (wake p { s with mirror := .paired p 0 0 (.building .deferred) })))) :=
  calc exec (.bind ch tag (some p)) s = .next (onLink s (takeBind ch tag (some p) s)) := rfl
    _ = .next (conclude (doneNow ch tag 0 (acceptBind p s))) := by rw [onLink_released hl, takeBind_accepted h]
    _ = _ := rfl

/-! ### The unbinding -/

theorem unbindMirror_unbound (report : Bool) (hm : s.mirror = .unbound) : unbindMirror report s = s := by
  unfold unbindMirror
  rw [hm]

theorem unbindMirror_paired {c g : Nat} {ph : MirrorPhase} (report : Bool) (hm : s.mirror = .paired p c g ph) :
    unbindMirror report s =
      if report then raise p (.mirrorState .unbound c) (cancelSteps (cancelWaitingCopies (s.withMirror .unbound)))
      else cancelSteps (cancelWaitingCopies (s.withMirror .unbound)) := by
  unfold unbindMirror
  rw [hm]

/-- The report touches no record. -/
theorem unbindMirror_recs (report : Bool) (hm : s.mirror ≠ .unbound) :
    (unbindMirror report s).recs = (cancelSteps (cancelWaitingCopies (s.withMirror .unbound))).recs := by
  cases h : s.mirror with
  | unbound => exact absurd h hm
  | paired p c g ph =>
    rw [unbindMirror_paired report h]
    cases report <;> rfl

theorem unbindMirror_mirror (report : Bool) (s : State) : (unbindMirror report s).mirror = .unbound := by
  cases h : s.mirror with
  | unbound => rw [unbindMirror_unbound report h, h]
  | paired p c g ph =>
    have closed := (cancelMirror_closing (s.withMirror .unbound)).mirror
    rw [unbindMirror_paired report h]
    cases report <;> exact closed

/-- After a mirror's end every step is ended, and no copy waits without a cause: a record that had one keeps it. -/
theorem cancelMirror_ended (h : seqLaw s) {r : Rec} (hr : r ∈ (cancelSteps (cancelWaitingCopies s)).recs) :
    (isStep r = true → Ended r) ∧ (isCopy r = true → r.state ≠ .waiting ∨ r.endCause.isSome = true) := by
  have closing := cancelMirror_closing s
  have result := cancelMirror_records h
  obtain ⟨g, closed, recs⟩ := closing.recs
  have found := rec?_of_mem (closing.seqLaw h) hr
  rw [recs] at hr
  obtain ⟨x, hx, rfl⟩ := List.mem_map.mp hr
  rw [(closed x).sameAsk.seq] at found
  have kind : (g x).kind = x.kind := (closed x).sameAsk.kind
  refine ⟨fun step => ?_, fun copy => ?_⟩
  · obtain ⟨o, ho, ended⟩ := result.steps x hx (kind ▸ of_decide_eq_true step)
    obtain rfl := Option.some.inj (found.symm.trans ho)
    exact ended
  · have hk : x.kind = .mirrorCopy := kind ▸ of_decide_eq_true copy
    by_cases waiting : x.state = .waiting
    · have ended : Ended (g x) := by
        by_cases cause : x.endCause = none
        · obtain ⟨⟨o, ho, ends⟩, _⟩ := result.copies x hx hk waiting
          obtain rfl := Option.some.inj (found.symm.trans ho)
          exact .inl (ends cause).1
        · exact (closed x).ended (.inr (Option.isSome_iff_ne_none.mpr cause))
      exact ended.imp_left fun ending waiting => nomatch ending.symm.trans waiting
    · obtain ⟨o, ho, state, _⟩ := result.others x hx (hk ▸ nofun) fun _ => waiting
      obtain rfl := Option.some.inj (found.symm.trans ho)
      exact .inl (state ▸ waiting)

end Sys2Proof.Machine

namespace Sys2Proof.Pairing
open Machine

/-- Settles O28: the refusals follow the chain of R159, whose end an accepted BIND reaches, and an unbinding ends the mirror
as a degrade does, its report apart. -/
theorem mirrorRequests : Obligations.MirrorRequests := by
  refine ⟨⟨fun ch tag p s hl hm hp ho prepares ip io stream writers => ?_, fun ch tag s hl => ?_,
    fun ch tag p c s hl => exec_bind_refused ch tag hl, fun ch tag p s hl c hc => ?_, fun ch tag s hl => ?_,
    fun x s => unbindMirror_unbound x, fun x s => ⟨unbindMirror_mirror x s, fun hs hm r hr => ?_⟩⟩, fun p c g ph s hm => ?_⟩
  · have primary : ¬((s.mechOf p).mode ≠ .ready ∧ (s.mechOf p).mode ≠ .resting) := by rwa [← not_or, not_not]
    have secondary : ¬((s.mechOf p.other).mode ≠ .ready ∧ (s.mechOf p.other).mode ≠ .resting) := by rwa [← not_or, not_not]
    have unwritten : ¬∃ r ∈ s.recs, r.bay = p.other ∧ (r.kind = .write ∨ (r.kind = .mirrorCopy ∧ r.state ≠ .ending)) := by
      rintro ⟨r, hr, hb, hk⟩
      obtain ⟨notWrite, copyEnds⟩ := writers r hr hb
      exact hk.elim (of_decide_eq_false notWrite) fun ⟨copy, live⟩ => live (copyEnds (decide_eq_true copy))
    refine exec_bind_accepted ch tag hl ?_
    rw [bindChecks_code, if_neg (not_not.mpr hm), if_neg (not_or.mpr ⟨primary, secondary⟩), if_neg (by simpa using prepares),
      if_neg (by simp [ip, io]), if_neg (by simp [stream]), if_neg unwritten]
  · exact congrArg Host.Outcome.next (onLink_released hl)
  · exact exec_bind_refused ch tag hl ((bindChecks_code s p).trans hc)
  · exact congrArg Host.Outcome.next (onLink_released hl)
  · rw [unbindMirror_recs x hm] at hr
    exact cancelMirror_ended (s := s.withMirror .unbound) hs hr
  · have closing := cancelMirror_closing (s.withMirror .unbound)
    rw [unbindMirror_paired false hm, unbindMirror_paired true hm, if_neg Bool.false_ne_true, if_pos rfl]
    refine ⟨closing.link, ?_, mem_putReport_self _ _ nofun⟩
    exact congrArg (fun l : Link => { l with reports := putReport l.reports ⟨p, .mirrorState .unbound c⟩ }) closing.link

end Sys2Proof.Pairing
end

section
/-! The pending-report set by its keys (R185), and the frame that the selection takes (R186). -/

namespace Sys2Proof.Machine

variable {l : List Report} {r x t : Report}

/-! ### Keys -/

/-- The key of a report (R185): its kind and its bay. -/
def Report.key (r : Report) : ReportKind × Bay := (r.body.kind, r.bay)

theorem sameKey_iff : r.sameKey t = true ↔ r.key = t.key := by simp [Report.sameKey, Report.key]

theorem sameKey_eq_false : r.sameKey t = false ↔ r.key ≠ t.key := by rw [← Bool.not_eq_true, sameKey_iff]

theorem keysDistinct_iff (l : List Report) : keysDistinct l = true ↔ (l.map Report.key).Nodup := by
  induction l with
  | nil => simp [keysDistinct]
  | cons r rs ih =>
    have head : (rs.all fun t => !r.sameKey t) = true ↔ r.key ∉ rs.map Report.key := by
      simp only [List.all_eq_true, Bool.not_eq_true', sameKey_eq_false, List.mem_map, not_exists, not_and, ne_comm]
    rw [keysDistinct, Bool.and_eq_true, head, ih, List.map_cons, List.nodup_cons]

/-! ### Merging -/

/-- A merged entry has the key of both (R185). -/
theorem mergeReport_key (old new : Report) : (mergeReport old new).key = new.key := by
  unfold mergeReport
  split
  · rename_i h
    simp [Report.key, h, ReportBody.kind]
  · rfl

theorem mergeReport_bandDone {b n c k : Nat} (hx : x.body = .bandDone b n) (hr : r.body = .bandDone c k) :
    mergeReport x r = ⟨r.bay, .bandDone c (n + k)⟩ := by simp [mergeReport, hx, hr]

theorem kind_ne_bandDone (h : ∀ c k : Nat, r.body ≠ .bandDone c k) : r.body.kind ≠ .bandDone := fun e => by
  cases hb : r.body with
  | bandDone c k => exact h c k hb
  | _ =>
    rw [hb] at e
    exact nomatch e

/-- The keys of the set after a report is put into it: its own is added where no entry has it. -/
theorem putReport_keys (l : List Report) (r : Report) :
    (putReport l r).map Report.key = if r.key ∈ l.map Report.key then l.map Report.key else l.map Report.key ++ [r.key] := by
  induction l with
  | nil => rfl
  | cons x xs ih =>
    unfold putReport
    by_cases h : x.key = r.key
    · rw [if_pos (sameKey_iff.mpr h), List.map_cons, List.map_cons, mergeReport_key, h, if_pos List.mem_cons_self]
    · rw [if_neg (mt sameKey_iff.mp h), List.map_cons, List.map_cons, ih]
      simp only [List.mem_cons, Ne.symm h, false_or]
      split <;> rfl

theorem keysDistinct_putReport (r : Report) (h : keysDistinct l = true) : keysDistinct (putReport l r) = true := by
  rw [keysDistinct_iff] at h ⊢
  rw [putReport_keys]
  split
  · exact h
  · rename_i new
    exact List.concat_eq_append ▸ h.concat new

theorem keysDistinct_filter (p : Report → Bool) (h : keysDistinct l = true) : keysDistinct (l.filter p) = true := by
  rw [keysDistinct_iff] at h ⊢
  exact h.sublist (List.filter_sublist.map _)

/-- An entry of another key is in the set after a report is put into it exactly when it was before. -/
theorem mem_putReport_of_ne (h : x.sameKey r = false) : x ∈ putReport l r ↔ x ∈ l := by
  refine ⟨fun hx => ?_, fun hx => mem_putReport_other hx h⟩
  have ne : ∀ y, mergeReport y r ≠ x := fun y e => sameKey_eq_false.mp h (e ▸ mergeReport_key y r)
  induction l with
  | nil => exact absurd (List.mem_singleton.mp hx).symm (ne ⟨.A, .cartridgeOut⟩)
  | cons y ys ih =>
    unfold putReport at hx
    split at hx
    · exact List.mem_cons_of_mem _ ((List.mem_cons.mp hx).resolve_left fun e => ne y e.symm)
    · rcases List.mem_cons.mp hx with rfl | hx
      · exact List.mem_cons_self
      · exact List.mem_cons_of_mem _ (ih hx)

/-- A report of a new key joins the end of the set. -/
theorem putReport_new (h : ∀ x ∈ l, x.sameKey r = false) : putReport l r = l ++ [r] := by
  induction l with
  | nil => rfl
  | cons x xs ih =>
    obtain ⟨hx, hxs⟩ := List.forall_mem_cons.mp h
    rw [putReport, if_neg (by simp [hx]), ih hxs, List.cons_append]

/-- The one entry of a report's key is merged with it. -/
theorem mergeReport_mem_putReport (h : keysDistinct l = true) (hx : x ∈ l) (hk : x.sameKey r = true) :
    mergeReport x r ∈ putReport l r := by
  induction l with
  | nil => exact nomatch hx
  | cons y ys ih =>
    rw [keysDistinct, Bool.and_eq_true] at h
    obtain ⟨apart, rest⟩ := h
    unfold putReport
    rcases List.mem_cons.mp hx with rfl | hx
    · rw [if_pos hk]
      exact List.mem_cons_self
    · have other : y.key ≠ x.key := sameKey_eq_false.mp (by simpa using List.all_eq_true.mp apart x hx)
      rw [if_neg (mt sameKey_iff.mp (sameKey_iff.mp hk ▸ other))]
      exact List.mem_cons_of_mem _ (ih rest hx)

/-! ### The report that is first -/

theorem firstReport_eq_none : firstReport l = none ↔ l = [] := by
  cases l with
  | nil => simp [firstReport]
  | cons r rs =>
    simp only [firstReport, reduceCtorEq, iff_false]
    split
    · exact nofun
    · split <;> exact nofun

/-- The report that is first is in the set, and none of it stands before (R186). -/
theorem firstReport_spec (h : firstReport l = some r) : r ∈ l ∧ ∀ t ∈ l, r.rank ≤ t.rank := by
  induction l generalizing r with
  | nil => exact nomatch h
  | cons y ys ih =>
    unfold firstReport at h
    split at h
    · rename_i none
      cases h
      rw [firstReport_eq_none.mp none]
      simp
    · rename_i u first
      obtain ⟨mem, least⟩ := ih first
      split at h <;> rename_i le <;> cases h
      · exact ⟨List.mem_cons_self, List.forall_mem_cons.mpr ⟨Nat.le_refl _, fun t ht => Nat.le_trans le (least t ht)⟩⟩
      · exact ⟨List.mem_cons_of_mem _ mem, List.forall_mem_cons.mpr ⟨Nat.le_of_not_le le, least⟩⟩

/-! ### The selection -/

/-- The selection sends a report, sends the oldest reply, or leaves the Link Port as it is (R186). -/
theorem selectFrame_cases (pattern : List Slice) (l : Link) :
    selectFrame pattern l = l ∨ (∃ r, selectFrame pattern l = sendReport r l) ∨
      ∃ p ps, selectFrame pattern l = sendReply p ps l := by
  unfold selectFrame
  split
  · exact .inl rfl
  · split
    · exact .inl rfl
    · exact .inr (.inl ⟨_, rfl⟩)
    · exact .inr (.inr ⟨_, _, rfl⟩)
    · split
      · exact .inr (.inl ⟨_, rfl⟩)
      · exact .inr (.inr ⟨_, _, rfl⟩)

section
variable {pattern : List Slice} {l : Link} (hl : l.resetLine = false) (hs : l.sending = none)
include hl hs

theorem selectFrame_empty (hp : l.replies = []) (hr : l.reports = []) : selectFrame pattern l = l := by
  simp [selectFrame, hl, hs, hp, hr, firstReport]

/-- The oldest reply is sent at a REPLY slice, and where no report is pending. -/
theorem selectFrame_reply {p : Reply} {ps : List Reply} (hp : l.replies = p :: ps)
    (h : l.reports = [] ∨ pattern.getD l.cursor .reply = .reply) : selectFrame pattern l = sendReply p ps l := by
  unfold selectFrame
  rw [if_neg (by simp [hl, hs]), hp]
  cases hf : firstReport l.reports with
  | none => rfl
  | some r =>
    have nonempty : l.reports ≠ [] := mt firstReport_eq_none.mpr (by simp [hf])
    have slice : pattern.getD l.cursor .reply ≠ .report := by
      rw [h.resolve_left nonempty]
      decide
    exact if_neg slice

/-- The report that is first is sent at a REPORT slice, and where no reply waits. -/
theorem selectFrame_report {r : Report} (hr : firstReport l.reports = some r)
    (h : l.replies = [] ∨ pattern.getD l.cursor .reply = .report) : selectFrame pattern l = sendReport r l := by
  unfold selectFrame
  rw [if_neg (by simp [hl, hs]), hr]
  cases hp : l.replies with
  | nil => rfl
  | cons p ps => exact if_pos (h.resolve_left (by simp [hp]))

end

end Sys2Proof.Machine

namespace Sys2Proof.Linking
open Machine

/-- Settles O14: the selection by the slice and by what waits, the merging by the keys of the set. -/
theorem outboundOrder : Obligations.OutboundOrder := by
  refine ⟨fun pattern l hl hs => ⟨selectFrame_empty hl hs, fun p ps hp h => selectFrame_reply hl hs hp h, fun hr h => ?_⟩,
    fun l r hd => ⟨keysDistinct_putReport r hd, fun x hx => mem_putReport_of_ne hx, putReport_new, fun x hx hk =>
      ⟨fun b n c k hb hc => ?_, fun other => mem_putReport_self l r (kind_ne_bandDone other)⟩⟩⟩
  · obtain ⟨r, first⟩ := Option.ne_none_iff_exists'.mp (mt firstReport_eq_none.mp hr)
    obtain ⟨mem, least⟩ := firstReport_spec first
    exact ⟨r, mem, least, selectFrame_report hl hs first h⟩
  · exact mergeReport_bandDone hb hc ▸ mergeReport_mem_putReport hd hx hk

end Sys2Proof.Linking
end

section
/-! The laws of the Link Port (R181, R185, R186): which changes of the report set, the cursor and the settings keep them, and
every operation made of those changes. -/

namespace Sys2Proof.Machine

variable {z s v : State}

/-! ### What the laws speak of -/

/-- The report set, the cursor and the settings. -/
def post (s : State) : List Report × Nat × Settings := (s.link.reports, s.link.cursor, s.settings)

theorem post_of_link (hl : v.link = s.link) (hs : v.settings = s.settings) : post v = post s := by rw [post, post, hl, hs]

/-- The state keeps each law of the Link Port that an earlier one kept. -/
structure Orderly (z s : State) : Prop where
  reports : reportLaw z → reportLaw s
  settings : settingsLaw z → settingsLaw s

theorem Orderly.refl (s : State) : Orderly s s := ⟨id, id⟩

theorem Orderly.trans (h : Orderly z s) (h' : Orderly s v) : Orderly z v :=
  ⟨h'.reports ∘ h.reports, h'.settings ∘ h.settings⟩

theorem Orderly.of_post (h : Orderly z s) (e : post v = post s) : Orderly z v := by
  obtain ⟨reports, cursor, settings⟩ : v.link.reports = s.link.reports ∧ v.link.cursor = s.link.cursor ∧
      v.settings = s.settings := by simpa [post] using e
  refine ⟨fun hz => ?_, fun hz => ?_⟩
  · have := h.reports hz
    rwa [reportLaw, reports]
  · have := h.settings hz
    rwa [settingsLaw, cursor, settings]

/-! ### The changes that only the Link Port makes -/

/-- A report that is raised joins the set or is merged into the entry of its key (R185). -/
theorem Orderly.raise (h : Orderly z s) (b : Bay) (body : ReportBody) : Orderly z (raise b body s) :=
  ⟨fun hz => keysDistinct_putReport _ (h.reports hz), h.settings⟩

/-- The frame that is selected only leaves its set or queue, and the cursor steps through the 8 slices (R186). -/
theorem Orderly.selectNext (h : Orderly z s) : Orderly z (selectNext s) := by
  have steps : ∀ n : Nat, n % 8 < 8 := fun n => Nat.mod_lt n (by decide)
  refine ⟨fun hz => ?_, fun hz => ?_⟩
  · unfold reportLaw Machine.selectNext
    rw [State.mapLink_link]
    rcases selectFrame_cases s.settings.pattern s.link with e | ⟨r, e⟩ | ⟨p, ps, e⟩ <;> rw [e]
    · exact h.reports hz
    · exact keysDistinct_filter _ (h.reports hz)
    · exact h.reports hz
  · obtain ⟨cap, margin, slices, turnA, turnB, cursor⟩ := h.settings hz
    refine ⟨cap, margin, slices, turnA, turnB, ?_⟩
    unfold Machine.selectNext
    rw [State.mapLink_link]
    rcases selectFrame_cases s.settings.pattern s.link with e | ⟨r, e⟩ | ⟨p, ps, e⟩ <;> rw [e]
    · exact cursor
    · exact steps _
    · exact steps _

/-- A set of reports that is empty, and the settings of R181 with the cursor at the first slice, keep the laws. -/
theorem Orderly.of_reset (e : post v = post State.reset) : Orderly z v :=
  Orderly.of_post (s := State.reset) 
    ⟨fun _ => rfl, fun _ => ⟨by decide, by decide, rfl, by decide, by decide, by decide⟩⟩ e

theorem powerOn_orderly (cut : Two Cut) : Orderly z (powerOn cut s) := .of_reset rfl

theorem controllerReset_orderly : Orderly z (controllerReset s) := .of_reset rfl

/-- A number clamped lies in its range, and an absent one stays (R182). -/
theorem clamped_le {lo hi old : Nat} (x : Option Nat) (hlo : lo ≤ hi) (h : lo ≤ old ∧ old ≤ hi) :
    lo ≤ (x.map (clampTo lo hi)).getD old ∧ (x.map (clampTo lo hi)).getD old ≤ hi := by
  cases x with
  | none => exact h
  | some n => exact ⟨Nat.le_max_left _ _, Nat.max_le.mpr ⟨hlo, Nat.min_le_right _ _⟩⟩

/-- The settings that a SETUP of its length leaves lie in their ranges (R181, R182). -/
theorem settingsLaw_newSettings {f : SetupFields} (hp : patternSuits f.pattern = true) (h : settingsLaw s) :
    settingsLaw (s.withSettings (newSettings f s.settings)) := by
  obtain ⟨cap, margin, slices, turnA, turnB, cursor⟩ := h
  have upTo : ∀ (x : Option Nat) {old : Nat}, old ≤ 255 → (x.map (clampTo 0 255)).getD old ≤ 255 := fun x _ hold =>
    (clamped_le x (Nat.zero_le _) ⟨Nat.zero_le _, hold⟩).2
  refine ⟨clamped_le f.readCap (by decide) cap, upTo _ margin, ?_, upTo _ turnA, upTo _ turnB, cursor⟩
  show ((f.pattern.map _).getD s.settings.pattern).length = 8
  cases hf : f.pattern with
  | none => exact slices
  | some p =>
    have eight : p.length = 8 := by simpa [patternSuits, hf] using hp
    simpa using eight

theorem Orderly.acceptSetup {f : SetupFields} (hp : patternSuits f.pattern = true) (h : Orderly z s) :
    Orderly z (acceptSetup f s) := by
  have taken : Orderly z (s.withSettings (newSettings f s.settings)) :=
    ⟨h.reports, fun hz => settingsLaw_newSettings hp (h.settings hz)⟩
  exact taken.of_post (post_of_link (by rw [(acceptSetup_changes f s).rest]; rfl) (acceptSetup_settings f s))

/-! ### All that follows at once, and the completion of a pass -/

theorem orderly_concludes (z : State) : Concludes (Orderly z) where
  sched _ _ _ _ h := h.of_post rfl
  slots _ _ _ h := h.of_post rfl
  recs _ _ _ h := h.of_post rfl
  create _ _ _ h := h.of_post rfl
  stream _ _ h := h.of_post rfl
  tally _ _ h := h.of_post rfl
  port _ _ h := h.of_post rfl
  mirror _ _ h := h.of_post rfl
  reply _ _ _ _ _ h := h.of_post rfl
  raise b body _ h := h.raise b body
  wake _ _ h := h.of_post rfl
  map _ _ _ _ h := h.of_post rfl
  damages _ _ _ h := h.of_post rfl
  pass _ _ _ _ h := h.of_post rfl
  images _ _ _ _ h := h.of_post rfl
  choose _ h := h.of_post rfl
  remove _ _ h := h.of_post rfl
  stops _ _ _ h := h.of_post rfl
  empties _ _ _ h := h.of_post rfl
  timer _ _ _ _ h := h.of_post rfl
  select _ h := h.selectNext

theorem orderly_completes (z : State) : Completes (Orderly z) where
  toQuiet := (orderly_concludes z).toQuiet
  succeeds _ _ _ _ h := h.of_post rfl
  zones _ _ _ h := h.of_post rfl
  inhibits _ _ h := h.of_post rfl
  entry _ _ _ _ _ h := h.of_post rfl

theorem Orderly.conclude (h : Orderly z s) : Orderly z (conclude s) := (orderly_concludes z).conclude_keeps h

/-- What changes neither set nor cursor nor settings, with all that follows. -/
theorem Orderly.concluded (h : Orderly z s) (e : post v = post s) : Orderly z (Machine.conclude v) := (h.of_post e).conclude

theorem Orderly.answered (h : Orderly z s) (ch tag : Nat) (body : ReplyBody) (owner : Option Nat) :
    Orderly z (Machine.conclude (reply ch tag body owner s)) := h.concluded rfl

theorem Orderly.refused (h : Orderly z s) (ch tag : Nat) (c : Code) : Orderly z (Machine.selectNext (refuse ch tag c s)) :=
  (h.of_post (v := refuse ch tag c s) rfl).selectNext

theorem Orderly.completePass (h : Orderly z s) (b : Bay) (rs : List SectorResponse) : Orderly z (completePass b rs s) := by
  have k := orderly_completes z
  unfold Machine.completePass
  split
  · exact h
  · exact k.trigger_keeps b (k.handOutcomes_keeps b _ rs _ (h.of_post rfl))

end Sys2Proof.Machine
end

section
/-! The laws of the Link Port through the requests. -/

namespace Sys2Proof.Machine

variable {z s v : State}

/-! ### Requests that create records -/

theorem post_createRec (r : Rec) : post (createRec r s) = post s :=
  post_of_link (createRec_link s r) (congrArg Store.settings (store_createRec r))

theorem Orderly.takeAsk (h : Orderly z s) {a : Ask} {accept : Bay → State → State} (ha : ∀ b, Orderly z (accept b s)) :
    Orderly z (takeAsk a accept s) := by
  cases hc : requestCode s a with
  | some c =>
    rw [takeAsk_refused hc]
    exact h.refused _ _ _
  | none =>
    obtain ⟨b, hb, -⟩ := requestCode_eq_none.mp hc
    rw [takeAsk_accepted hc hb]
    exact (ha b).conclude

theorem Orderly.acceptWrite (h : Orderly z s) (a : Ask) (b : Bay) : Orderly z (acceptWrite a b s) := by
  have created : ∀ r, Orderly z (createRec r (claim (.record s.nextSeq) a.count s).1) := fun r =>
    (h.of_post (v := (claim (.record s.nextSeq) a.count s).1) rfl).of_post (post_createRec r)
  unfold Machine.acceptWrite
  refine (orderly_concludes z).reply _ _ _ _ _ ?_
  split
  · exact (orderly_concludes z).createInternal_keeps rfl ((created _).of_post rfl)
  · exact created _

theorem Orderly.takePrepare (h : Orderly z s) (ch tag : Nat) (bay : Option Bay) (serial : BitVec 32) (name : Data) :
    Orderly z (takePrepare ch tag bay serial name s) := by
  unfold Machine.takePrepare
  split
  · exact h.takeAsk fun _ => h.of_post (post_createRec _)
  · exact h.refused _ _ _

/-- A release raises CARTRIDGE_OUT and ends the EJECT records of its bay (R32). -/
theorem Orderly.release (h : Orderly z s) (b : Bay) : Orderly z (release b s) := by
  have k := orderly_concludes z
  have vacated : Orderly z (releasing b s) := k.raise _ _ _ (h.of_post rfl)
  exact foldl_keeps (fun _ q ht => k.enterEnding_keeps q ht) _ _ vacated

theorem Orderly.beginEject (h : Orderly z s) (a : Ask) (kind : EjectKind) (b : Bay) : Orderly z (beginEject a kind b s) := by
  have created : ∀ r, Orderly z (createRec r s) := fun r => h.of_post (post_createRec r)
  unfold Machine.beginEject
  dsimp only
  split
  · exact (created _).release b
  · exact (created _).of_post rfl

/-! ### The other requests -/

theorem Orderly.takeReset (h : Orderly z s) (ch tag : Nat) : Orderly z (takeReset ch tag s) := by
  unfold Machine.takeReset
  split
  · exact controllerReset_orderly.answered _ _ _ _
  · exact h.refused _ _ _

theorem Orderly.takeSector (h : Orderly z s) (ch tag index : Nat) (status : Option SectorStatus) (data : Data) :
    Orderly z (takeSector ch tag index status data s) := by
  have k := orderly_concludes z
  unfold Machine.takeSector
  split
  · split
    · rename_i r _ _
      refine Orderly.conclude ?_
      unfold acceptSector triggerCopies
      refine k.signalHoldEnds_keeps s (foldl_keeps (f := fun t (o : Rec) => trigger o.bay t)
        (fun _ o ht => k.trigger_keeps o.bay ht) _ _ (k.trigger_keeps _ (k.mapSector_keeps _ _ _ ?_)))
      split
      · exact k.fillSlot_keeps _ _ h
      · exact h
    · exact h.refused _ _ _
    · exact h
  · exact h.refused _ _ _

theorem Orderly.cancelRec (h : Orderly z s) (r : Rec) : Orderly z (cancelRec r s) := by
  have ends : ∀ q u, Orderly z u → Orderly z (endBy .cancelled q u) := fun q _ hu =>
    (orderly_concludes z).endBy_keeps _ q hu
  unfold Machine.cancelRec
  split
  · exact h
  · split
    · unfold cancelEject
      split
      · exact (ends _ _ h).of_post rfl
      · exact h.of_post rfl
    · split
      · exact h
      · split
        · exact foldl_keeps (fun _ q ht => ends q _ ht) _ _ (ends _ _ h)
        · exact ends _ _ h

theorem Orderly.takeCancel (h : Orderly z s) (ch tag target : Nat) : Orderly z (takeCancel ch tag target s) := by
  unfold Machine.takeCancel
  split
  · exact h.refused _ _ _
  · exact ((h.of_post (v := doneNow ch tag 0 s) rfl).cancelRec _).conclude

theorem Orderly.takeSetup (h : Orderly z s) (ch tag : Nat) (f : SetupFields) : Orderly z (takeSetup ch tag f s) := by
  unfold Machine.takeSetup
  split
  · exact h.refused _ _ _
  · rename_i suits
    split
    · exact h.refused _ _ _
    · exact (h.acceptSetup (Bool.of_not_eq_false suits)).answered _ _ _ _

theorem Orderly.takeBind (h : Orderly z s) (ch tag : Nat) (primary : Option Bay) : Orderly z (takeBind ch tag primary s) := by
  unfold Machine.takeBind
  split
  · exact h.refused _ _ _
  · split
    · exact h.refused _ _ _
    · exact h.concluded rfl

/-! ### The stream's requests -/

theorem Orderly.takeOpenStream (h : Orderly z s) (ch tag : Nat) (bay : Option Bay) (ring line pace : Nat)
    (marks : Option Marks) : Orderly z (takeOpenStream ch tag bay ring line pace marks s) := by
  unfold Machine.takeOpenStream
  split
  · exact h.concluded rfl
  · exact h.refused _ _ _
  · exact h

theorem Orderly.takeSetMarks (h : Orderly z s) (ch tag : Nat) (marks : Marks) : Orderly z (takeSetMarks ch tag marks s) := by
  have k := orderly_concludes z
  unfold Machine.takeSetMarks
  split
  · exact h.refused _ _ _
  · exact (k.trigger_keeps _ (k.armingTest_keeps (k.primingTest_keeps (k.stream _ s h)))).answered _ _ _ _

theorem Orderly.takeAppendBand (h : Orderly z s) (ch tag first length : Nat) :
    Orderly z (takeAppendBand ch tag first length s) := by
  unfold Machine.takeAppendBand
  split
  · exact h.refused _ _ _
  · split
    · exact h.refused _ _ _
    · exact h.concluded rfl

theorem Orderly.takeStartStream (h : Orderly z s) (ch tag : Nat) : Orderly z (takeStartStream ch tag s) := by
  have k := orderly_concludes z
  have primed : ∀ t, Orderly z (primingTest (setPhase .priming (s.withStream t))) := fun _ =>
    k.primingTest_keeps (k.setPhase_keeps _ (k.stream _ s h))
  unfold Machine.takeStartStream
  split
  · exact h.refused _ _ _
  · split
    · exact h.refused _ _ _
    · refine Orderly.answered ?_ _ _ _ _
      unfold acceptStart
      dsimp only
      split
      · exact k.armingTest_keeps (primed _)
      · exact primed _

theorem Orderly.takeStopStream (h : Orderly z s) (ch tag : Nat) : Orderly z (takeStopStream ch tag s) := by
  unfold Machine.takeStopStream
  split
  · exact h.refused _ _ _
  · split
    · exact h.refused _ _ _
    · exact (((orderly_concludes z).setPhase_keeps _ h).raise _ _).answered _ _ _ _

theorem Orderly.takeFlushStream (h : Orderly z s) (ch tag : Nat) : Orderly z (takeFlushStream ch tag s) := by
  have k := orderly_concludes z
  unfold Machine.takeFlushStream
  split
  · exact h.refused _ _ _
  · split
    · refine Orderly.answered ?_ _ _ _ _
      unfold acceptFlush
      split
      · split
        · exact h
        · exact h.of_post rfl
      · exact k.setPhase_keeps _ (k.stream _ s h)
    · exact h.refused _ _ _

theorem Orderly.takeCloseStream (h : Orderly z s) (ch tag : Nat) : Orderly z (takeCloseStream ch tag s) := by
  have k := orderly_concludes z
  unfold Machine.takeCloseStream
  split
  · exact h.refused _ _ _
  · split
    · have freed : Orderly z (freeRing (s.withStream none)) :=
        k.signalRelease_keeps _ (k.slots _ _ (List.length_map _) (k.stream none s h))
      exact Orderly.answered (k.trigger_keeps _ freed) _ _ _ _
    · exact h.refused _ _ _

theorem Orderly.answerStatus (h : Orderly z s) (ch tag : Nat) (x : Status) : Orderly z (answerStatus ch tag x s) :=
  (h.of_post (v := reply ch tag (.status x) none s) rfl).selectNext

/-- Every request that the Link Port hands on. -/
theorem Orderly.handOn (h : Orderly z s) (i : Instr) : Orderly z (handOn i s) := by
  have k := orderly_concludes z
  cases i with
  | reset ch tag => exact h.takeReset ch tag
  | read ch tag bay first count level => exact h.takeAsk fun _ => h.of_post (post_createRec _)
  | write ch tag bay first count level => exact h.takeAsk fun b => h.acceptWrite _ b
  | sector ch tag index status data => exact h.takeSector ch tag index status data
  | cancel ch tag target => exact h.takeCancel ch tag target
  | queryDevice ch tag => exact h.answerStatus _ _ _
  | queryBay ch tag bay =>
    unfold Machine.handOn takeQueryBay
    dsimp only
    split
    · exact h.answerStatus _ _ _
    · exact h.refused _ _ _
  | queryOperation ch tag target =>
    unfold Machine.handOn takeQueryOperation
    dsimp only
    split
    · exact h.answerStatus _ _ _
    · exact h.refused _ _ _
  | queryStream ch tag => exact h.answerStatus _ _ _
  | queryMirror ch tag => exact h.answerStatus _ _ _
  | setup ch tag f => exact h.takeSetup ch tag f
  | prepare ch tag bay serial name => exact h.takePrepare ch tag bay serial name
  | ejectNormal ch tag bay level =>
    exact h.takeAsk fun b => Orderly.beginEject (k.unbindMirror_keeps true h) _ _ b
  | ejectForced ch tag bay level =>
    exact h.takeAsk fun b => Orderly.beginEject
      (k.abandonAll_keeps b forcedEnds (k.unbindMirror_keeps true (k.haltByEject_keeps b h))) _ _ b
  | setZones ch tag bay level zones => exact h.takeAsk fun _ => h.of_post (post_createRec _)
  | bind ch tag primary => exact h.takeBind ch tag primary
  | unbind ch tag => exact Orderly.answered (k.unbindMirror_keeps false h) _ _ _ _
  | openStream ch tag bay ring line pace marks => exact h.takeOpenStream ch tag bay ring line pace marks
  | setMarks ch tag marks => exact h.takeSetMarks ch tag marks
  | appendBand ch tag first length => exact h.takeAppendBand ch tag first length
  | startStream ch tag => exact h.takeStartStream ch tag
  | stopStream ch tag => exact h.takeStopStream ch tag
  | flushStream ch tag => exact h.takeFlushStream ch tag
  | closeStream ch tag => exact h.takeCloseStream ch tag
  | _ => exact h

end Sys2Proof.Machine
end

section
/-! The laws of the Link Port through the link, the mechanisms and the imagesetter, and the step. -/

namespace Sys2Proof.Machine

variable {z s v : State}

/-! ### The link -/

theorem Orderly.takeByte (h : Orderly z s) (x : Byte) : Orderly z (takeByte x s) := by
  have left : ∀ a, Orderly z (setAssembly a s) := fun _ => h.of_post rfl
  have taken : ∀ bytes, Orderly z (takeBytes bytes s) := fun bytes => by
    unfold takeBytes checkFrame
    dsimp only
    split
    · exact (left .discarding).refused _ _ _
    · split
      · split
        · exact (left .idle).refused _ _ _
        · split
          · exact (left .idle).handOn _
          · exact (left .idle).refused _ _ _
      · exact left _
  unfold Machine.takeByte
  split
  · exact h
  · exact taken _
  · exact taken _

theorem Orderly.frameSent (h : Orderly z s) (f : Outbound) : Orderly z (frameSent f s) := by
  have sent : Orderly z (s.mapLink fun l => { l with sending := none }) := h.of_post rfl
  unfold Machine.frameSent
  dsimp only
  split
  · exact sent
  · split
    · unfold giveUpSent
      split
      · exact sent
      · exact (orderly_concludes z).dropUnqueued_keeps _ _ sent
    · exact sent

/-! ### The mechanisms -/

theorem Orderly.spinUpFails (h : Orderly z s) (b : Bay) : Orderly z (spinUpFails b s) := by
  have k := orderly_concludes z
  have faulted : Orderly z (faultBay b s) := h.of_post rfl
  unfold Machine.spinUpFails
  split
  · exact Orderly.raise (k.abandonAll_keeps b _ (k.unbindMirror_keeps true (k.haltByEject_keeps b faulted))) _ _
  · exact faulted.raise _ _

theorem Orderly.mountDone (h : Orderly z s) (b : Bay) (found : List Found) : Orderly z (mountDone b found s) := by
  have mounted : Orderly z (s.mapMech b fun m => mountMech (classOf found) { m with buffer := found.map bufferOf }) :=
    h.of_post rfl
  unfold Machine.mountDone
  dsimp only
  split
  · exact (orderly_concludes z).trigger_keeps b (mounted.raise _ _)
  · exact mounted.raise _ _

/-! ### The imagesetter -/

theorem Orderly.lowTest (h : Orderly z s) : Orderly z (lowTest s) := by
  unfold Machine.lowTest
  split
  · exact h
  · split
    · exact ((orderly_concludes z).stream _ _ h).raise _ _
    · exact h

theorem Orderly.answerLine (h : Orderly z s) (t : Stream) : Orderly z (answerLine t s) := by
  have k := orderly_concludes z
  have counted : ∀ t f, Orderly z ((s.withStream t).mapTally f) := fun t f => k.tally f _ (k.stream t s h)
  unfold Machine.answerLine
  split
  · exact h.of_post rfl
  · split
    · exact h.of_post rfl
    · split
      · exact h.of_post rfl
      · split
        · exact (k.port _ _ (counted _ _)).lowTest
        · exact (k.port _ _ (counted _ _)).lowTest

theorem Orderly.acceptBand (h : Orderly z s) (t : Stream) (x : Band) : Orderly z (acceptBand t x s) := by
  have k := orderly_concludes z
  have taken := Orderly.raise (k.tally (fun y => { y with bandsAccepted := y.bandsAccepted + 1 }) _
    (k.stream (some (withoutOldest x t)) s h)) t.bay (.bandDone x.number 1)
  unfold Machine.acceptBand afterAccept
  split
  · exact Orderly.raise (k.setPhase_keeps _ taken) _ _
  · split
    · exact Orderly.raise (k.setPhase_keeps _ taken) _ _
    · exact taken

/-! ### Every command -/

/-- A row that is no request. -/
theorem event_orderly {i : Instr} (request : requestRow i = false) (e : exec i s = .next v) : Orderly s v := by
  have k := orderly_concludes s
  have h := Orderly.refl s
  have next : ∀ {u : State}, (Host.Outcome.next u : Host.Outcome State Fault Refusal) = .next v → Orderly s u →
      Orderly s v := fun e hu => by
    cases e
    exact hu
  have guarded : ∀ {c : Prop} [Decidable c] {u : State}, (if c then Host.Outcome.next u else .next s) = .next v →
      Orderly s u → Orderly s v := fun e hu => by
    split at e
    · exact next e hu
    · exact next e h
  cases i with
  | powerOnReset cut => exact next e (powerOn_orderly cut)
  | linkResetLineAsserted =>
    unfold exec execLinkResetLineAsserted at e
    dsimp only at e
    split at e
    · exact next e h
    · exact next e ((controllerReset_orderly (s := s)).concluded rfl)
  | linkResetLineReleased => exact next e (h.of_post (v := setResetLine false s) rfl).selectNext
  | byteArrival x =>
    unfold exec execByteArrival at e
    dsimp only at e
    split at e
    · exact next e h
    · split at e
      · exact next e (h.of_post rfl)
      · exact next e (h.takeByte x)
  | firstByteTaken =>
    unfold exec execFirstByteTaken at e
    dsimp only at e
    split at e
    · exact next e h
    · split at e
      · exact next e h
      · have acknowledged : Orderly s (s.mapLink fun l => { l with waiting := none }) := h.of_post rfl
        exact next e (acknowledged.takeByte _)
  | incompleteFrameTimeout =>
    unfold exec execIncompleteFrameTimeout at e
    dsimp only at e
    split at e
    · exact next e (h.of_post rfl)
    · exact next e h
  | discardQuietTimeout =>
    unfold exec execDiscardQuietTimeout at e
    dsimp only at e
    split at e
    · exact next e (h.of_post rfl)
    · exact next e h
  | cartridgeInsertion b m => exact guarded e (h.concluded rfl)
  | spinUpCompletion b =>
    have turned : Orderly s (headHome b (s.mapMech b fun m => { m with spindle := .turning })) := h.of_post rfl
    refine guarded e (Orderly.conclude ?_)
    unfold spinUpDone
    dsimp only
    split
    · exact turned.of_post rfl
    · exact turned
  | spinUpFailure b => exact guarded e (h.spinUpFails b).conclude
  | mountReadCompletion b fails => exact guarded e (h.mountDone b _).conclude
  | spinDownTimerExpiry b => exact guarded e (h.concluded rfl)
  | spindleStop b => exact guarded e (h.concluded rfl)
  | stopCompletion b => exact guarded e (h.concluded rfl)
  | passCompletion b rs => exact guarded e (h.completePass b rs).conclude
  | recordLeavesTable q =>
    unfold exec execRecordLeavesTable at e
    dsimp only at e
    split at e
    · exact next e h
    · exact guarded e (Orderly.conclude (k.leaveTable_keeps q h))
  | deferredCreation =>
    unfold exec execDeferredCreation at e
    dsimp only at e
    split at e
    · exact next e h
    · rename_i made
      exact next e (Orderly.conclude (k.creationStep_keeps made h))
  | frameSent =>
    unfold exec execFrameSent at e
    dsimp only at e
    split at e
    · exact next e h
    · exact next e (h.frameSent _).conclude
  | lineRequest =>
    unfold exec execLineRequest at e
    dsimp only at e
    split at e
    · exact next e (h.of_post rfl)
    · exact next e (h.answerLine _).conclude
  | bandAccept =>
    have ignored : Orderly s (ignoreAccept s) := h.of_post rfl
    unfold exec execBandAccept at e
    dsimp only at e
    split at e
    · exact next e ignored
    · split at e
      · exact next e ignored
      · split at e
        · exact next e (h.acceptBand _ _).conclude
        · exact next e ignored
  | bandRepeat =>
    have ignored : Orderly s (ignoreRepeat s) := h.of_post rfl
    unfold exec execBandRepeat at e
    dsimp only at e
    split at e
    · exact next e ignored
    · split at e
      · exact next e ignored
      · split at e
        · refine next e (Orderly.conclude ?_)
          split
          · exact h.of_post rfl
          · exact Orderly.lowTest (k.stream _ s h)
        · exact next e ignored
  | mediumSectorChange b track place change => exact guarded e (h.of_post rfl)
  | _ => exact nomatch request

theorem exec_orderly {i : Instr} (e : exec i s = .next v) : Orderly s v := by
  cases request : requestRow i with
  | true =>
    rw [exec_request request] at e
    cases e
    unfold onLink
    split
    · exact .refl s
    · exact (Orderly.refl s).handOn i
  | false => exact event_orderly request e

theorem step_orderly (e : step s = .next v) : Orderly s v :=
  step_keeps (P := Orderly s) (fun _ _ h => h.of_post rfl) (fun _ _ _ h e => h.trans (exec_orderly e)) (.refl s) e

end Sys2Proof.Machine

namespace Sys2Proof.Linking
open Machine

/-- Settles O47, by what each operation of the model keeps of the report set, the cursor and the settings. -/
theorem linkLawsKept : Obligations.LinkLawsKept :=
  ⟨fun _ _ h e => (step_orderly e).reports h, fun _ _ h e => (step_orderly e).settings h⟩

end Sys2Proof.Linking
end

section
/-! Every command answers a next state (R36, R180): a request row through the Link Port, an event by its cases. -/

namespace Sys2Proof.Machine

variable {s : State}

/-- An event that acts where its condition holds, and changes nothing elsewhere. -/
theorem exists_next_ite (c : Prop) [Decidable c] (t u : State) :
    ∃ v : State, (if c then .next t else .next u : Host.Outcome State Fault Refusal) = .next v :=
  ⟨if c then t else u, by split <;> rfl⟩

theorem exec_request_next {i : Instr} (h : requestRow i = true) (s : State) : ∃ t : State, exec i s = .next t :=
  ⟨_, exec_request h⟩

/-! ### The link -/

theorem execByteArrival_next (x : Byte) (s : State) : ∃ t : State, execByteArrival x s = .next t := by
  unfold execByteArrival
  split
  · exact ⟨s, rfl⟩
  · exact exists_next_ite _ _ _

theorem execFirstByteTaken_next (s : State) : ∃ t : State, execFirstByteTaken s = .next t := by
  unfold execFirstByteTaken
  split
  · exact ⟨s, rfl⟩
  · exact exists_next_ite _ _ _

theorem execIncompleteFrameTimeout_next (s : State) : ∃ t : State, execIncompleteFrameTimeout s = .next t := by
  unfold execIncompleteFrameTimeout
  split <;> exact ⟨_, rfl⟩

theorem execDiscardQuietTimeout_next (s : State) : ∃ t : State, execDiscardQuietTimeout s = .next t := by
  unfold execDiscardQuietTimeout
  split <;> exact ⟨_, rfl⟩

theorem execFrameSent_next (s : State) : ∃ t : State, execFrameSent s = .next t := by
  unfold execFrameSent
  split <;> exact ⟨_, rfl⟩

/-! ### The table and the imagesetter -/

theorem execRecordLeavesTable_next (q : Nat) (s : State) : ∃ t : State, execRecordLeavesTable q s = .next t := by
  unfold execRecordLeavesTable
  split
  · exact ⟨s, rfl⟩
  · exact exists_next_ite _ _ _

theorem execDeferredCreation_next (s : State) : ∃ t : State, execDeferredCreation s = .next t := by
  unfold execDeferredCreation
  split <;> exact ⟨_, rfl⟩

theorem execLineRequest_next (s : State) : ∃ t : State, execLineRequest s = .next t := by
  unfold execLineRequest
  split <;> exact ⟨_, rfl⟩

theorem execBandAccept_next (s : State) : ∃ t : State, execBandAccept s = .next t := by
  unfold execBandAccept
  split
  · exact ⟨_, rfl⟩
  · split
    · exact ⟨_, rfl⟩
    · exact exists_next_ite _ _ _

theorem execBandRepeat_next (s : State) : ∃ t : State, execBandRepeat s = .next t := by
  unfold execBandRepeat
  split
  · exact ⟨_, rfl⟩
  · split
    · exact ⟨_, rfl⟩
    · exact exists_next_ite _ _ _

end Sys2Proof.Machine

namespace Sys2Proof.Linking
open Machine

/-- Settles O2, row by row. -/
theorem neverStops : Obligations.NeverStops := by
  intro i s
  cases i with
  | powerOnReset cut => exact ⟨_, rfl⟩
  | linkResetLineAsserted => exact exists_next_ite _ _ _
  | linkResetLineReleased => exact ⟨_, rfl⟩
  | byteArrival x => exact execByteArrival_next x s
  | firstByteTaken => exact execFirstByteTaken_next s
  | incompleteFrameTimeout => exact execIncompleteFrameTimeout_next s
  | discardQuietTimeout => exact execDiscardQuietTimeout_next s
  | cartridgeInsertion b m => exact exists_next_ite _ _ _
  | spinUpCompletion b => exact exists_next_ite _ _ _
  | spinUpFailure b => exact exists_next_ite _ _ _
  | mountReadCompletion b fails => exact exists_next_ite _ _ _
  | spinDownTimerExpiry b => exact exists_next_ite _ _ _
  | spindleStop b => exact exists_next_ite _ _ _
  | stopCompletion b => exact exists_next_ite _ _ _
  | passCompletion b rs => exact exists_next_ite _ _ _
  | recordLeavesTable q => exact execRecordLeavesTable_next q s
  | deferredCreation => exact execDeferredCreation_next s
  | frameSent => exact execFrameSent_next s
  | lineRequest => exact execLineRequest_next s
  | bandAccept => exact execBandAccept_next s
  | bandRepeat => exact execBandRepeat_next s
  | mediumSectorChange b track place change => exact exists_next_ite _ _ _
  | _ => exact exec_request_next rfl s

/-- Settles O1: the step by its definition, a request row by what the reset line lets through. -/
theorem stepTakesFront : Obligations.StepTakesFront := by
  refine ⟨⟨fun s c q => rfl, fun s idle => ?_⟩, fun i s request => ⟨fun asserted => ?_, fun released =>
    exec_handedOn released request⟩⟩
  · rw [step, idle]
  · rw [exec_request request, onLink, if_pos asserted]

end Sys2Proof.Linking
end

section
/-! The bytes of a frame (R177, R178): which the Link Port takes, what each makes of the assembly, and when a frame ends. -/

namespace Sys2Proof.Machine

variable {s : State} {x : Byte} {bytes : Data}

/-! ### Fields of few bytes -/

theorem fieldAt_one (d : Data) (i : Nat) : fieldAt d i 1 = (d.getD i 0).toNat := Nat.zero_add _

theorem fieldAt_succ (d : Data) (i k : Nat) : fieldAt d i (k + 1) = fieldAt d i k * 256 + (d.getD (i + k) 0).toNat := by
  simp [fieldAt, List.range_succ]

theorem fieldAt_two (d : Data) (i : Nat) : fieldAt d i 2 = (d.getD i 0).toNat * 256 + (d.getD (i + 1) 0).toNat := by
  rw [fieldAt_succ, fieldAt_one]

theorem fieldAt_three (d : Data) (i : Nat) :
    fieldAt d i 3 = (d.getD i 0).toNat * 65536 + (d.getD (i + 1) 0).toNat * 256 + (d.getD (i + 2) 0).toNat := by
  rw [fieldAt_succ, fieldAt_two]
  omega

theorem fieldAt_four (d : Data) (i : Nat) :
    fieldAt d i 4 = (d.getD i 0).toNat * 16777216 + (d.getD (i + 1) 0).toNat * 65536 + (d.getD (i + 2) 0).toNat * 256 +
      (d.getD (i + 3) 0).toNat := by
  rw [fieldAt_succ, fieldAt_three]
  omega

/-- The two bytes of the declared length stay the first as more bytes join them. -/
theorem declared_append (h : 2 ≤ bytes.length) (more : Data) :
    declared (bytes ++ more) = (bytes.getD 0 0).toNat * 256 + (bytes.getD 1 0).toNat := by
  rw [declared, fieldAt_two, List.getD_append _ _ _ _ (by omega), List.getD_append _ _ _ _ (by omega)]

/-! ### Bytes on the cable -/

theorem byteArrival_second (h : s.link.waiting.isSome = true) : exec (.byteArrival x) s = .next s := if_pos h

theorem byteArrival_withheld (hw : s.link.waiting = none) (h : s.link.resetLine = true ∨ replyHeld s.link = true) :
    exec (.byteArrival x) s = .next (withhold x s) := by
  calc exec (.byteArrival x) s = execByteArrival x s := rfl
    _ = _ := by rw [execByteArrival, hw, if_neg (by simp), if_pos (by simpa using h)]

theorem byteArrival_taken (hw : s.link.waiting = none) (hl : s.link.resetLine = false) (hh : replyHeld s.link = false) :
    exec (.byteArrival x) s = .next (takeByte x s) := by
  calc exec (.byteArrival x) s = execByteArrival x s := rfl
    _ = _ := by rw [execByteArrival, hw, if_neg (by simp), if_neg (by simp [hl, hh])]

/-- The hold of R177 keeps back a frame's first byte alone. -/
theorem replyHeld_begun (h : s.link.assembly ≠ .idle) : replyHeld s.link = false := by simp [replyHeld, h]

theorem byteArrival_collecting (hw : s.link.waiting = none) (hl : s.link.resetLine = false)
    (ha : s.link.assembly = .collecting bytes) : exec (.byteArrival x) s = .next (takeBytes (bytes ++ [x]) s) := by
  rw [byteArrival_taken hw hl (replyHeld_begun (by simp [ha])), takeByte, ha]

theorem firstByteTaken_held (hw : s.link.waiting = some x) (h : s.link.resetLine = true ∨ replyHeld s.link = true) :
    exec .firstByteTaken s = .next s := by
  calc exec .firstByteTaken s = execFirstByteTaken s := rfl
    _ = _ := by
      rw [execFirstByteTaken, hw]
      exact if_pos (by simpa using h)

theorem firstByteTaken_taken (hw : s.link.waiting = some x) (hl : s.link.resetLine = false)
    (hh : replyHeld s.link = false) :
    exec .firstByteTaken s = .next (takeByte x (s.mapLink fun l => { l with waiting := none })) := by
  calc exec .firstByteTaken s = execFirstByteTaken s := rfl
    _ = _ := by
      rw [execFirstByteTaken, hw]
      exact if_neg (by simp [hl, hh])

/-! ### What the bytes so far come to -/

/-- The first byte of a frame. -/
theorem takeByte_idle (ha : s.link.assembly = .idle) : takeByte x s = setAssembly (.collecting [x]) s := by
  rw [takeByte, ha]
  rfl

theorem takeBytes_collects (long : bytes.length = 5 → declared bytes ≤ 1026)
    (last : 5 ≤ bytes.length → bytes.length ≠ 5 + declared bytes) : takeBytes bytes s = setAssembly (.collecting bytes) s := by
  rw [takeBytes, if_neg fun h => Nat.not_lt.mpr (long h.1) h.2, if_neg fun h => last h.1 h.2]

theorem takeBytes_tooLong (h : bytes.length = 5) (long : 1026 < declared bytes) :
    takeBytes bytes s =
      selectNext (refuse (fieldAt bytes 3 1) (fieldAt bytes 4 1) .frameError (setAssembly .discarding s)) := if_pos ⟨h, long⟩

theorem takeBytes_completes (h : bytes.length = 5 + declared bytes) (short : declared bytes ≤ 1026) :
    takeBytes bytes s = checkFrame bytes (setAssembly .idle s) := by
  rw [takeBytes, if_neg fun long => Nat.not_lt.mpr short long.2, if_pos ⟨by omega, h⟩]

/-- A byte that neither ends the frame nor is the fifth of one too long joins the bytes. -/
theorem byteArrival_joins (hw : s.link.waiting = none) (hl : s.link.resetLine = false)
    (ha : s.link.assembly = .collecting bytes)
    (long : bytes.length = 4 → (bytes.getD 0 0).toNat * 256 + (bytes.getD 1 0).toNat ≤ 1026)
    (last : 4 ≤ bytes.length → bytes.length + 1 ≠ 5 + ((bytes.getD 0 0).toNat * 256 + (bytes.getD 1 0).toNat)) :
    exec (.byteArrival x) s = .next (setAssembly (.collecting (bytes ++ [x])) s) := by
  have length : (bytes ++ [x]).length = bytes.length + 1 := List.length_append
  rw [byteArrival_collecting hw hl ha, takeBytes_collects]
  · intro five
    have four : bytes.length = 4 := by omega
    exact (declared_append (by omega) [x]).trans_le (long four)
  · intro five
    rw [declared_append (by omega), length]
    exact last (by omega)

/-! ### The timeouts -/

theorem incompleteFrameTimeout_collecting (ha : s.link.assembly = .collecting bytes) :
    exec .incompleteFrameTimeout s = .next (setAssembly .idle s) := by
  calc exec .incompleteFrameTimeout s = execIncompleteFrameTimeout s := rfl
    _ = _ := by rw [execIncompleteFrameTimeout, ha]

theorem incompleteFrameTimeout_other (ha : s.link.assembly = .idle ∨ s.link.assembly = .discarding) :
    exec .incompleteFrameTimeout s = .next s := by
  calc exec .incompleteFrameTimeout s = execIncompleteFrameTimeout s := rfl
    _ = _ := by rcases ha with ha | ha <;> rw [execIncompleteFrameTimeout, ha]

theorem discardQuietTimeout_discarding (ha : s.link.assembly = .discarding) :
    exec .discardQuietTimeout s = .next (setAssembly .idle s) := by
  calc exec .discardQuietTimeout s = execDiscardQuietTimeout s := rfl
    _ = _ := by rw [execDiscardQuietTimeout, ha]

theorem discardQuietTimeout_other (ha : s.link.assembly ≠ .discarding) : exec .discardQuietTimeout s = .next s := by
  calc exec .discardQuietTimeout s = execDiscardQuietTimeout s := rfl
    _ = _ := by
      unfold execDiscardQuietTimeout
      split
      · rename_i discarding
        exact absurd discarding ha
      · rfl

end Sys2Proof.Machine

namespace Sys2Proof.Linking
open Machine

/-- Settles O12: the byte by the cable and the assembly, the timeouts by the assembly alone. -/
theorem bytesTaken : Obligations.BytesTaken := by
  refine ⟨⟨⟨fun x s hw h => byteArrival_withheld hw h, fun x s hw hl hh ha => ?_,
      fun x bytes s hw hl ha long last => byteArrival_joins hw hl ha long last, fun x s hw hl ha => ?_,
      fun x s h => byteArrival_second h, fun x s hw hl hh ha => ?_, fun x s hw h => firstByteTaken_held hw h, fun s hw => ?_⟩,
    fun bytes s ha => incompleteFrameTimeout_collecting ha, fun s ha => incompleteFrameTimeout_other ha,
    fun s ha => discardQuietTimeout_discarding ha, fun s ha => discardQuietTimeout_other (by simp [ha]),
    fun bytes s ha => discardQuietTimeout_other (by simp [ha])⟩, fun hi lo kind ch tag s hw hl ha long => ?_⟩
  · rw [byteArrival_taken hw hl hh, takeByte_idle ha]
    rfl
  · rw [byteArrival_taken hw hl (replyHeld_begun (by simp [ha])), takeByte, ha]
  · exact (firstByteTaken_taken hw hl hh).trans (congrArg Host.Outcome.next (takeByte_idle ha))
  · calc exec .firstByteTaken s = execFirstByteTaken s := rfl
      _ = .next s := by rw [execFirstByteTaken, hw]
  · rw [byteArrival_collecting hw hl ha, takeBytes_tooLong rfl, fieldAt_one, fieldAt_one]
    · rfl
    · rwa [declared, fieldAt_two]

end Sys2Proof.Linking
end

section
/-! Complete frames (R178): the byte that ends one, and what its header comes to. -/

namespace Sys2Proof.Machine

variable {s : State} {x kind tag : Byte} {body : Data} {i : Instr}

/-- The bytes of a frame (Table 13-2). -/
def layout (kind ch tag : Byte) (body : Data) : Data := toBytes 2 body.length ++ [kind, ch, tag] ++ body

/-- A byte that the Link Port takes and that completes a frame of this kind, channel, tag and body. -/
structure EndsFrame (x kind ch tag : Byte) (body : Data) (s : State) : Prop where
  waiting : s.link.waiting = none
  released : s.link.resetLine = false
  short : body.length ≤ 1026
  collected : ∃ bytes, s.link.assembly = .collecting bytes ∧ bytes ++ [x] = layout kind ch tag body

theorem layout_declared {ch : Byte} (h : body.length ≤ 1026) : declared (layout kind ch tag body) = body.length :=
  fieldAt_of_eq (pre := []) (post := [kind, ch, tag] ++ body) (by simp [layout]) rfl (by omega)

theorem layout_short {ch : Byte} (h : body.length < 256) :
    layout kind ch tag body = 0x00#8 :: BitVec.ofNat 8 body.length :: kind :: ch :: tag :: body := by
  simp [layout, toBytes, Nat.div_eq_of_lt h]

theorem layout_kind (ch : Byte) : fieldAt (layout kind ch tag body) 2 1 = kind.toNat := fieldAt_one _ _

theorem layout_channel (ch : Byte) : fieldAt (layout kind ch tag body) 3 1 = ch.toNat := fieldAt_one _ _

theorem layout_tag (ch : Byte) : fieldAt (layout kind ch tag body) 4 1 = tag.toNat := fieldAt_one _ _

theorem layout_body (ch : Byte) : (layout kind ch tag body).drop 5 = body := rfl

/-- A frame whose body's length fits the second header byte. -/
theorem EndsFrame.of_short {ch : Byte} {bytes : Data} (waiting : s.link.waiting = none) (released : s.link.resetLine = false)
    (collecting : s.link.assembly = .collecting bytes) (short : body.length < 256)
    (whole : bytes ++ [x] = 0x00#8 :: BitVec.ofNat 8 body.length :: kind :: ch :: tag :: body) :
    EndsFrame x kind ch tag body s :=
  ⟨waiting, released, by omega, bytes, collecting, whole.trans (layout_short short).symm⟩

theorem EndsFrame.checked {ch : Byte} (f : EndsFrame x kind ch tag body s) :
    exec (.byteArrival x) s = .next (checkFrame (layout kind ch tag body) (setAssembly .idle s)) := by
  obtain ⟨bytes, collecting, whole⟩ := f.collected
  have length : (layout kind ch tag body).length = 5 + body.length := by
    simp [layout]
    omega
  have declares := layout_declared (kind := kind) (ch := ch) (tag := tag) f.short
  rw [byteArrival_collecting f.waiting f.released collecting, whole]
  exact congrArg Host.Outcome.next (takeBytes_completes (length.trans (congrArg (5 + ·) declares.symm))
    (declares.trans_le f.short))

/-- Check 2 (R178): no channel has the byte. -/
theorem EndsFrame.badChannel {ch : Byte} (f : EndsFrame x kind ch tag body s) (h : 3 < ch.toNat) :
    exec (.byteArrival x) s = .next (selectNext (refuse ch.toNat tag.toNat .frameError (setAssembly .idle s))) := by
  rw [f.checked]
  unfold checkFrame
  rw [layout_channel, layout_tag]
  exact congrArg Host.Outcome.next (if_pos h)

theorem channel_toNat (ch : Fin 4) : (BitVec.ofNat 8 ch.val).toNat = ch.val := by
  rw [BitVec.toNat_ofNat]
  omega

theorem exists_channel {ch : Byte} (h : ch.toNat ≤ 3) : ∃ c : Fin 4, ch = BitVec.ofNat 8 c.val :=
  ⟨⟨ch.toNat, by omega⟩, by simp⟩

theorem tag_ofNat (y : Byte) : Fin.ofNat 256 y.toNat = y.toFin := Fin.ext (Nat.mod_eq_of_lt y.isLt)

/-- What the Link Port makes of a frame of a channel, by what its kind and its body come to. -/
def answered (ch tag : Nat) (s : State) : Parsed → State
  | .request i => handOn i s
  | .refused c => selectNext (refuse ch tag c s)

theorem checkFrame_layout (ch : Fin 4) (s : State) :
    checkFrame (layout kind (BitVec.ofNat 8 ch.val) tag body) s =
      answered ch.val tag.toNat s (parseFrame kind.toNat ch tag.toFin body) := by
  have channel : Fin.ofNat 4 ch.val = ch := Fin.ext (Nat.mod_eq_of_lt ch.isLt)
  unfold checkFrame
  dsimp only
  rw [layout_kind, layout_channel, layout_tag, layout_body, channel_toNat, tag_ofNat, channel, if_neg (by omega)]
  cases parseFrame kind.toNat ch tag.toFin body <;> rfl

section
variable {ch : Fin 4} (f : EndsFrame x kind (BitVec.ofNat 8 ch.val) tag body s)
include f

/-- A frame that is a request does what its row does. -/
theorem EndsFrame.request (parsed : parseFrame kind.toNat ch tag.toFin body = .request i) (row : requestRow i = true) :
    exec (.byteArrival x) s = exec i (setAssembly .idle s) := by
  rw [f.checked, checkFrame_layout, parsed, exec_handedOn (s := setAssembly .idle s) f.released row]
  rfl

/-- A frame that its kind or its body refuses is answered with the code. -/
theorem EndsFrame.refused {c : Code} (parsed : parseFrame kind.toNat ch tag.toFin body = .refused c) :
    exec (.byteArrival x) s = .next (selectNext (refuse ch.val tag.toNat c (setAssembly .idle s))) := by
  rw [f.checked, checkFrame_layout, parsed]
  rfl

end

end Sys2Proof.Machine
end

section
/-! What a body comes to (R179, R181, R188): the fields of each kind of request, read from the bytes that spell them. -/

namespace Sys2Proof.Machine

variable {ch : Fin 4} {tag : Fin 256} {body rest : Data} {i : Instr} {n : Nat}

/-! ### Bytes that name a thing -/

/-- A byte of which 00h and 01h alone name a thing. -/
theorem named_by_byte {α : Type} {f : Nat → Option α} {a b : α} (zero : f 0 = some a) (one : f 1 = some b)
    (more : ∀ n, f (n + 2) = none) (y : Byte) : f y.toNat = if y = 0x00#8 then some a else if y = 0x01#8 then some b else none := by
  split
  · rename_i h
    exact h ▸ zero
  · rename_i ne0
    split
    · rename_i h
      exact h ▸ one
    · rename_i ne1
      obtain ⟨n, hn⟩ : ∃ n, y.toNat = n + 2 := ⟨y.toNat - 2, by bv_omega⟩
      exact hn ▸ more n

theorem bayOf_byte (y : Byte) : bayOf y.toNat = if y = 0x00#8 then some .A else if y = 0x01#8 then some .B else none :=
  named_by_byte (f := bayOf) rfl rfl (fun _ => rfl) y

theorem modeOf_byte (y : Byte) :
    modeOf y.toNat = if y = 0x00#8 then some .nested else if y = 0x01#8 then some .runToEnd else none :=
  named_by_byte (f := modeOf) rfl rfl (fun _ => rfl) y

theorem weakOf_byte (y : Byte) : weakOf y.toNat = if y = 0x00#8 then some true else if y = 0x01#8 then some false else none :=
  named_by_byte (f := weakOf) rfl rfl (fun _ => rfl) y

theorem sliceOf_byte (y : Byte) : sliceOf y.toNat = if y = 0x00#8 then some .reply else if y = 0x01#8 then some .report else none :=
  named_by_byte (f := sliceOf) rfl rfl (fun _ => rfl) y

theorem bayOf_position (b : Bay) : bayOf (BitVec.ofNat 8 (bayPosition b)).toNat = some b := by cases b <;> rfl

/-- A status byte other than DATA's. -/
theorem sectorStatusOf_byte {y : Byte} (h : y ≠ 0x00#8) :
    sectorStatusOf y.toNat = if y = 0x01#8 then some .blank else if y = 0x02#8 then some .unreadable else none := by
  obtain ⟨n, hn⟩ : ∃ n, y.toNat = n + 1 := ⟨y.toNat - 1, by bv_omega⟩
  rw [hn]
  split
  · rename_i e
    obtain rfl : n = 0 := by bv_omega
    rfl
  · split
    · rename_i e
      obtain rfl : n = 1 := by bv_omega
      rfl
    · obtain ⟨m, rfl⟩ : ∃ m, n = m + 2 := ⟨n - 2, by bv_omega⟩
      rfl

/-! ### Bodies of one length -/

theorem sized_eq (h : body.length = n) : sized n body i = .request i := if_pos h

theorem sized_ne (h : body.length ≠ n) : sized n body i = .refused .frameError := if_neg h

theorem parseFrame_read (y f2 f1 f0 count level : Byte) :
    parseFrame 0x01 ch tag [y, f2, f1, f0, count, level] =
      .request (.read ch tag (bayOf y.toNat) (f2.toNat * 65536 + f1.toNat * 256 + f0.toNat) count.toNat level.toNat) := by
  simp only [parseFrame, sized_eq, List.length_cons, List.length_nil, fieldAt_one, fieldAt_three]
  rfl

theorem parseFrame_write (y f2 f1 f0 count level : Byte) :
    parseFrame 0x02 ch tag [y, f2, f1, f0, count, level] =
      .request (.write ch tag (bayOf y.toNat) (f2.toNat * 65536 + f1.toNat * 256 + f0.toNat) count.toNat level.toNat) := by
  simp only [parseFrame, sized_eq, List.length_cons, List.length_nil, fieldAt_one, fieldAt_three]
  rfl

theorem parseFrame_cancel (target : Byte) : parseFrame 0x04 ch tag [target] = .request (.cancel ch tag target.toFin) := by
  simp only [parseFrame, sized_eq, List.length_cons, List.length_nil, fieldAt_one]
  exact congrArg (fun x => Parsed.request (.cancel ch tag x)) (tag_ofNat target)

theorem parseFrame_prepare (y s3 s2 s1 s0 : Byte) {name : Data} (h : name.length = 16) :
    parseFrame 0x07 ch tag ([y, s3, s2, s1, s0] ++ name) = .request (.prepare ch tag (bayOf y.toNat)
      (BitVec.ofNat 32 (s3.toNat * 16777216 + s2.toNat * 65536 + s1.toNat * 256 + s0.toNat)) name) := by
  have length : ([y, s3, s2, s1, s0] ++ name).length = 21 := by simp [h]
  simp only [parseFrame, sized_eq length, fieldAt_one, fieldAt_four]
  rfl

theorem parseFrame_bind (y : Byte) : parseFrame 0x0A ch tag [y] = .request (.bind ch tag (bayOf y.toNat)) := by
  simp only [parseFrame, sized_eq, List.length_cons, List.length_nil, fieldAt_one]
  rfl

theorem parseFrame_setMarks (low high prime : Byte) :
    parseFrame 0x11 ch tag [low, high, prime] = .request (.setMarks ch tag ⟨low.toNat, high.toNat, prime.toNat⟩) := by
  simp only [parseFrame, sized_eq, List.length_cons, List.length_nil, marksAt, fieldAt_one]
  rfl

theorem parseFrame_appendBand (f2 f1 f0 l2 l1 l0 : Byte) :
    parseFrame 0x12 ch tag [f2, f1, f0, l2, l1, l0] =
      .request (.appendBand ch tag (f2.toNat * 65536 + f1.toNat * 256 + f0.toNat)
        (l2.toNat * 65536 + l1.toNat * 256 + l0.toNat)) := by
  simp only [parseFrame, sized_eq, List.length_cons, List.length_nil, fieldAt_three]
  rfl

/-- The kinds without a body. -/
theorem parseFrame_bare {kind : Byte} (tag : Byte)
    (h : (kind, i) ∈ [(0x0B#8, Instr.unbind ch tag.toFin), (0x13#8, .startStream ch tag.toFin),
      (0x14#8, .stopStream ch tag.toFin), (0x15#8, .flushStream ch tag.toFin), (0x16#8, .closeStream ch tag.toFin),
      (0x1F#8, .reset ch tag.toFin)]) :
    parseFrame kind.toNat ch tag.toFin [] = .request i ∧ requestRow i = true := by
  simp only [List.mem_cons, Prod.mk.injEq, List.not_mem_nil, or_false] at h
  rcases h with ⟨rfl, rfl⟩ | ⟨rfl, rfl⟩ | ⟨rfl, rfl⟩ | ⟨rfl, rfl⟩ | ⟨rfl, rfl⟩ | ⟨rfl, rfl⟩ <;> exact ⟨rfl, rfl⟩

/-! ### SECTOR, QUERY, EJECT and OPEN_STREAM -/

theorem parseFrame_sectorData (index : Byte) {data : Data} (h : data.length = 1024) :
    parseFrame 0x03 ch tag (index :: 0x00#8 :: data) = .request (.sector ch tag index.toNat (some .data) data) := by
  have length : (index :: 0x00#8 :: data).length = 1026 := by simp [h]
  simp only [parseFrame, parseSector, fieldAt_one]
  exact sized_eq length

theorem parseFrame_sectorStatus (index : Byte) {status : Byte} (h : status ≠ 0x00#8) :
    parseFrame 0x03 ch tag [index, status] = .request (.sector ch tag index.toNat
      (if status = 0x01#8 then some .blank else if status = 0x02#8 then some .unreadable else none) []) := by
  have other : fieldAt [index, status] 1 1 ≠ 0 := by
    rw [fieldAt_one]
    exact fun e => h (BitVec.eq_of_toNat_eq e)
  simp only [parseFrame, parseSector]
  rw [if_neg other, sized_eq (n := 2) rfl, fieldAt_one, fieldAt_one, ← sectorStatusOf_byte h]
  rfl

/-- A SECTOR's length that does not suit its status. -/
theorem parseFrame_sectorUnsized (h : (body.length ≠ 2 ∧ body.length ≠ 1026) ∨
    (body.length = 2 ∧ body[1]? = some 0x00#8) ∨ (body.length = 1026 ∧ body[1]? ≠ some 0x00#8)) :
    parseFrame 0x03 ch tag body = .refused .frameError := by
  refine sized_ne (n := if fieldAt body 1 1 = 0 then 1026 else 2) ?_
  rw [fieldAt_one, List.getD_eq_getElem?_getD]
  rcases h with ⟨two, full⟩ | ⟨two, zero⟩ | ⟨full, other⟩
  · split <;> assumption
  · rw [zero]
    simp [two]
  · obtain ⟨y, hy⟩ : ∃ y, body[1]? = some y := ⟨_, List.getElem?_eq_getElem (by omega)⟩
    have status : y.toNat ≠ 0 := fun e => other (hy.trans (congrArg some (BitVec.eq_of_toNat_eq e)))
    rw [hy]
    simp [full, status]

theorem parseFrame_queryBay (y : Byte) : parseFrame 0x05 ch tag [0x01#8, y] = .request (.queryBay ch tag (bayOf y.toNat)) := by
  simp only [parseFrame, parseQuery, fieldAt_one]
  rfl

theorem parseFrame_queryOperation (y : Byte) :
    parseFrame 0x05 ch tag [0x02#8, y] = .request (.queryOperation ch tag y.toFin) := by
  simp only [parseFrame, parseQuery, fieldAt_one, ← tag_ofNat]
  rfl

/-- A scope that Table 13-3 does not give (R180). -/
theorem parseFrame_queryUnknown {scope : Byte} (h : 5 ≤ scope.toNat) :
    parseFrame 0x05 ch tag (scope :: rest) = .refused .badField := by
  obtain ⟨n, hn⟩ : ∃ n, scope.toNat = n + 5 := ⟨scope.toNat - 5, by omega⟩
  simp only [parseFrame, parseQuery, hn]

theorem parseFrame_queryUnsized (h : body = [] ∨ (body[0]? ∈ [some 0x00#8, some 0x03#8, some 0x04#8] ∧ body.length ≠ 1) ∨
    (body[0]? ∈ [some 0x01#8, some 0x02#8] ∧ body.length ≠ 2)) : parseFrame 0x05 ch tag body = .refused .frameError := by
  cases body with
  | nil => rfl
  | cons scope rest =>
    simp only [List.getElem?_cons_zero, List.mem_cons, Option.some.injEq, List.not_mem_nil, or_false, List.length_cons,
      reduceCtorEq, false_or] at h
    rcases h with ⟨rfl | rfl | rfl, length⟩ | ⟨rfl | rfl, length⟩ <;> exact sized_ne (by omega)

theorem parseFrame_ejectNormal (y level : Byte) :
    parseFrame 0x08 ch tag [y, 0x00#8, level] = .request (.ejectNormal ch tag (bayOf y.toNat) level.toNat) := by
  simp only [parseFrame, parseEject, fieldAt_one]
  rfl

theorem parseFrame_ejectForced (y level : Byte) :
    parseFrame 0x08 ch tag [y, 0x01#8, level] = .request (.ejectForced ch tag (bayOf y.toNat) level.toNat) := by
  simp only [parseFrame, parseEject, fieldAt_one]
  rfl

theorem parseFrame_ejectUnknown (y level : Byte) {forced : Byte} (h : 1 < forced.toNat) :
    parseFrame 0x08 ch tag [y, forced, level] = .refused .badField := by
  obtain ⟨n, hn⟩ : ∃ n, fieldAt [y, forced, level] 1 1 = n + 2 := ⟨forced.toNat - 2, by
    rw [fieldAt_one]
    exact (Nat.sub_add_cancel h).symm⟩
  show parseEject ch tag [y, forced, level] = _
  unfold parseEject
  rw [hn]
  rfl

theorem parseFrame_ejectUnsized (h : body.length ≠ 3) : parseFrame 0x08 ch tag body = .refused .frameError := by
  show parseEject ch tag body = _
  unfold parseEject
  split
  · exact sized_ne h
  · exact sized_ne h
  · exact if_neg h

theorem parseFrame_openPlain (y ring l1 l0 p1 p0 : Byte) :
    parseFrame 0x10 ch tag [y, ring, l1, l0, p1, p0, 0x00#8] = .request (.openStream ch tag (bayOf y.toNat) ring.toNat
      (l1.toNat * 256 + l0.toNat) (p1.toNat * 256 + p0.toNat) none) := by
  simp only [parseFrame, parseOpen, fieldAt_one, fieldAt_two]
  rfl

theorem parseFrame_openMarked (y ring l1 l0 p1 p0 low high prime : Byte) :
    parseFrame 0x10 ch tag [y, ring, l1, l0, p1, p0, 0x01#8, low, high, prime] =
      .request (.openStream ch tag (bayOf y.toNat) ring.toNat (l1.toNat * 256 + l0.toNat) (p1.toNat * 256 + p0.toNat)
        (some ⟨low.toNat, high.toNat, prime.toNat⟩)) := by
  simp only [parseFrame, parseOpen, marksAt, fieldAt_one, fieldAt_two]
  rfl

/-- An OPEN_STREAM's length that does not suit its presence marker. -/
theorem parseFrame_openUnsized (h : (body.length ≠ 7 ∧ body.length ≠ 10) ∨ (body.length = 7 ∧ body[6]? ≠ some 0x00#8) ∨
    (body.length = 10 ∧ body[6]? ≠ some 0x01#8)) : parseFrame 0x10 ch tag body = .refused .frameError := by
  have marker : ∀ y : Byte, body[6]? ≠ some y → 6 < body.length → fieldAt body 6 1 ≠ y.toNat := fun y ne long e => by
    rw [fieldAt_one, List.getD_eq_getElem?_getD, List.getElem?_eq_getElem long] at e
    exact ne ((List.getElem?_eq_getElem long).trans (congrArg some (BitVec.eq_of_toNat_eq e)))
  show parseOpen ch tag body = _
  unfold parseOpen
  dsimp only
  split
  · rename_i zero
    refine sized_ne fun seven => ?_
    rcases h with ⟨ne, -⟩ | ⟨-, other⟩ | ⟨ten, -⟩
    · exact ne seven
    · exact marker 0x00#8 other (by omega) zero
    · omega
  · rename_i one
    refine sized_ne fun ten => ?_
    rcases h with ⟨-, ne⟩ | ⟨seven, -⟩ | ⟨-, other⟩
    · exact ne ten
    · omega
    · exact marker 0x01#8 other (by omega) one
  · rfl

end Sys2Proof.Machine
end

section
/-! Bodies that are refused by their length, kinds that Table 13-3 does not give, and the bodies of SET_ZONES and SETUP. -/

namespace Sys2Proof.Machine

variable {ch : Fin 4} {tag : Fin 256} {body rest : Data}

/-! ### Refused by kind or length -/

theorem parseFrame_unknown {n : Nat} (h : n ∉ [0x01, 0x02, 0x03, 0x04, 0x05, 0x06, 0x07, 0x08, 0x09, 0x0A, 0x0B, 0x10, 0x11,
    0x12, 0x13, 0x14, 0x15, 0x16, 0x1F]) : parseFrame n ch tag body = .refused .unknownKind := by
  unfold parseFrame
  dsimp only
  split
  on_goal -1 => rfl
  all_goals simp at h

/-- The kinds whose bodies have one length (R179). -/
theorem parseFrame_unsized {kind : Byte} {n : Nat} (h : (kind, n) ∈ [(0x01#8, 6), (0x02#8, 6), (0x04#8, 1), (0x07#8, 21),
    (0x08#8, 3), (0x0A#8, 1), (0x0B#8, 0), (0x11#8, 3), (0x12#8, 6), (0x13#8, 0), (0x14#8, 0), (0x15#8, 0), (0x16#8, 0),
    (0x1F#8, 0)]) (length : body.length ≠ n) : parseFrame kind.toNat ch tag body = .refused .frameError := by
  by_cases eject : kind = 0x08#8
  · subst eject
    obtain rfl : n = 3 := by simpa using h
    exact parseFrame_ejectUnsized length
  · simp only [List.mem_cons, Prod.mk.injEq, eject, false_and, false_or, List.not_mem_nil, or_false] at h
    rcases h with ⟨rfl, rfl⟩ | ⟨rfl, rfl⟩ | ⟨rfl, rfl⟩ | ⟨rfl, rfl⟩ | ⟨rfl, rfl⟩ | ⟨rfl, rfl⟩ | ⟨rfl, rfl⟩ | ⟨rfl, rfl⟩ |
      ⟨rfl, rfl⟩ | ⟨rfl, rfl⟩ | ⟨rfl, rfl⟩ | ⟨rfl, rfl⟩ | ⟨rfl, rfl⟩ <;> exact sized_ne length

/-! ### SET_ZONES -/

/-- A zone in the eight bytes of a SET_ZONES (log entry 16). -/
def zoneField (z : Zone) : Data := toBytes 3 z.first ++ toBytes 3 z.last ++ [z.readMask, z.writeMask]

theorem zoneField_length (z : Zone) : (zoneField z).length = 8 := by simp [zoneField]

theorem zoneFields_length (zs : List Zone) : (zs.flatMap zoneField).length = 8 * zs.length := by
  simp [List.length_flatMap, zoneField_length, Nat.mul_comm]

/-- A zone of three-byte bounds reads back from its place. -/
theorem bodyZone_of_eq {d before after : Data} {z : Zone} {i : Nat} (hd : d = before ++ zoneField z ++ after)
    (hb : before.length = 3 + 8 * i) (first : z.first < 16777216) (last : z.last < 16777216) : bodyZone d i = z := by
  have hfirst : fieldAt d (3 + 8 * i) 3 = z.first :=
    fieldAt_of_eq (pre := before) (post := toBytes 3 z.last ++ [z.readMask, z.writeMask] ++ after)
      (by simp [hd, zoneField]) hb first
  have hlast : fieldAt d (6 + 8 * i) 3 = z.last :=
    fieldAt_of_eq (pre := before ++ toBytes 3 z.first) (post := [z.readMask, z.writeMask] ++ after)
      (by simp [hd, zoneField]) (by simp [hb]; omega) last
  have hread : fieldAt d (9 + 8 * i) 1 = z.readMask.toNat :=
    fieldAt_of_eq (pre := before ++ toBytes 3 z.first ++ toBytes 3 z.last) (post := [z.writeMask] ++ after)
      (by simp [hd, zoneField, toBytes_one]) (by simp [hb]; omega) z.readMask.isLt
  have hwrite : fieldAt d (10 + 8 * i) 1 = z.writeMask.toNat :=
    fieldAt_of_eq (pre := before ++ toBytes 3 z.first ++ toBytes 3 z.last ++ [z.readMask]) (post := after)
      (by simp [hd, zoneField, toBytes_one]) (by simp [hb]; omega) z.writeMask.isLt
  cases z
  simp_all [bodyZone]

theorem parseFrame_setZones (y level : Byte) {zs : List Zone} (few : zs.length ≤ 127)
    (bounds : ∀ z ∈ zs, z.first < 16777216 ∧ z.last < 16777216) :
    parseFrame 0x09 ch tag ([y, level, BitVec.ofNat 8 zs.length] ++ zs.flatMap zoneField) =
      .request (.setZones ch tag (bayOf y.toNat) level.toNat zs) := by
  have count : (BitVec.ofNat 8 zs.length).toNat = zs.length := by
    rw [BitVec.toNat_ofNat]
    omega
  have read : (List.range zs.length).map
      (bodyZone ([y, level, BitVec.ofNat 8 zs.length] ++ zs.flatMap zoneField)) = zs := by
    refine List.ext_getElem (by simp) fun i _ hi => ?_
    rw [List.getElem_map, List.getElem_range]
    obtain ⟨before, after, hd, hlen⟩ := exists_record (post := []) zoneField_length (List.append_nil _).symm hi
    obtain ⟨first, last⟩ := bounds _ (List.getElem_mem hi)
    exact bodyZone_of_eq hd hlen first last
  have length : ([y, level, BitVec.ofNat 8 zs.length] ++ zs.flatMap zoneField).length = 3 + 8 * zs.length := by
    rw [List.length_append, zoneFields_length]
    rfl
  have counted : fieldAt ([y, level, BitVec.ofNat 8 zs.length] ++ zs.flatMap zoneField) 2 1 = zs.length :=
    (fieldAt_one _ _).trans count
  show parseSetZones ch tag _ = _
  unfold parseSetZones
  dsimp only
  rw [counted, sized_eq length, read, fieldAt_one, fieldAt_one]
  rfl

/-- A SET_ZONES's length that does not suit its count. -/
theorem parseFrame_setZonesUnsized (h : body.length < 3 ∨ ∃ n : Byte, body[2]? = some n ∧ body.length ≠ 3 + 8 * n.toNat) :
    parseFrame 0x09 ch tag body = .refused .frameError := by
  refine sized_ne ?_
  rcases h with short | ⟨n, count, length⟩
  · omega
  · rwa [fieldAt_one, List.getD_eq_getElem?_getD, count]

/-! ### SETUP -/

/-- A field as a SETUP spells it: its presence marker, and its bytes where it is present (R188). -/
def spelled (o : Option Data) : Data := o.elim [0x00#8] fun d => 0x01#8 :: d

theorem takeField_spelled {k : Nat} {o : Option Data} (h : ∀ d, o = some d → d.length = k) (rest : Data) :
    takeField k (spelled o ++ rest) = some (o, rest) := by
  cases o with
  | none => rfl
  | some d =>
    have length := h d rfl
    have room : k ≤ (d ++ rest).length := by simp [length]
    show (if k ≤ (d ++ rest).length then some (some ((d ++ rest).take k), (d ++ rest).drop k) else none) = _
    rw [if_pos room, List.take_left' length, List.drop_left' length]

/-- Fields of their widths are taken one after another; the body must end with the last. -/
theorem takeFields_spelled {ks : List Nat} {os : List (Option Data)}
    (h : List.Forall₂ (fun k o => ∀ d, o = some d → d.length = k) ks os) (rest : Data) :
    takeFields ks (os.flatMap spelled ++ rest) = if rest = [] then some os else none := by
  induction h with
  | nil => rfl
  | cons head _ ih =>
    rw [List.flatMap_cons, List.append_assoc, takeFields, takeField_spelled head]
    dsimp only
    rw [ih]
    split <;> rfl

theorem takeField_consumes {k : Nat} {d : Data} {o : Option Data} (h : takeField k d = some (o, rest)) :
    rest.length < d.length := by
  unfold takeField at h
  split at h
  · exact nomatch h
  · split at h
    · cases h
      exact Nat.lt_succ_self _
    · split at h
      · cases h
        rw [List.length_drop, List.length_cons]
        omega
      · exact nomatch h
    · exact nomatch h

/-- Every field has its marker at least. -/
theorem takeFields_length {ks : List Nat} {d : Data} {os : List (Option Data)} (h : takeFields ks d = some os) :
    ks.length ≤ d.length := by
  induction ks generalizing d os with
  | nil => exact Nat.zero_le _
  | cons k ks ih =>
    unfold takeFields at h
    split at h
    · exact nomatch h
    · rename_i taken
      obtain ⟨xs, hxs, -⟩ := Option.map_eq_some_iff.mp h
      exact Nat.succ_le_of_lt (Nat.lt_of_le_of_lt (ih hxs) (takeField_consumes taken))

theorem parseFrame_setupShort (h : body.length < 9) : parseFrame 0x06 ch tag body = .refused .frameError := by
  show parseSetup ch tag body = _
  unfold parseSetup
  split
  · rename_i taken
    exact absurd (takeFields_length taken) (Nat.not_le.mpr h)
  · rfl

theorem parseFrame_setup {os : List (Option Data)}
    (h : List.Forall₂ (fun k o => ∀ d, o = some d → d.length = k) [2, 2, 8, 1, 1, 2, 2, 1, 1] os) (rest : Data) :
    parseFrame 0x06 ch tag (os.flatMap spelled ++ rest) =
      if rest = [] then .request (.setup ch tag (setupOf os)) else .refused .frameError := by
  show parseSetup ch tag _ = _
  unfold parseSetup
  rw [takeFields_spelled h]
  by_cases ends : rest = []
  · rw [if_pos ends, if_pos ends]
  · rw [if_neg ends, if_neg ends]

end Sys2Proof.Machine
end

section
/-! The fields of a SETUP, each by its marker (R181, R182, R188), and the kinds of frames one by one. -/

namespace Sys2Proof.Machine

variable {ch : Fin 4} {tag : Fin 256} {body rest : Data}

/-- The nine fields of a SETUP in the order of R181. -/
structure SetupBytes where
  cap : Option (Byte × Byte)
  margin : Option (Byte × Byte)
  slices : Option Data
  modeA : Option Byte
  modeB : Option Byte
  turnA : Option (Byte × Byte)
  turnB : Option (Byte × Byte)
  weakA : Option Byte
  weakB : Option Byte

/-- A field of two bytes. -/
def pairField (o : Option (Byte × Byte)) : Option Data := o.map fun y => [y.1, y.2]

/-- A field of one byte. -/
def byteField (o : Option Byte) : Option Data := o.map fun y => [y]

/-- The fields with their bytes. -/
def SetupBytes.fields (f : SetupBytes) : List (Option Data) :=
  [pairField f.cap, pairField f.margin, f.slices, byteField f.modeA, byteField f.modeB, pairField f.turnA,
    pairField f.turnB, byteField f.weakA, byteField f.weakB]

theorem pairField_length (o : Option (Byte × Byte)) : ∀ d, pairField o = some d → d.length = 2 := fun d h => by
  obtain ⟨y, -, rfl⟩ := Option.map_eq_some_iff.mp h
  rfl

theorem byteField_length (o : Option Byte) : ∀ d, byteField o = some d → d.length = 1 := fun d h => by
  obtain ⟨y, -, rfl⟩ := Option.map_eq_some_iff.mp h
  rfl

theorem SetupBytes.widths (f : SetupBytes) (h : ∀ d, f.slices = some d → d.length = 8) :
    List.Forall₂ (fun k o => ∀ d, o = some d → d.length = k) [2, 2, 8, 1, 1, 2, 2, 1, 1] f.fields :=
  .cons (pairField_length _) (.cons (pairField_length _) (.cons h (.cons (byteField_length _) (.cons (byteField_length _)
    (.cons (pairField_length _) (.cons (pairField_length _) (.cons (byteField_length _)
      (.cons (byteField_length _) .nil))))))))

theorem ofBytes_pairField (o : Option (Byte × Byte)) :
    (pairField o).map ofBytes = o.map fun y => y.1.toNat * 256 + y.2.toNat := by
  cases o with
  | none => rfl
  | some y => simp [pairField, ofBytes]

/-- A thing that one byte names. -/
theorem named_byteField {α : Type} (f : Nat → Option α) (o : Option Byte) :
    ((byteField o).map fun d => f (ofBytes d)) = o.map fun y => f y.toNat := by
  cases o with
  | none => rfl
  | some y => simp [byteField, ofBytes]

/-- The request that the nine fields spell. -/
theorem setupOf_fields (f : SetupBytes) :
    setupOf f.fields =
      { readCap := f.cap.map fun y => y.1.toNat * 256 + y.2.toNat
        margin := f.margin.map fun y => y.1.toNat * 256 + y.2.toNat
        pattern := f.slices.map fun d => d.map fun y => sliceOf y.toNat
        mode := ⟨f.modeA.map fun y => modeOf y.toNat, f.modeB.map fun y => modeOf y.toNat⟩
        spinDown := ⟨f.turnA.map fun y => y.1.toNat * 256 + y.2.toNat, f.turnB.map fun y => y.1.toNat * 256 + y.2.toNat⟩
        weak := ⟨f.weakA.map fun y => weakOf y.toNat, f.weakB.map fun y => weakOf y.toNat⟩ } := by
  simp only [← ofBytes_pairField, ← named_byteField]
  rfl

section
variable {two : Option (Byte × Byte) → Data} {one : Option Byte → Data}
  (hone : ∀ o : Option Byte, one o = o.elim [0x00#8] fun y => [0x01#8, y])
  (htwo : ∀ o : Option (Byte × Byte), two o = o.elim [0x00#8] fun y => [0x01#8, y.1, y.2])
include hone htwo

/-- The bytes of the nine fields in a row. -/
theorem SetupBytes.spelled_eq (f : SetupBytes) :
    two f.cap ++ two f.margin ++ f.slices.elim [0x00#8] (fun y => 0x01#8 :: y) ++ one f.modeA ++ one f.modeB ++
      two f.turnA ++ two f.turnB ++ one f.weakA ++ one f.weakB ++ rest = f.fields.flatMap spelled ++ rest := by
  have pair : ∀ o, spelled (pairField o) = two o := fun o => by
    rw [htwo]
    cases o <;> rfl
  have byte : ∀ o, spelled (byteField o) = one o := fun o => by
    rw [hone]
    cases o <;> rfl
  have slices : spelled f.slices = f.slices.elim [0x00#8] (fun y => 0x01#8 :: y) := rfl
  simp only [SetupBytes.fields, List.flatMap_cons, List.flatMap_nil, pair, byte, slices, List.append_assoc, List.append_nil]

end

section
variable {kind : Byte}

/-- Every length that does not suit its kind is refused (R178, check 4). -/
theorem parseFrame_badLength (h :
    (∃ n : Nat, (kind, n) ∈ [(0x01#8, 6), (0x02#8, 6), (0x04#8, 1), (0x07#8, 21), (0x08#8, 3), (0x0A#8, 1), (0x0B#8, 0),
        (0x11#8, 3), (0x12#8, 6), (0x13#8, 0), (0x14#8, 0), (0x15#8, 0), (0x16#8, 0), (0x1F#8, 0)] ∧ body.length ≠ n) ∨
      (kind = 0x03#8 ∧ ((body.length ≠ 2 ∧ body.length ≠ 1026) ∨ (body.length = 2 ∧ body[1]? = some 0x00#8) ∨
        (body.length = 1026 ∧ body[1]? ≠ some 0x00#8))) ∨
      (kind = 0x05#8 ∧ (body = [] ∨
        (body[0]? ∈ [some 0x00#8, some 0x03#8, some 0x04#8] ∧ body.length ≠ 1) ∨
        (body[0]? ∈ [some 0x01#8, some 0x02#8] ∧ body.length ≠ 2))) ∨
      (kind = 0x06#8 ∧ body.length < 9) ∨
      (kind = 0x09#8 ∧ (body.length < 3 ∨ ∃ n : Byte, body[2]? = some n ∧ body.length ≠ 3 + 8 * n.toNat)) ∨
      (kind = 0x10#8 ∧ ((body.length ≠ 7 ∧ body.length ≠ 10) ∨ (body.length = 7 ∧ body[6]? ≠ some 0x00#8) ∨
        (body.length = 10 ∧ body[6]? ≠ some 0x01#8)))) : parseFrame kind.toNat ch tag body = .refused .frameError := by
  rcases h with ⟨n, width, length⟩ | ⟨rfl, h⟩ | ⟨rfl, h⟩ | ⟨rfl, h⟩ | ⟨rfl, h⟩ | ⟨rfl, h⟩
  · exact parseFrame_unsized width length
  · exact parseFrame_sectorUnsized h
  · exact parseFrame_queryUnsized h
  · exact parseFrame_setupShort h
  · exact parseFrame_setZonesUnsized h
  · exact parseFrame_openUnsized h

/-- A kind byte of no request (Table 13-3). -/
theorem parseFrame_unknownByte (h : kind ∉ [0x01#8, 0x02#8, 0x03#8, 0x04#8, 0x05#8, 0x06#8, 0x07#8, 0x08#8,
    0x09#8, 0x0A#8, 0x0B#8, 0x10#8, 0x11#8, 0x12#8, 0x13#8, 0x14#8, 0x15#8, 0x16#8, 0x1F#8]) :
    parseFrame kind.toNat ch tag body = .refused .unknownKind :=
  parseFrame_unknown fun mem => h ((List.mem_map_of_injective (f := BitVec.toNat) fun _ _ => BitVec.eq_of_toNat_eq).mp mem)

end

end Sys2Proof.Machine

namespace Sys2Proof.Linking
open Machine

/-- Settles O13: the byte ends its frame, whose header and body are read kind by kind. -/
theorem framesHandedOn : Obligations.FramesHandedOn := by
  refine ⟨⟨fun kind ch tag i s hw hl ha row => ?_, fun ch tag target s hw hl ha => ?_, fun ch tag b s hw hl ha => ?_,
    fun ch tag f2 f1 f0 count level b s hw hl => ⟨fun ha => ?_, fun ha => ?_⟩, fun kind ch tag s hw hl h ha => ?_,
    fun kind ch tag x bytes body s t bay one two hw hl ha short whole ht hbay hone htwo => ?_,
    fun kind ch tag s hw hl ha unknown => ?_⟩, fun kind ch tag x bytes body s t hw hl ha short whole ht => ?_⟩
  · have f : EndsFrame tag kind (BitVec.ofNat 8 ch.val) tag [] s := ⟨hw, hl, Nat.zero_le _, _, ha, rfl⟩
    obtain ⟨parsed, request⟩ := parseFrame_bare tag row
    exact f.request parsed request
  · have f : EndsFrame target 0x04#8 (BitVec.ofNat 8 ch.val) tag [target] s := 
      .of_short hw hl ha (by simp) rfl
    exact f.request (parseFrame_cancel target) rfl
  · have f : EndsFrame (BitVec.ofNat 8 (bayPosition b)) 0x0A#8 (BitVec.ofNat 8 ch.val) tag [BitVec.ofNat 8 (bayPosition b)] s :=
      .of_short hw hl ha (by simp) rfl
    exact bayOf_position b ▸ f.request (parseFrame_bind _) rfl
  · have f : EndsFrame level 0x01#8 (BitVec.ofNat 8 ch.val) tag [BitVec.ofNat 8 (bayPosition b), f2, f1, f0, count, level] s :=
      .of_short hw hl ha (by simp) rfl
    exact bayOf_position b ▸ f.request (parseFrame_read _ f2 f1 f0 count level) rfl
  · have f : EndsFrame level 0x02#8 (BitVec.ofNat 8 ch.val) tag [BitVec.ofNat 8 (bayPosition b), f2, f1, f0, count, level] s :=
      .of_short hw hl ha (by simp) rfl
    exact bayOf_position b ▸ f.request (parseFrame_write _ f2 f1 f0 count level) rfl
  · have f : EndsFrame tag kind ch tag [] s := ⟨hw, hl, Nat.zero_le _, _, ha, rfl⟩
    exact f.badChannel h
  · have f : EndsFrame x kind (BitVec.ofNat 8 ch.val) tag body s := ⟨hw, hl, short, _, ha, whole⟩
    have named : ∀ y : Byte, bayOf y.toNat = bay y := fun y => (bayOf_byte y).trans (hbay y).symm
    subst ht
    refine ⟨?sector, ?query, ?setup, ?prepare, ?eject, ?setZones, ?openStream, ?setMarks, ?appendBand, fun unsuited =>
      f.refused (parseFrame_badLength unsuited)⟩
    case sector =>
      rintro rfl
      refine ⟨fun index data hb length => ?_, fun index status hb other => ?_⟩ <;> subst hb
      · exact f.request (parseFrame_sectorData index length) rfl
      · exact f.request (parseFrame_sectorStatus index other) rfl
    case query =>
      rintro rfl
      refine ⟨fun hb => ?_, fun y hb => ?_, fun y hb => ?_, fun hb => ?_, fun hb => ?_, fun scope rest hb unknown => ?_⟩ <;>
        subst hb
      · exact f.request (i := .queryDevice ch tag.toFin) rfl rfl
      · exact named y ▸ f.request (parseFrame_queryBay y) rfl
      · exact f.request (parseFrame_queryOperation y) rfl
      · exact f.request (i := .queryStream ch tag.toFin) rfl rfl
      · exact f.request (i := .queryMirror ch tag.toFin) rfl rfl
      · exact f.refused (parseFrame_queryUnknown unknown)
    case setup =>
      rintro rfl cap margin turnA turnB slices modeA modeB weakA weakB modeAt weakAt rest length hmode hweak hb
      have modes : modeAt = fun y => modeOf y.toNat := funext fun y => (hmode y).trans (modeOf_byte y).symm
      have weaks : weakAt = fun y => weakOf y.toNat := funext fun y => (hweak y).trans (weakOf_byte y).symm
      have parsed := parseFrame_setup (ch := ch) (tag := tag.toFin)
        (SetupBytes.widths ⟨cap, margin, slices, modeA, modeB, turnA, turnB, weakA, weakB⟩ length) rest
      rw [← SetupBytes.spelled_eq hone htwo, ← hb, setupOf_fields] at parsed
      subst modes weaks
      simp only [← sliceOf_byte]
      refine ⟨fun ends => f.request (parsed.trans (if_pos ends)) rfl, fun more => f.refused (parsed.trans (if_neg more))⟩
    case prepare =>
      rintro rfl y s3 s2 s1 s0 name rfl length
      exact named y ▸ f.request (parseFrame_prepare y s3 s2 s1 s0 length) rfl
    case eject =>
      rintro rfl y forced level rfl
      refine ⟨?_, ?_, fun unknown => f.refused (parseFrame_ejectUnknown y level unknown)⟩
      · rintro rfl
        exact named y ▸ f.request (parseFrame_ejectNormal y level) rfl
      · rintro rfl
        exact named y ▸ f.request (parseFrame_ejectForced y level) rfl
    case setZones =>
      rintro rfl y level zones few bounds rfl
      exact named y ▸ f.request (parseFrame_setZones y level few bounds) rfl
    case openStream =>
      rintro rfl y ring l1 l0 p1 p0 low high prime
      refine ⟨?_, ?_⟩ <;> rintro rfl
      · exact named y ▸ f.request (parseFrame_openPlain y ring l1 l0 p1 p0) rfl
      · exact named y ▸ f.request (parseFrame_openMarked y ring l1 l0 p1 p0 low high prime) rfl
    case setMarks =>
      rintro rfl low high prime rfl
      exact f.request (parseFrame_setMarks low high prime) rfl
    case appendBand =>
      rintro rfl f2 f1 f0 l2 l1 l0 rfl
      exact f.request (parseFrame_appendBand f2 f1 f0 l2 l1 l0) rfl
  · have f : EndsFrame tag kind (BitVec.ofNat 8 ch.val) tag [] s := ⟨hw, hl, Nat.zero_le _, _, ha, rfl⟩
    exact f.refused (parseFrame_unknown (by simp; omega))
  · have f : EndsFrame x kind ch tag body s := ⟨hw, hl, short, _, ha, whole⟩
    subst ht
    refine ⟨f.badChannel, fun channel unknown => ?_⟩
    obtain ⟨c, rfl⟩ := exists_channel channel
    rw [channel_toNat]
    exact f.refused (parseFrame_unknownByte unknown)

end Sys2Proof.Linking
end
